-- ==== Sys2Proof/Word.lean ====
section
/-! DEFINITION. The word types of the S9 and their plainest arithmetic (R2, R7, R10). -/

namespace Sys2Proof

/-- A 64-bit scalar register, CSR or address (R279). -/
abbrev Word := BitVec 64
/-- One byte of memory (R7). -/
abbrev Byte := BitVec 8
/-- A first or later word of an instruction (R259). -/
abbrev Word32 := BitVec 32
/-- One vector register v0-v31, 256 bytes (R298). -/
abbrev VReg := BitVec 2048
/-- One mask register, one bit per element (R193). -/
abbrev KReg := BitVec 4096

/-- sext(x, n) of R10 on an unbounded value read as n bits. -/
def sextNat (n x : Nat) : Int :=
  let y := x % 2 ^ n
  if 2 * y < 2 ^ n then (y : Int) else (y : Int) - (2 ^ n : Nat)

/-- The n low bits of an integer, as a natural number (a slice of R10). -/
def lowBits (n : Nat) (x : Int) : Nat := (x % ((2 ^ n : Nat) : Int)).toNat

/-- bits [hi : lo] of a natural number (R7). -/
def natBits (x hi lo : Nat) : Nat := (x / 2 ^ lo) % 2 ^ (hi + 1 - lo)

/-- bit n of a natural number (R7). -/
def natBit (x n : Nat) : Bool := x.testBit n

/-- ceil(a ÷ b) on naturals. -/
def ceilDiv (a b : Nat) : Nat := (a + b - 1) / b

/-- The number of significant bits of n: 0 for 0, else 1 + floor(log2 n). -/
def bitLen (n : Nat) : Nat := if n = 0 then 0 else Nat.log2 n + 1

end Sys2Proof
end

