-- ==== Sys2Proof/Machine/Types.lean ====
section
/-! DEFINITION. Element types (R235), coded types and shapes (R224, R225), register groups (R227, R304). -/

namespace Sys2Proof

/-- The 4-bit element type ET (R235). -/
inductive ET
  | int8 | int16 | int32 | int64 | bf16 | fp16 | fp32 | e4m3 | e5m2 | ci8
  | c1 | c2 | c3 | c4 | c8 | int4
  deriving DecidableEq, Repr

/-- R235: the type a 4-bit field names. -/
def ET.ofCode (n : Nat) : ET :=
  match n % 16 with
  | 0 => .int8 | 1 => .int16 | 2 => .int32 | 3 => .int64 | 4 => .bf16 | 5 => .fp16 | 6 => .fp32
  | 7 => .e4m3 | 8 => .e5m2 | 9 => .ci8 | 10 => .c1 | 11 => .c2 | 12 => .c3 | 13 => .c4 | 14 => .c8
  | _ => .int4

/-- R235: the code of a type. -/
def ET.code : ET → Nat
  | .int8 => 0 | .int16 => 1 | .int32 => 2 | .int64 => 3 | .bf16 => 4 | .fp16 => 5 | .fp32 => 6
  | .e4m3 => 7 | .e5m2 => 8 | .ci8 => 9 | .c1 => 10 | .c2 => 11 | .c3 => 12 | .c4 => 13 | .c8 => 14
  | .int4 => 15

/-- R235: width in bits. -/
def ET.width : ET → Nat
  | .int8 => 8 | .int16 => 16 | .int32 => 32 | .int64 => 64 | .bf16 => 16 | .fp16 => 16 | .fp32 => 32
  | .e4m3 => 8 | .e5m2 => 8 | .ci8 => 8 | .c1 => 1 | .c2 => 2 | .c3 => 3 | .c4 => 4 | .c8 => 8
  | .int4 => 4

/-- INT8 to INT64: the integer types of R306. -/
def ET.isInt : ET → Bool
  | .int8 | .int16 | .int32 | .int64 => true
  | _ => false

/-- R235: the integer class, INT4 with it. -/
def ET.isInteger (t : ET) : Bool := t.isInt || t == .int4

/-- R235: the float class. -/
def ET.isFloat : ET → Bool
  | .bf16 | .fp16 | .fp32 | .e4m3 | .e5m2 => true
  | _ => false

/-- FP32, BF16, FP16: the types VFLT computes in (R306). -/
def ET.isFp : ET → Bool
  | .fp32 | .bf16 | .fp16 => true
  | _ => false

/-- R224: the coded index types. -/
def ET.isCoded : ET → Bool
  | .c1 | .c2 | .c3 | .c4 | .c8 => true
  | _ => false

/-- R225: the factor of a shape. -/
def shapeFactor (sh : Nat) : Nat := 2 ^ (sh % 4)

/-- R225: the expansion types a shape allows. -/
def shapeAllows (sh : Nat) (xt : ET) : Bool :=
  match sh % 4 with
  | 0 => xt == .fp32 || xt == .bf16 || xt == .fp16 || xt == .int32 || xt == .int16 || xt == .int8 || xt == .e4m3
  | 1 => xt == .fp32 || xt == .int32 || xt == .bf16
  | 2 => xt == .bf16 || xt == .fp16
  | _ => xt == .int8 || xt == .e4m3

/-- R261: the register count an LMUL field names. -/
def lmulOf (f : Nat) : Nat := 2 ^ (f % 4)

/-- R298, R302: the element count of a grouping at width w. -/
def vlmaxOf (lm w : Nat) : Nat := lm * 2048 / w

/-- R227, R304: the smallest of 1, 2, 4 and 8 registers that holds so many bits. -/
def emulOf (bits : Nat) : Nat :=
  if bits ≤ 2048 then 1 else if bits ≤ 4096 then 2 else if bits ≤ 8192 then 4 else 8

/-- A run of vector registers (R304). -/
structure RegGroup where
  reg : Nat
  count : Nat
  deriving DecidableEq, Repr

/-- R262: the group starts at a multiple of its size and ends at or below v31. -/
def RegGroup.aligned (g : RegGroup) : Bool := g.reg % g.count == 0 && g.reg + g.count ≤ 32

/-- R304: two groups share no register. -/
def RegGroup.disjoint (g h : RegGroup) : Bool := g.reg + g.count ≤ h.reg || h.reg + h.count ≤ g.reg

/-- R304: groups of one element width are the same registers or share none. -/
def RegGroup.sameOrDisjoint (g h : RegGroup) : Bool := g == h || g.disjoint h

end Sys2Proof
end

