-- ==== Sys2Proof/Fields.lean ====
section
/-! DEFINITION. The operand fields of an instruction, one record per layout of R260 and R261, and of a BLU word (R375). -/

namespace Sys2Proof

/-- STALL and C, common to every first word (R260). -/
structure Hd where
  stall : BitVec 3
  c : Bool
  deriving DecidableEq, Repr

/-- R-form base word (R260). -/
structure RF where
  hd : Hd
  d : BitVec 5
  a : BitVec 5
  b : BitVec 5
  deriving DecidableEq, Repr

/-- I-form base word (R260). -/
structure IF where
  hd : Hd
  imm : BitVec 10
  a : BitVec 5
  d : BitVec 5
  deriving DecidableEq, Repr

/-- I-form word of major 0x06: IMM[5:0] is the amount, IMM[7:6] selects the instruction (R287). -/
structure SF where
  hd : Hd
  amt : BitVec 6
  a : BitVec 5
  d : BitVec 5
  deriving DecidableEq, Repr

/-- I-form word and its 64-bit literal (R264). -/
structure ILF where
  i : IF
  lit : Word
  deriving DecidableEq, Repr

/-- B-form base word (R260). -/
structure BF where
  hd : Hd
  off : BitVec 10
  b : BitVec 5
  a : BitVec 5
  deriving DecidableEq, Repr

/-- J-form base word (R260). -/
structure JF where
  hd : Hd
  off : BitVec 15
  d : BitVec 5
  deriving DecidableEq, Repr

/-- J-form word and its 64-bit literal (R264). -/
structure JLF where
  j : JF
  lit : Word
  deriving DecidableEq, Repr

/-- R-form word and its 64-bit literal (VSETVLI, R299). -/
structure RLF where
  r : RF
  lit : Word
  deriving DecidableEq, Repr

/-- Extended word 1 (R261). -/
structure Ext1 where
  shb : BitVec 2
  cbb : BitVec 4
  cb : Bool
  sha : BitVec 2
  cba : BitVec 4
  ca : Bool
  lmul : BitVec 2
  etb : BitVec 4
  eta : BitVec 4
  etd : BitVec 4
  kn : Bool
  km : BitVec 3
  deriving DecidableEq, Repr

/-- Extended word 2 (R261). -/
structure Ext2 where
  imm16 : BitVec 16
  sat : Bool
  rm : BitVec 3
  cache : BitVec 2
  ar : Bool
  strength : BitVec 2
  scope : BitVec 3
  x : Bool
  o : Bool
  qb : Bool
  qa : Bool
  deriving DecidableEq, Repr

/-- Extended form: word 0 in R-form and the two extended words (R259). -/
structure XF where
  r : RF
  w1 : Ext1
  w2 : Ext2
  deriving DecidableEq, Repr

/-- Extended form of majors 0x28 to 0x2A, with or without a literal (R267, R269). -/
structure XLF where
  x : XF
  lit : Option Word
  deriving DecidableEq, Repr

/-- Guard of a BLU word (R375). -/
structure Guard where
  g : BitVec 3
  gk : Bool
  deriving DecidableEq, Repr

/-- TBUILD.R and TBUILD.T (R377); r22 and rlow are their reserved bits. -/
structure TbF where
  gd : Guard
  k : BitVec 2
  g : BitVec 3
  r22 : Bool
  wa : BitVec 3
  t : BitVec 2
  ew : Bool
  aw : Bool
  rlow : BitVec 9
  deriving DecidableEq, Repr

/-- A BLU word with no operand: [27:6] reserved (R377, R378). -/
structure NoF where
  gd : Guard
  res : BitVec 22
  deriving DecidableEq, Repr

/-- CBLDB and SKIPZ: WA in [21:19], the rest reserved (R377, R381). -/
structure WaF where
  gd : Guard
  rhi : BitVec 6
  wa : BitVec 3
  rlo : BitVec 13
  deriving DecidableEq, Repr

/-- LUACC, LUACC.S, ACCPUT and RTREE (R378). -/
structure OutF where
  gd : Guard
  op : BitVec 2
  level : BitVec 2
  joff : BitVec 8
  ooff : BitVec 10
  deriving DecidableEq, Repr

/-- BLDW and BSTW (R379). -/
structure MoveF where
  gd : Guard
  sel : BitVec 2
  r25 : Bool
  w : BitVec 3
  r20 : BitVec 2
  koff : BitVec 4
  ooff : BitVec 10
  deriving DecidableEq, Repr

/-- BCVT (R381). -/
structure CvtF where
  gd : Guard
  me : Bool
  ms : BitVec 2
  wd : BitVec 3
  wa : BitVec 3
  r16 : BitVec 3
  cv : BitVec 2
  hi : Bool
  r6 : BitVec 7
  deriving DecidableEq, Repr

/-- MAND and MNOT (R381). -/
structure MaskF where
  gd : Guard
  r27 : Bool
  md : BitVec 2
  ma : BitVec 2
  mb : BitVec 2
  r6 : BitVec 15
  deriving DecidableEq, Repr

/-- Lane operations (R380) and, with MD in MS, cc in WD, BCMP (R381). -/
structure LaneF where
  gd : Guard
  me : Bool
  ms : BitVec 2
  wd : BitVec 3
  wa : BitVec 3
  wb : BitVec 3
  ib : Bool
  imm9 : BitVec 9
  deriving DecidableEq, Repr

/-- A strand context slot: core 0-127, or 128 + conductor id with slot 0 (R191, R192). -/
structure SlotRef where
  core : Nat
  slot : Nat
  deriving DecidableEq, Repr

/-- What one Lomux port learns of its peer in training: module id, domain size, and whether the
    cabling matches the shape; none when nothing answers (R25). -/
structure PeerInfo where
  mod : Nat
  size : Nat
  cabled : Bool
  deriving DecidableEq, Repr

/-- Modes of an object (R113). -/
inductive ObjMode
  | lease | accord | stashed (core : Nat) (slot : Nat)
  deriving DecidableEq, Repr

/-- A run of lines or bytes: first and count. -/
structure Span where
  first : Nat
  count : Nat
  deriving DecidableEq, Repr

/-- An object descriptor (R114, R115): the spans of lines it tags and of bytes it covers, in
    ascending physical addresses, and `virt` the spans of bytes as OBJDECL named them, in virtual addresses. -/
structure Obj where
  mode : ObjMode
  tile : Bool
  base : Word
  len : Nat
  defop : Nat
  lease : Nat
  lines : List Span
  bytes : List Span
  virt : List Span
  ctx : Nat
  deriving DecidableEq, Repr

/-- A scratch reservation that a unit of a context holds on a core (R106). -/
structure Reservation where
  core : Nat
  ctx : Nat
  base : Nat
  size : Nat
  deriving DecidableEq, Repr

/-- What another module of the domain answers this one's requests by (R16, R106, R113): its capacity, the reservations its
    units hold, and the objects of its table, in its own device physical addresses. -/
structure Peer where
  ceil : Nat
  reservations : List Reservation
  objs : List (Nat × Obj)
  deriving DecidableEq, Repr

/-- What another module has told of itself and this one takes in at a time (R72), with those of its ports that are down (R28). -/
structure News where
  due : Nat
  mod : Nat
  peer : Peer
  down : List Nat
  deriving DecidableEq, Repr

/-- What a REFRESH finds (R17, R18): the lines that the patrol scrub reads in its window, and those in which a symbol has gone wrong since
    the last one, that the code corrects (`weak`) or only detects (`lost`). -/
structure Patrol where
  scrubbed : List Nat
  weak : List Nat
  lost : List Nat
  deriving DecidableEq, Repr

/-- A participant of a collective in another module (R351, R352): its DST as runs of an address and a length, and its DONE word, in 52-bit
    physical addresses; its descriptor's fields, the agent bits of the dots that a delivery to it makes (R142), and the bytes of its SRC. -/
structure FarParticipant where
  mod : Nat
  npart : Nat
  bytes : Nat
  op : Nat
  et : Nat
  rank : Nat
  data : List Byte
  dst : List (Nat × Nat)
  done : Nat
  agent : Word
  deriving DecidableEq, Repr

/-- Who arrives at a rendezvous record (R352): a unit of this module, a participant of another module, or the news that one of another
    module has been cancelled since its arrival. -/
inductive Participant
  | near (u : SlotRef)
  | far (f : FarParticipant)
  | farCancelled
  deriving DecidableEq, Repr

/-- A function of an atomic memory operation (R323). -/
inductive AmoFn
  | add | and | or | xor | min | max | minu | maxu | swap | cas
  deriving DecidableEq, Repr

/-- The kind of access a page walk serves (R99). -/
inductive AccessKind
  | fetch | load | store | amo
  deriving DecidableEq, Repr

end Sys2Proof
end

