-- ==== Sys2Proof/Syntax.lean ====
section
/-! DEFINITION. Every row of spec/opcode_table.json as a constructor: the events of the part's agents with the values that reach them from outside, the core instructions in each length the table lists, and the BLU words. -/

namespace Sys2Proof

/-- One step of the part (R259-R271 for the encoded ones, spec/95 for the events). -/
inductive Instr
  | reset
  | bootStageDone (ok : Bool) (cxl : Bool)
  | domainWrite (v : Word) (peers : List (Option PeerInfo))
  | domainWaitTimeout (peers : List (Option PeerInfo))
  | lomuxPortDown (mod port : Nat)
  | routeError (u : SlotRef) (va : Word)
  | linkLevelRetry (port : Nat)
  | refresh (found : Patrol)
  | thermalSample (tlogic tdram : Byte)
  | fwAssert
  | internalUe
  | dieLinkFailure
  | enq (whole : Bool) (data : BitVec 128)
  | openWindow (v : Word)
  | reattach (v : Word)
  | hostAckDseq (v : Word)
  | msixModerationExpiry
  | registerWrite (off : Nat) (v : Word)
  | clearOnRead (off : Nat)
  | reconcileCount (slot : Nat) (cmd : Word)
  | reconcileBlend (slot : Nat) (cmd : Word)
  | reconcileRead (slot : Nat) (cmd : Word)
  | layoutChange (peers : List (Option PeerInfo))
  | fwBegin
  | fwChunk
  | fwCommit
  | attest
  | attestRead
  | certRead
  | dumpNow
  | dumpRead
  | cxlMemRead (pa n : Nat)
  | memwr (pa : Nat) (data : List Byte)
  | memwrptl (pa : Nat) (data : List (Option Byte))
  | bar4Read (pa n : Nat)
  | bar4Write (pa : Nat) (data : List (Option Byte))
  | snpinv (ha : Nat)
  | snpdata (ha : Nat)
  | snpcur (ha : Nat)
  | birsp (pa : Nat) (data : List Byte)
  | hostLineResponse (ha : Nat) (exclusive : Bool) (data : List Byte)
  | hostReadCompletion (ha : Nat) (data : List Byte)
  | atomicopCompletion (ha : Nat) (data : List Byte)
  | zeroLengthReadCompletion (u : SlotRef)
  | homeRead (core pa : Nat)
  | homeWrite (core pa : Nat) (data : List Byte)
  | writeAck (u : SlotRef)
  | leaseExpiry (obj : Nat)
  | homeAmo (u : Option SlotRef) (f : AmoFn) (pa n : Nat) (cmp y : BitVec 128)
  | accordStore (u : SlotRef) (pa : Nat) (v : Word)
  | accordBlend (u : SlotRef) (pa : Nat) (op : BitVec 4) (cond : Bool) (v : Word)
  | scratchpadPortAccess (core off n : Nat) (store : Option Word)
  | feDeadline (u : SlotRef)
  | stashLineFill (core off : Nat)
  | pageWalk (cluster ctx : Nat) (sup : Bool) (kind : AccessKind) (va : Word)
  | streamPrefetch (u : SlotRef) (q n : Nat)
  | jobPop
  | gangPlace
  | placementBackoffExpiry (handle gang : Nat)
  | strandHalt (u : SlotRef) (progress : Option Nat)
  | writeOutComplete (u : SlotRef)
  | contextRestore (sr : Nat) (u : SlotRef)
  | tileWriteback (core tile : Nat)
  | jobComplete (job : Nat)
  | contractRelease (id : Nat)
  | budgetOverrun (id : Nat)
  | watchdogExpiry (u : SlotRef)
  | ctadmitAdmit (va : Word)
  | ctadmitWithdraw (va : Word)
  | bankCommandStart (grant : Nat)
  | tableBuildEnd (bank : Nat)
  | rtreeRootWrite (grant n : Nat)
  | bankCommandComplete (grant : Nat)
  | copySectorTranslated (core copy : Nat)
  | copySectorComplete (core copy : Nat)
  | collectiveArrival (p : Participant) (kind : Nat) (desc : Word)
  | collectiveComplete (rend : Nat)
  | add (r : RF)
  | sub (r : RF)
  | and (r : RF)
  | or (r : RF)
  | xor (r : RF)
  | andn (r : RF)
  | sll (r : RF)
  | srl (r : RF)
  | sra (r : RF)
  | ror (r : RF)
  | slt (r : RF)
  | sltu (r : RF)
  | min (r : RF)
  | max (r : RF)
  | minu (r : RF)
  | maxu (r : RF)
  | mul (r : RF)
  | mulh (r : RF)
  | mulhu (r : RF)
  | div (r : RF)
  | divu (r : RF)
  | rem (r : RF)
  | remu (r : RF)
  | clz (r : RF)
  | ctz (r : RF)
  | popc (r : RF)
  | brev (r : RF)
  | bswap (r : RF)
  | clmul (r : RF)
  | clmulh (r : RF)
  | sextB (r : RF)
  | sextH (r : RF)
  | sextW (r : RF)
  | zextB (r : RF)
  | zextH (r : RF)
  | zextW (r : RF)
  | extr (r : RF)
  | insr (r : RF)
  | csel (r : RF)
  | addi (i : IF)
  | addiL (i : ILF)
  | andi (i : IF)
  | andiL (i : ILF)
  | ori (i : IF)
  | oriL (i : ILF)
  | xori (i : IF)
  | xoriL (i : ILF)
  | slli (i : SF)
  | srli (i : SF)
  | srai (i : SF)
  | rori (i : SF)
  | slti (i : IF)
  | sltiL (i : ILF)
  | sltiu (i : IF)
  | sltiuL (i : ILF)
  | li (i : IF)
  | liL (i : ILF)
  | lpc (j : JF)
  | lpcL (j : JLF)
  | beq (b : BF)
  | bne (b : BF)
  | blt (b : BF)
  | bge (b : BF)
  | bltu (b : BF)
  | bgeu (b : BF)
  | jal (j : JF)
  | jalr (i : IF)
  | ldB (r : RF)
  | ldBX (x : XF)
  | ldH (r : RF)
  | ldHX (x : XF)
  | ldW (r : RF)
  | ldWX (x : XF)
  | ldD (r : RF)
  | ldDX (x : XF)
  | lduB (r : RF)
  | lduBX (x : XF)
  | lduH (r : RF)
  | lduHX (x : XF)
  | lduW (r : RF)
  | lduWX (x : XF)
  | stB (r : RF)
  | stBX (x : XF)
  | stH (r : RF)
  | stHX (x : XF)
  | stW (r : RF)
  | stWX (x : XF)
  | stD (r : RF)
  | stDX (x : XF)
  | lddI (i : IF)
  | stdI (b : BF)
  | amoadd (r : RF)
  | amoaddX (x : XF)
  | amoand (r : RF)
  | amoandX (x : XF)
  | amoor (r : RF)
  | amoorX (x : XF)
  | amoxor (r : RF)
  | amoxorX (x : XF)
  | amomin (r : RF)
  | amominX (x : XF)
  | amomax (r : RF)
  | amomaxX (x : XF)
  | amominu (r : RF)
  | amominuX (x : XF)
  | amomaxu (r : RF)
  | amomaxuX (x : XF)
  | amoswap (r : RF)
  | amoswapX (x : XF)
  | cas (r : RF)
  | casX (x : XF)
  | casQ (r : RF)
  | casQX (x : XF)
  | ldF (r : RF)
  | ldFX (x : XF)
  | ldFe (r : RF)
  | ldFeX (x : XF)
  | stE (r : RF)
  | stEX (x : XF)
  | stF (r : RF)
  | stFX (x : XF)
  | feset (r : RF)
  | fesetX (x : XF)
  | feclr (r : RF)
  | feclrX (x : XF)
  | fence (r : RF)
  | fenceX (x : XF)
  | waitg (r : RF)
  | waitgX (x : XF)
  | syncw (r : RF)
  | syncwX (x : XF)
  | blend (r : RF)
  | blendX (x : XF)
  | blendC (r : RF)
  | blendCX (x : XF)
  | ldcA (r : RF)
  | ldcAX (x : XF)
  | obsclr (r : RF)
  | obsclrX (x : XF)
  | vld (r : RF)
  | vldX (x : XF)
  | vlds (r : RF)
  | vldsX (x : XF)
  | vldx (r : RF)
  | vldxX (x : XF)
  | vldFf (r : RF)
  | vldFfX (x : XF)
  | vst (r : RF)
  | vstX (x : XF)
  | vsts (r : RF)
  | vstsX (x : XF)
  | vstx (r : RF)
  | vstxX (x : XF)
  | vlda (r : RF)
  | vldaX (x : XF)
  | vldsA (r : RF)
  | vldsAX (x : XF)
  | vamoadd (r : RF)
  | vamoaddX (x : XF)
  | vamoand (r : RF)
  | vamoandX (x : XF)
  | vamoor (r : RF)
  | vamoorX (x : XF)
  | vamoxor (r : RF)
  | vamoxorX (x : XF)
  | vamomin (r : RF)
  | vamominX (x : XF)
  | vamomax (r : RF)
  | vamomaxX (x : XF)
  | vamoswap (r : RF)
  | vamoswapX (x : XF)
  | strset (r : RF)
  | strsetX (x : XF)
  | strclr (r : RF)
  | strclrX (x : XF)
  | strstat (r : RF)
  | strstatX (x : XF)
  | cplvl (r : RF)
  | cplvlX (x : XF)
  | cpgo (r : RF)
  | cpgoX (x : XF)
  | cpstat (r : RF)
  | cpstatX (x : XF)
  | cpcan (r : RF)
  | cpcanX (x : XF)
  | flinit (r : RF)
  | flinitX (x : XF)
  | awaitf (r : RF)
  | awaitfX (x : XF)
  | rels (r : RF)
  | relsX (x : XF)
  | flstat (r : RF)
  | flstatX (x : XF)
  | stashmap (r : RF)
  | stashmapX (x : XF)
  | stashunmap (r : RF)
  | stashunmapX (x : XF)
  | stashwb (r : RF)
  | stashwbX (x : XF)
  | cwb (r : RF)
  | cwbX (x : XF)
  | cinv (r : RF)
  | cinvX (x : XF)
  | cwbinv (r : RF)
  | cwbinvX (x : XF)
  | collred (r : RF)
  | collredX (x : XF)
  | collgat (r : RF)
  | collgatX (x : XF)
  | collbar (r : RF)
  | collbarX (x : XF)
  | vadd (r : RF)
  | vaddX (x : XLF)
  | vsub (r : RF)
  | vsubX (x : XLF)
  | vrsub (r : RF)
  | vrsubX (x : XLF)
  | vmul (r : RF)
  | vmulX (x : XLF)
  | vmulh (r : RF)
  | vmulhX (x : XLF)
  | vmacc (r : RF)
  | vmaccX (x : XLF)
  | vand (r : RF)
  | vandX (x : XLF)
  | vor (r : RF)
  | vorX (x : XLF)
  | vxor (r : RF)
  | vxorX (x : XLF)
  | vsll (r : RF)
  | vsllX (x : XLF)
  | vsrl (r : RF)
  | vsrlX (x : XLF)
  | vsra (r : RF)
  | vsraX (x : XLF)
  | vmin (r : RF)
  | vminX (x : XLF)
  | vmax (r : RF)
  | vmaxX (x : XLF)
  | vminu (r : RF)
  | vminuX (x : XLF)
  | vmaxu (r : RF)
  | vmaxuX (x : XLF)
  | vsadd (r : RF)
  | vsaddX (x : XLF)
  | vssub (r : RF)
  | vssubX (x : XLF)
  | vabs (r : RF)
  | vabsX (x : XLF)
  | vclmul (r : RF)
  | vclmulX (x : XLF)
  | vclmulh (r : RF)
  | vclmulhX (x : XLF)
  | vpsum (r : RF)
  | vpsumX (x : XLF)
  | vcmpEq (r : RF)
  | vcmpEqX (x : XLF)
  | vcmpNe (r : RF)
  | vcmpNeX (x : XLF)
  | vcmpLt (r : RF)
  | vcmpLtX (x : XLF)
  | vcmpLe (r : RF)
  | vcmpLeX (x : XLF)
  | vcmpLtu (r : RF)
  | vcmpLtuX (x : XLF)
  | vcmpLeu (r : RF)
  | vcmpLeuX (x : XLF)
  | vfcmpEq (r : RF)
  | vfcmpEqX (x : XLF)
  | vfcmpLt (r : RF)
  | vfcmpLtX (x : XLF)
  | vfcmpLe (r : RF)
  | vfcmpLeX (x : XLF)
  | vfcmpUn (r : RF)
  | vfcmpUnX (x : XLF)
  | vfadd (r : RF)
  | vfaddX (x : XLF)
  | vfsub (r : RF)
  | vfsubX (x : XLF)
  | vfmul (r : RF)
  | vfmulX (x : XLF)
  | vfma (r : RF)
  | vfmaX (x : XLF)
  | vfnma (r : RF)
  | vfnmaX (x : XLF)
  | vfdiv (r : RF)
  | vfdivX (x : XLF)
  | vfsqrt (r : RF)
  | vfsqrtX (x : XLF)
  | vfmin (r : RF)
  | vfminX (x : XLF)
  | vfmax (r : RF)
  | vfmaxX (x : XLF)
  | vfsign (r : RF)
  | vfsignX (x : XLF)
  | vfclass (r : RF)
  | vfclassX (x : XLF)
  | vfrcp (r : RF)
  | vfrcpX (x : XLF)
  | vfrsq (r : RF)
  | vfrsqX (x : XLF)
  | vfexp2 (r : RF)
  | vfexp2X (x : XLF)
  | vflog2 (r : RF)
  | vflog2X (x : XLF)
  | vftanh (r : RF)
  | vftanhX (x : XLF)
  | vcvt (r : RF)
  | vcvtX (x : XF)
  | vqnt (x : XF)
  | vpack (x : XF)
  | vunpk (x : XF)
  | kand (r : RF)
  | kandX (x : XF)
  | kor (r : RF)
  | korX (x : XF)
  | kxor (r : RF)
  | kxorX (x : XF)
  | knot (r : RF)
  | knotX (x : XF)
  | kmov (r : RF)
  | kmovX (x : XF)
  | kpop (r : RF)
  | kpopX (x : XF)
  | kfirst (r : RF)
  | kfirstX (x : XF)
  | ksbf (r : RF)
  | ksbfX (x : XF)
  | ksif (r : RF)
  | ksifX (x : XF)
  | ksof (r : RF)
  | ksofX (x : XF)
  | vperm (r : RF)
  | vpermX (x : XF)
  | vslideup (r : RF)
  | vslideupX (x : XF)
  | vslidedn (r : RF)
  | vslidednX (x : XF)
  | vbcast (r : RF)
  | vbcastX (x : XF)
  | vcompr (r : RF)
  | vcomprX (x : XF)
  | vexpd (r : RF)
  | vexpdX (x : XF)
  | vmerge (r : RF)
  | vmergeX (x : XF)
  | vmvsv (r : RF)
  | vmvsvX (x : XF)
  | vmvvs (r : RF)
  | vmvvsX (x : XF)
  | viota (r : RF)
  | viotaX (x : XF)
  | vid (r : RF)
  | vidX (x : XF)
  | vredsum (r : RF)
  | vredsumX (x : XF)
  | vredmax (r : RF)
  | vredmaxX (x : XF)
  | vredmin (r : RF)
  | vredminX (x : XF)
  | vfredusum (r : RF)
  | vfredusumX (x : XF)
  | vfredosum (r : RF)
  | vfredosumX (x : XF)
  | vfredmax (r : RF)
  | vfredmaxX (x : XF)
  | vfredmin (r : RF)
  | vfredminX (x : XF)
  | vredmaxsum (r : RF)
  | vredmaxsumX (x : XF)
  | vsetvl (r : RF)
  | vsetvli (r : RLF)
  | opacc (r : RF)
  | opaccX (x : XF)
  | opaccn (r : RF)
  | opaccnX (x : XF)
  | accz (r : RF)
  | acczX (x : XF)
  | accld (r : RF)
  | accldX (x : XF)
  | accrd (r : RF)
  | accrdX (x : XF)
  | accwr (r : RF)
  | accwrX (x : XF)
  | accscale (r : RF)
  | accscaleX (x : XF)
  | drain (r : RF)
  | drainX (x : XF)
  | histo (r : RF)
  | histoX (x : XF)
  | scalepick (x : XF)
  | pwlset (r : RF)
  | pwlsetX (x : XF)
  | cbld (r : RF)
  | cbldX (x : XF)
  | cbset (r : RF)
  | cbsetX (x : XF)
  | cbinv (r : RF)
  | cbinvX (x : XF)
  | cbuse (r : RF)
  | cbuseX (x : XF)
  | cbstat (r : RF)
  | cbstatX (x : XF)
  | bscope (r : RF)
  | bscopeX (x : XF)
  | bnest (r : RF)
  | bnestX (x : XF)
  | bbody (r : RF)
  | bbodyX (x : XF)
  | bcmd (r : RF)
  | bcmdX (x : XF)
  | bwait (r : RF)
  | bwaitX (x : XF)
  | bfence (r : RF)
  | bfenceX (x : XF)
  | bstat (r : RF)
  | bstatX (x : XF)
  | trap (r : RF)
  | trapX (x : XF)
  | eret (r : RF)
  | eretX (x : XF)
  | halt (r : RF)
  | haltX (x : XF)
  | yield (r : RF)
  | yieldX (x : XF)
  | csrrd (x : XF)
  | csrwr (x : XF)
  | csrswp (x : XF)
  | tlbinv (r : RF)
  | tlbinvX (x : XF)
  | objdecl (r : RF)
  | objdeclX (x : XF)
  | objdrop (r : RF)
  | objdropX (x : XF)
  | ncwset (r : RF)
  | ncwsetX (x : XF)
  | launch (r : RF)
  | launchX (x : XF)
  | trigger (r : RF)
  | triggerX (x : XF)
  | cancel (r : RF)
  | cancelX (x : XF)
  | pqpush (r : RF)
  | pqpushX (x : XF)
  | pqpop (r : RF)
  | pqpopX (x : XF)
  | heart (r : RF)
  | heartX (x : XF)
  | bnop (w : NoF)
  | tbuildR (w : TbF)
  | tbuildT (w : TbF)
  | tswap (w : NoF)
  | cbldb (w : WaF)
  | luacc (w : OutF)
  | luaccS (w : OutF)
  | accclr (w : NoF)
  | accput (w : OutF)
  | bldw (w : MoveF)
  | bstw (w : MoveF)
  | badd (w : LaneF)
  | bsub (w : LaneF)
  | bmax (w : LaneF)
  | bmin (w : LaneF)
  | band (w : LaneF)
  | bor (w : LaneF)
  | bxor (w : LaneF)
  | bshl (w : LaneF)
  | bshr (w : LaneF)
  | bcmp (w : LaneF)
  | bsel (w : LaneF)
  | bcvt (w : CvtF)
  | mand (w : MaskF)
  | mnot (w : MaskF)
  | skipz (w : WaF)
  | rtree (w : OutF)
  | illegalEncoding (reason member : Nat) (word : Word32)
  | ncPageAccess (pa n : Nat) (store : Option Word)
  deriving DecidableEq, Repr

end Sys2Proof
end

