-- ==== Sys2Proof/Machine/View.lean ====
section
/-! DEFINITION. The fields of a core instruction whatever its form (R260, R261), read by the checks of R270 and by the meanings. -/

namespace Sys2Proof

/-- An extended word 1 of zeros (R263). -/
def Ext1.zero : Ext1 := { shb := 0, cbb := 0, cb := false, sha := 0, cba := 0, ca := false, lmul := 0, etb := 0, eta := 0, etd := 0, kn := false, km := 0 }

/-- An extended word 2 of zeros (R263). -/
def Ext2.zero : Ext2 := { imm16 := 0, sat := false, rm := 0, cache := 0, ar := false, strength := 0, scope := 0, x := false, o := false, qb := false, qa := false }

/-- What the first word and the words after it hold: the major and FN (for major 0x06 the
    selector), LEN, the register fields, the immediate or offset, the extended words and the
    literal. Fields a form lacks are 0. -/
structure View where
  major : Nat
  fn : Nat
  len : Nat
  hd : Hd
  d : Nat
  a : Nat
  b : Nat
  imm : BitVec 10
  off : BitVec 15
  w1 : Ext1
  w2 : Ext2
  lit : Word
  deriving DecidableEq, Repr

/-- R-form base word. -/
def RF.view (r : RF) (major fn : Nat) : View :=
  { major, fn, len := 0, hd := r.hd, d := r.d.toNat, a := r.a.toNat, b := r.b.toNat, imm := 0, off := 0, w1 := .zero, w2 := .zero, lit := 0 }

/-- R-form with a literal (VSETVLI). -/
def RLF.view (r : RLF) (major fn : Nat) : View := { r.r.view major fn with len := 1, lit := r.lit }

/-- I-form base word. -/
def IF.view (i : IF) (major : Nat) : View :=
  { major, fn := 0, len := 0, hd := i.hd, d := i.d.toNat, a := i.a.toNat, b := 0, imm := i.imm, off := 0, w1 := .zero, w2 := .zero, lit := 0 }

/-- I-form with a literal. -/
def ILF.view (i : ILF) (major : Nat) : View := { i.i.view major with len := 1, lit := i.lit }

/-- Major 0x06 with selector sel. -/
def SF.view (i : SF) (sel : Nat) : View :=
  { major := 6, fn := sel, len := 0, hd := i.hd, d := i.d.toNat, a := i.a.toNat, b := 0, imm := i.amt.setWidth 10, off := 0, w1 := .zero, w2 := .zero, lit := 0 }

/-- B-form base word. -/
def BF.view (w : BF) (major : Nat) : View :=
  { major, fn := 0, len := 0, hd := w.hd, d := 0, a := w.a.toNat, b := w.b.toNat, imm := w.off, off := 0, w1 := .zero, w2 := .zero, lit := 0 }

/-- J-form base word. -/
def JF.view (j : JF) (major : Nat) : View :=
  { major, fn := 0, len := 0, hd := j.hd, d := j.d.toNat, a := 0, b := 0, imm := 0, off := j.off, w1 := .zero, w2 := .zero, lit := 0 }

/-- J-form with a literal. -/
def JLF.view (j : JLF) (major : Nat) : View := { j.j.view major with len := 1, lit := j.lit }

/-- Extended form. -/
def XF.view (x : XF) (major fn : Nat) : View := { x.r.view major fn with len := 2, w1 := x.w1, w2 := x.w2 }

/-- Extended form of majors 0x28 to 0x2A. -/
def XLF.view (x : XLF) (major fn : Nat) : View :=
  match x.lit with
  | none => x.x.view major fn
  | some l => { x.x.view major fn with len := 3, lit := l }

/-- Words an instruction occupies (R259). -/
def View.words (v : View) : Nat := if v.len = 0 then 1 else if v.len = 3 then 5 else 3

/-- Bytes an instruction occupies (R259). -/
def View.bytes (v : View) : Nat := 4 * v.words

/-- The extended form (LEN 10 or 11, R259). -/
def View.ext (v : View) : Bool := v.len ≥ 2

/-- A literal follows (LEN 01 or 11, R259). -/
def View.hasLit (v : View) : Bool := v.len % 2 == 1

/-- IMM16 as a natural number. -/
def View.imm16 (v : View) : Nat := v.w2.imm16.toNat

/-- The fields of a core instruction by the opcode map (R267); none for events and BLU words. -/
def Instr.view : Instr → Option View
  | .reset => none
  | .bootStageDone _ _ => none
  | .domainWrite _ _ => none
  | .domainWaitTimeout _ => none
  | .lomuxPortDown _ _ => none
  | .routeError _ _ => none
  | .linkLevelRetry _ => none
  | .refresh _ => none
  | .thermalSample _ _ => none
  | .fwAssert => none
  | .internalUe => none
  | .dieLinkFailure => none
  | .enq _ _ => none
  | .openWindow _ => none
  | .reattach _ => none
  | .hostAckDseq _ => none
  | .msixModerationExpiry => none
  | .registerWrite _ _ => none
  | .clearOnRead _ => none
  | .reconcileCount _ _ => none
  | .reconcileBlend _ _ => none
  | .reconcileRead _ _ => none
  | .layoutChange _ => none
  | .fwBegin => none
  | .fwChunk => none
  | .fwCommit => none
  | .attest => none
  | .attestRead => none
  | .certRead => none
  | .dumpNow => none
  | .dumpRead => none
  | .cxlMemRead _ _ => none
  | .memwr _ _ => none
  | .memwrptl _ _ => none
  | .bar4Read _ _ => none
  | .bar4Write _ _ => none
  | .snpinv _ => none
  | .snpdata _ => none
  | .snpcur _ => none
  | .birsp _ _ => none
  | .hostLineResponse _ _ _ => none
  | .hostReadCompletion _ _ => none
  | .atomicopCompletion _ _ => none
  | .zeroLengthReadCompletion _ => none
  | .homeRead _ _ => none
  | .homeWrite _ _ _ => none
  | .writeAck _ => none
  | .leaseExpiry _ => none
  | .homeAmo _ _ _ _ _ _ => none
  | .accordStore _ _ _ => none
  | .accordBlend _ _ _ _ _ => none
  | .scratchpadPortAccess _ _ _ _ => none
  | .feDeadline _ => none
  | .stashLineFill _ _ => none
  | .pageWalk _ _ _ _ _ => none
  | .streamPrefetch _ _ _ => none
  | .jobPop => none
  | .gangPlace => none
  | .placementBackoffExpiry _ _ => none
  | .strandHalt _ _ => none
  | .writeOutComplete _ => none
  | .contextRestore _ _ => none
  | .tileWriteback _ _ => none
  | .jobComplete _ => none
  | .contractRelease _ => none
  | .budgetOverrun _ => none
  | .watchdogExpiry _ => none
  | .ctadmitAdmit _ => none
  | .ctadmitWithdraw _ => none
  | .bankCommandStart _ => none
  | .tableBuildEnd _ => none
  | .rtreeRootWrite _ _ => none
  | .bankCommandComplete _ => none
  | .copySectorTranslated _ _ => none
  | .copySectorComplete _ _ => none
  | .collectiveArrival _ _ _ => none
  | .collectiveComplete _ => none
  | .add x => some (x.view 0x00 0)
  | .sub x => some (x.view 0x00 1)
  | .and x => some (x.view 0x00 2)
  | .or x => some (x.view 0x00 3)
  | .xor x => some (x.view 0x00 4)
  | .andn x => some (x.view 0x00 5)
  | .sll x => some (x.view 0x00 6)
  | .srl x => some (x.view 0x00 7)
  | .sra x => some (x.view 0x00 8)
  | .ror x => some (x.view 0x00 9)
  | .slt x => some (x.view 0x00 10)
  | .sltu x => some (x.view 0x00 11)
  | .min x => some (x.view 0x00 12)
  | .max x => some (x.view 0x00 13)
  | .minu x => some (x.view 0x00 14)
  | .maxu x => some (x.view 0x00 15)
  | .mul x => some (x.view 0x00 16)
  | .mulh x => some (x.view 0x00 17)
  | .mulhu x => some (x.view 0x00 18)
  | .div x => some (x.view 0x00 19)
  | .divu x => some (x.view 0x00 20)
  | .rem x => some (x.view 0x00 21)
  | .remu x => some (x.view 0x00 22)
  | .clz x => some (x.view 0x00 23)
  | .ctz x => some (x.view 0x00 24)
  | .popc x => some (x.view 0x00 25)
  | .brev x => some (x.view 0x00 26)
  | .bswap x => some (x.view 0x00 27)
  | .clmul x => some (x.view 0x00 28)
  | .clmulh x => some (x.view 0x00 29)
  | .sextB x => some (x.view 0x01 0)
  | .sextH x => some (x.view 0x01 1)
  | .sextW x => some (x.view 0x01 2)
  | .zextB x => some (x.view 0x01 3)
  | .zextH x => some (x.view 0x01 4)
  | .zextW x => some (x.view 0x01 5)
  | .extr x => some (x.view 0x01 6)
  | .insr x => some (x.view 0x01 7)
  | .csel x => some (x.view 0x01 8)
  | .addi x => some (x.view 0x02)
  | .addiL x => some (x.view 0x02)
  | .andi x => some (x.view 0x03)
  | .andiL x => some (x.view 0x03)
  | .ori x => some (x.view 0x04)
  | .oriL x => some (x.view 0x04)
  | .xori x => some (x.view 0x05)
  | .xoriL x => some (x.view 0x05)
  | .slli x => some (x.view 0)
  | .srli x => some (x.view 1)
  | .srai x => some (x.view 2)
  | .rori x => some (x.view 3)
  | .slti x => some (x.view 0x07)
  | .sltiL x => some (x.view 0x07)
  | .sltiu x => some (x.view 0x08)
  | .sltiuL x => some (x.view 0x08)
  | .li x => some (x.view 0x09)
  | .liL x => some (x.view 0x09)
  | .lpc x => some (x.view 0x0a)
  | .lpcL x => some (x.view 0x0a)
  | .beq x => some (x.view 0x0c)
  | .bne x => some (x.view 0x0d)
  | .blt x => some (x.view 0x0e)
  | .bge x => some (x.view 0x0f)
  | .bltu x => some (x.view 0x10)
  | .bgeu x => some (x.view 0x11)
  | .jal x => some (x.view 0x12)
  | .jalr x => some (x.view 0x13)
  | .ldB x => some (x.view 0x14 0)
  | .ldBX x => some (x.view 0x14 0)
  | .ldH x => some (x.view 0x14 1)
  | .ldHX x => some (x.view 0x14 1)
  | .ldW x => some (x.view 0x14 2)
  | .ldWX x => some (x.view 0x14 2)
  | .ldD x => some (x.view 0x14 3)
  | .ldDX x => some (x.view 0x14 3)
  | .lduB x => some (x.view 0x14 4)
  | .lduBX x => some (x.view 0x14 4)
  | .lduH x => some (x.view 0x14 5)
  | .lduHX x => some (x.view 0x14 5)
  | .lduW x => some (x.view 0x14 6)
  | .lduWX x => some (x.view 0x14 6)
  | .stB x => some (x.view 0x14 7)
  | .stBX x => some (x.view 0x14 7)
  | .stH x => some (x.view 0x14 8)
  | .stHX x => some (x.view 0x14 8)
  | .stW x => some (x.view 0x14 9)
  | .stWX x => some (x.view 0x14 9)
  | .stD x => some (x.view 0x14 10)
  | .stDX x => some (x.view 0x14 10)
  | .lddI x => some (x.view 0x15)
  | .stdI x => some (x.view 0x16)
  | .amoadd x => some (x.view 0x17 0)
  | .amoaddX x => some (x.view 0x17 0)
  | .amoand x => some (x.view 0x17 1)
  | .amoandX x => some (x.view 0x17 1)
  | .amoor x => some (x.view 0x17 2)
  | .amoorX x => some (x.view 0x17 2)
  | .amoxor x => some (x.view 0x17 3)
  | .amoxorX x => some (x.view 0x17 3)
  | .amomin x => some (x.view 0x17 4)
  | .amominX x => some (x.view 0x17 4)
  | .amomax x => some (x.view 0x17 5)
  | .amomaxX x => some (x.view 0x17 5)
  | .amominu x => some (x.view 0x17 6)
  | .amominuX x => some (x.view 0x17 6)
  | .amomaxu x => some (x.view 0x17 7)
  | .amomaxuX x => some (x.view 0x17 7)
  | .amoswap x => some (x.view 0x17 8)
  | .amoswapX x => some (x.view 0x17 8)
  | .cas x => some (x.view 0x17 9)
  | .casX x => some (x.view 0x17 9)
  | .casQ x => some (x.view 0x17 10)
  | .casQX x => some (x.view 0x17 10)
  | .ldF x => some (x.view 0x18 0)
  | .ldFX x => some (x.view 0x18 0)
  | .ldFe x => some (x.view 0x18 1)
  | .ldFeX x => some (x.view 0x18 1)
  | .stE x => some (x.view 0x18 2)
  | .stEX x => some (x.view 0x18 2)
  | .stF x => some (x.view 0x18 3)
  | .stFX x => some (x.view 0x18 3)
  | .feset x => some (x.view 0x18 4)
  | .fesetX x => some (x.view 0x18 4)
  | .feclr x => some (x.view 0x18 5)
  | .feclrX x => some (x.view 0x18 5)
  | .fence x => some (x.view 0x19 0)
  | .fenceX x => some (x.view 0x19 0)
  | .waitg x => some (x.view 0x19 1)
  | .waitgX x => some (x.view 0x19 1)
  | .syncw x => some (x.view 0x19 2)
  | .syncwX x => some (x.view 0x19 2)
  | .blend x => some (x.view 0x1a 0)
  | .blendX x => some (x.view 0x1a 0)
  | .blendC x => some (x.view 0x1a 1)
  | .blendCX x => some (x.view 0x1a 1)
  | .ldcA x => some (x.view 0x1a 2)
  | .ldcAX x => some (x.view 0x1a 2)
  | .obsclr x => some (x.view 0x1a 3)
  | .obsclrX x => some (x.view 0x1a 3)
  | .vld x => some (x.view 0x20 0)
  | .vldX x => some (x.view 0x20 0)
  | .vlds x => some (x.view 0x20 1)
  | .vldsX x => some (x.view 0x20 1)
  | .vldx x => some (x.view 0x20 2)
  | .vldxX x => some (x.view 0x20 2)
  | .vldFf x => some (x.view 0x20 3)
  | .vldFfX x => some (x.view 0x20 3)
  | .vst x => some (x.view 0x20 4)
  | .vstX x => some (x.view 0x20 4)
  | .vsts x => some (x.view 0x20 5)
  | .vstsX x => some (x.view 0x20 5)
  | .vstx x => some (x.view 0x20 6)
  | .vstxX x => some (x.view 0x20 6)
  | .vlda x => some (x.view 0x20 7)
  | .vldaX x => some (x.view 0x20 7)
  | .vldsA x => some (x.view 0x20 8)
  | .vldsAX x => some (x.view 0x20 8)
  | .vamoadd x => some (x.view 0x21 0)
  | .vamoaddX x => some (x.view 0x21 0)
  | .vamoand x => some (x.view 0x21 1)
  | .vamoandX x => some (x.view 0x21 1)
  | .vamoor x => some (x.view 0x21 2)
  | .vamoorX x => some (x.view 0x21 2)
  | .vamoxor x => some (x.view 0x21 3)
  | .vamoxorX x => some (x.view 0x21 3)
  | .vamomin x => some (x.view 0x21 4)
  | .vamominX x => some (x.view 0x21 4)
  | .vamomax x => some (x.view 0x21 5)
  | .vamomaxX x => some (x.view 0x21 5)
  | .vamoswap x => some (x.view 0x21 6)
  | .vamoswapX x => some (x.view 0x21 6)
  | .strset x => some (x.view 0x22 0)
  | .strsetX x => some (x.view 0x22 0)
  | .strclr x => some (x.view 0x22 1)
  | .strclrX x => some (x.view 0x22 1)
  | .strstat x => some (x.view 0x22 2)
  | .strstatX x => some (x.view 0x22 2)
  | .cplvl x => some (x.view 0x23 0)
  | .cplvlX x => some (x.view 0x23 0)
  | .cpgo x => some (x.view 0x23 1)
  | .cpgoX x => some (x.view 0x23 1)
  | .cpstat x => some (x.view 0x23 2)
  | .cpstatX x => some (x.view 0x23 2)
  | .cpcan x => some (x.view 0x23 3)
  | .cpcanX x => some (x.view 0x23 3)
  | .flinit x => some (x.view 0x24 0)
  | .flinitX x => some (x.view 0x24 0)
  | .awaitf x => some (x.view 0x24 1)
  | .awaitfX x => some (x.view 0x24 1)
  | .rels x => some (x.view 0x24 2)
  | .relsX x => some (x.view 0x24 2)
  | .flstat x => some (x.view 0x24 3)
  | .flstatX x => some (x.view 0x24 3)
  | .stashmap x => some (x.view 0x25 0)
  | .stashmapX x => some (x.view 0x25 0)
  | .stashunmap x => some (x.view 0x25 1)
  | .stashunmapX x => some (x.view 0x25 1)
  | .stashwb x => some (x.view 0x25 2)
  | .stashwbX x => some (x.view 0x25 2)
  | .cwb x => some (x.view 0x26 0)
  | .cwbX x => some (x.view 0x26 0)
  | .cinv x => some (x.view 0x26 1)
  | .cinvX x => some (x.view 0x26 1)
  | .cwbinv x => some (x.view 0x26 2)
  | .cwbinvX x => some (x.view 0x26 2)
  | .collred x => some (x.view 0x27 0)
  | .collredX x => some (x.view 0x27 0)
  | .collgat x => some (x.view 0x27 1)
  | .collgatX x => some (x.view 0x27 1)
  | .collbar x => some (x.view 0x27 2)
  | .collbarX x => some (x.view 0x27 2)
  | .vadd x => some (x.view 0x28 0)
  | .vaddX x => some (x.view 0x28 0)
  | .vsub x => some (x.view 0x28 1)
  | .vsubX x => some (x.view 0x28 1)
  | .vrsub x => some (x.view 0x28 2)
  | .vrsubX x => some (x.view 0x28 2)
  | .vmul x => some (x.view 0x28 3)
  | .vmulX x => some (x.view 0x28 3)
  | .vmulh x => some (x.view 0x28 4)
  | .vmulhX x => some (x.view 0x28 4)
  | .vmacc x => some (x.view 0x28 5)
  | .vmaccX x => some (x.view 0x28 5)
  | .vand x => some (x.view 0x28 6)
  | .vandX x => some (x.view 0x28 6)
  | .vor x => some (x.view 0x28 7)
  | .vorX x => some (x.view 0x28 7)
  | .vxor x => some (x.view 0x28 8)
  | .vxorX x => some (x.view 0x28 8)
  | .vsll x => some (x.view 0x28 9)
  | .vsllX x => some (x.view 0x28 9)
  | .vsrl x => some (x.view 0x28 10)
  | .vsrlX x => some (x.view 0x28 10)
  | .vsra x => some (x.view 0x28 11)
  | .vsraX x => some (x.view 0x28 11)
  | .vmin x => some (x.view 0x28 12)
  | .vminX x => some (x.view 0x28 12)
  | .vmax x => some (x.view 0x28 13)
  | .vmaxX x => some (x.view 0x28 13)
  | .vminu x => some (x.view 0x28 14)
  | .vminuX x => some (x.view 0x28 14)
  | .vmaxu x => some (x.view 0x28 15)
  | .vmaxuX x => some (x.view 0x28 15)
  | .vsadd x => some (x.view 0x28 16)
  | .vsaddX x => some (x.view 0x28 16)
  | .vssub x => some (x.view 0x28 17)
  | .vssubX x => some (x.view 0x28 17)
  | .vabs x => some (x.view 0x28 18)
  | .vabsX x => some (x.view 0x28 18)
  | .vclmul x => some (x.view 0x28 19)
  | .vclmulX x => some (x.view 0x28 19)
  | .vclmulh x => some (x.view 0x28 20)
  | .vclmulhX x => some (x.view 0x28 20)
  | .vpsum x => some (x.view 0x28 21)
  | .vpsumX x => some (x.view 0x28 21)
  | .vcmpEq x => some (x.view 0x29 0)
  | .vcmpEqX x => some (x.view 0x29 0)
  | .vcmpNe x => some (x.view 0x29 1)
  | .vcmpNeX x => some (x.view 0x29 1)
  | .vcmpLt x => some (x.view 0x29 2)
  | .vcmpLtX x => some (x.view 0x29 2)
  | .vcmpLe x => some (x.view 0x29 3)
  | .vcmpLeX x => some (x.view 0x29 3)
  | .vcmpLtu x => some (x.view 0x29 4)
  | .vcmpLtuX x => some (x.view 0x29 4)
  | .vcmpLeu x => some (x.view 0x29 5)
  | .vcmpLeuX x => some (x.view 0x29 5)
  | .vfcmpEq x => some (x.view 0x29 6)
  | .vfcmpEqX x => some (x.view 0x29 6)
  | .vfcmpLt x => some (x.view 0x29 7)
  | .vfcmpLtX x => some (x.view 0x29 7)
  | .vfcmpLe x => some (x.view 0x29 8)
  | .vfcmpLeX x => some (x.view 0x29 8)
  | .vfcmpUn x => some (x.view 0x29 9)
  | .vfcmpUnX x => some (x.view 0x29 9)
  | .vfadd x => some (x.view 0x2a 0)
  | .vfaddX x => some (x.view 0x2a 0)
  | .vfsub x => some (x.view 0x2a 1)
  | .vfsubX x => some (x.view 0x2a 1)
  | .vfmul x => some (x.view 0x2a 2)
  | .vfmulX x => some (x.view 0x2a 2)
  | .vfma x => some (x.view 0x2a 3)
  | .vfmaX x => some (x.view 0x2a 3)
  | .vfnma x => some (x.view 0x2a 4)
  | .vfnmaX x => some (x.view 0x2a 4)
  | .vfdiv x => some (x.view 0x2a 5)
  | .vfdivX x => some (x.view 0x2a 5)
  | .vfsqrt x => some (x.view 0x2a 6)
  | .vfsqrtX x => some (x.view 0x2a 6)
  | .vfmin x => some (x.view 0x2a 7)
  | .vfminX x => some (x.view 0x2a 7)
  | .vfmax x => some (x.view 0x2a 8)
  | .vfmaxX x => some (x.view 0x2a 8)
  | .vfsign x => some (x.view 0x2a 9)
  | .vfsignX x => some (x.view 0x2a 9)
  | .vfclass x => some (x.view 0x2a 10)
  | .vfclassX x => some (x.view 0x2a 10)
  | .vfrcp x => some (x.view 0x2a 11)
  | .vfrcpX x => some (x.view 0x2a 11)
  | .vfrsq x => some (x.view 0x2a 12)
  | .vfrsqX x => some (x.view 0x2a 12)
  | .vfexp2 x => some (x.view 0x2a 13)
  | .vfexp2X x => some (x.view 0x2a 13)
  | .vflog2 x => some (x.view 0x2a 14)
  | .vflog2X x => some (x.view 0x2a 14)
  | .vftanh x => some (x.view 0x2a 15)
  | .vftanhX x => some (x.view 0x2a 15)
  | .vcvt x => some (x.view 0x2b 0)
  | .vcvtX x => some (x.view 0x2b 0)
  | .vqnt x => some (x.view 0x2b 1)
  | .vpack x => some (x.view 0x2b 2)
  | .vunpk x => some (x.view 0x2b 3)
  | .kand x => some (x.view 0x2c 0)
  | .kandX x => some (x.view 0x2c 0)
  | .kor x => some (x.view 0x2c 1)
  | .korX x => some (x.view 0x2c 1)
  | .kxor x => some (x.view 0x2c 2)
  | .kxorX x => some (x.view 0x2c 2)
  | .knot x => some (x.view 0x2c 3)
  | .knotX x => some (x.view 0x2c 3)
  | .kmov x => some (x.view 0x2c 4)
  | .kmovX x => some (x.view 0x2c 4)
  | .kpop x => some (x.view 0x2c 5)
  | .kpopX x => some (x.view 0x2c 5)
  | .kfirst x => some (x.view 0x2c 6)
  | .kfirstX x => some (x.view 0x2c 6)
  | .ksbf x => some (x.view 0x2c 7)
  | .ksbfX x => some (x.view 0x2c 7)
  | .ksif x => some (x.view 0x2c 8)
  | .ksifX x => some (x.view 0x2c 8)
  | .ksof x => some (x.view 0x2c 9)
  | .ksofX x => some (x.view 0x2c 9)
  | .vperm x => some (x.view 0x2d 0)
  | .vpermX x => some (x.view 0x2d 0)
  | .vslideup x => some (x.view 0x2d 1)
  | .vslideupX x => some (x.view 0x2d 1)
  | .vslidedn x => some (x.view 0x2d 2)
  | .vslidednX x => some (x.view 0x2d 2)
  | .vbcast x => some (x.view 0x2d 3)
  | .vbcastX x => some (x.view 0x2d 3)
  | .vcompr x => some (x.view 0x2d 4)
  | .vcomprX x => some (x.view 0x2d 4)
  | .vexpd x => some (x.view 0x2d 5)
  | .vexpdX x => some (x.view 0x2d 5)
  | .vmerge x => some (x.view 0x2d 6)
  | .vmergeX x => some (x.view 0x2d 6)
  | .vmvsv x => some (x.view 0x2d 7)
  | .vmvsvX x => some (x.view 0x2d 7)
  | .vmvvs x => some (x.view 0x2d 8)
  | .vmvvsX x => some (x.view 0x2d 8)
  | .viota x => some (x.view 0x2d 9)
  | .viotaX x => some (x.view 0x2d 9)
  | .vid x => some (x.view 0x2d 10)
  | .vidX x => some (x.view 0x2d 10)
  | .vredsum x => some (x.view 0x2e 0)
  | .vredsumX x => some (x.view 0x2e 0)
  | .vredmax x => some (x.view 0x2e 1)
  | .vredmaxX x => some (x.view 0x2e 1)
  | .vredmin x => some (x.view 0x2e 2)
  | .vredminX x => some (x.view 0x2e 2)
  | .vfredusum x => some (x.view 0x2e 3)
  | .vfredusumX x => some (x.view 0x2e 3)
  | .vfredosum x => some (x.view 0x2e 4)
  | .vfredosumX x => some (x.view 0x2e 4)
  | .vfredmax x => some (x.view 0x2e 5)
  | .vfredmaxX x => some (x.view 0x2e 5)
  | .vfredmin x => some (x.view 0x2e 6)
  | .vfredminX x => some (x.view 0x2e 6)
  | .vredmaxsum x => some (x.view 0x2e 7)
  | .vredmaxsumX x => some (x.view 0x2e 7)
  | .vsetvl x => some (x.view 0x2f 0)
  | .vsetvli x => some (x.view 0x2f 1)
  | .opacc x => some (x.view 0x30 0)
  | .opaccX x => some (x.view 0x30 0)
  | .opaccn x => some (x.view 0x30 1)
  | .opaccnX x => some (x.view 0x30 1)
  | .accz x => some (x.view 0x30 2)
  | .acczX x => some (x.view 0x30 2)
  | .accld x => some (x.view 0x30 3)
  | .accldX x => some (x.view 0x30 3)
  | .accrd x => some (x.view 0x30 4)
  | .accrdX x => some (x.view 0x30 4)
  | .accwr x => some (x.view 0x30 5)
  | .accwrX x => some (x.view 0x30 5)
  | .accscale x => some (x.view 0x30 6)
  | .accscaleX x => some (x.view 0x30 6)
  | .drain x => some (x.view 0x31 0)
  | .drainX x => some (x.view 0x31 0)
  | .histo x => some (x.view 0x31 1)
  | .histoX x => some (x.view 0x31 1)
  | .scalepick x => some (x.view 0x31 2)
  | .pwlset x => some (x.view 0x31 3)
  | .pwlsetX x => some (x.view 0x31 3)
  | .cbld x => some (x.view 0x32 0)
  | .cbldX x => some (x.view 0x32 0)
  | .cbset x => some (x.view 0x32 1)
  | .cbsetX x => some (x.view 0x32 1)
  | .cbinv x => some (x.view 0x32 2)
  | .cbinvX x => some (x.view 0x32 2)
  | .cbuse x => some (x.view 0x32 3)
  | .cbuseX x => some (x.view 0x32 3)
  | .cbstat x => some (x.view 0x32 4)
  | .cbstatX x => some (x.view 0x32 4)
  | .bscope x => some (x.view 0x34 0)
  | .bscopeX x => some (x.view 0x34 0)
  | .bnest x => some (x.view 0x34 1)
  | .bnestX x => some (x.view 0x34 1)
  | .bbody x => some (x.view 0x34 2)
  | .bbodyX x => some (x.view 0x34 2)
  | .bcmd x => some (x.view 0x34 3)
  | .bcmdX x => some (x.view 0x34 3)
  | .bwait x => some (x.view 0x34 4)
  | .bwaitX x => some (x.view 0x34 4)
  | .bfence x => some (x.view 0x34 5)
  | .bfenceX x => some (x.view 0x34 5)
  | .bstat x => some (x.view 0x34 6)
  | .bstatX x => some (x.view 0x34 6)
  | .trap x => some (x.view 0x3c 0)
  | .trapX x => some (x.view 0x3c 0)
  | .eret x => some (x.view 0x3c 1)
  | .eretX x => some (x.view 0x3c 1)
  | .halt x => some (x.view 0x3c 2)
  | .haltX x => some (x.view 0x3c 2)
  | .yield x => some (x.view 0x3c 3)
  | .yieldX x => some (x.view 0x3c 3)
  | .csrrd x => some (x.view 0x3c 4)
  | .csrwr x => some (x.view 0x3c 5)
  | .csrswp x => some (x.view 0x3c 6)
  | .tlbinv x => some (x.view 0x3c 7)
  | .tlbinvX x => some (x.view 0x3c 7)
  | .objdecl x => some (x.view 0x3c 8)
  | .objdeclX x => some (x.view 0x3c 8)
  | .objdrop x => some (x.view 0x3c 9)
  | .objdropX x => some (x.view 0x3c 9)
  | .ncwset x => some (x.view 0x3c 10)
  | .ncwsetX x => some (x.view 0x3c 10)
  | .launch x => some (x.view 0x3d 0)
  | .launchX x => some (x.view 0x3d 0)
  | .trigger x => some (x.view 0x3d 1)
  | .triggerX x => some (x.view 0x3d 1)
  | .cancel x => some (x.view 0x3d 2)
  | .cancelX x => some (x.view 0x3d 2)
  | .pqpush x => some (x.view 0x3d 3)
  | .pqpushX x => some (x.view 0x3d 3)
  | .pqpop x => some (x.view 0x3d 4)
  | .pqpopX x => some (x.view 0x3d 4)
  | .heart x => some (x.view 0x3d 5)
  | .heartX x => some (x.view 0x3d 5)
  | .bnop _ => none
  | .tbuildR _ => none
  | .tbuildT _ => none
  | .tswap _ => none
  | .cbldb _ => none
  | .luacc _ => none
  | .luaccS _ => none
  | .accclr _ => none
  | .accput _ => none
  | .bldw _ => none
  | .bstw _ => none
  | .badd _ => none
  | .bsub _ => none
  | .bmax _ => none
  | .bmin _ => none
  | .band _ => none
  | .bor _ => none
  | .bxor _ => none
  | .bshl _ => none
  | .bshr _ => none
  | .bcmp _ => none
  | .bsel _ => none
  | .bcvt _ => none
  | .mand _ => none
  | .mnot _ => none
  | .skipz _ => none
  | .rtree _ => none
  | .illegalEncoding _ _ _ => none
  | .ncPageAccess _ _ _ => none

end Sys2Proof
end

