-- ==== Sys2Proof/Machine/Check.lean ====
section
/-! DEFINITION. The checks of one member of a convoy that its own bits decide (R262, R264, R266, R268, R269, R226, R322, R306, R334, R355 and the definitions they name); R270 gives their order and REASON codes. -/

namespace Sys2Proof.Check

/-- R267: majors that are assigned. -/
def assigned (m : Nat) : Bool :=
  m ≤ 0x0A || (0x0C ≤ m && m ≤ 0x1A) || (0x20 ≤ m && m ≤ 0x32) || m == 0x34 || m == 0x3C || m == 0x3D

/-- R267: the majors of R-form. -/
def isRForm (m : Nat) : Bool :=
  m ≤ 1 || m == 0x14 || (0x17 ≤ m && m ≤ 0x1A) || (0x20 ≤ m && m ≤ 0x32) || m == 0x34 || m == 0x3C || m == 0x3D

/-- R267: how many FN values a major assigns. -/
def fnCount (m : Nat) : Nat :=
  match m with
  | 0x00 => 30 | 0x01 => 9 | 0x14 => 11 | 0x17 => 11 | 0x18 => 6 | 0x19 => 3 | 0x1A => 4
  | 0x20 => 9 | 0x21 => 7 | 0x22 => 3 | 0x23 => 4 | 0x24 => 4 | 0x25 => 3 | 0x26 => 3 | 0x27 => 3
  | 0x28 => 22 | 0x29 => 10 | 0x2A => 16 | 0x2B => 4 | 0x2C => 10 | 0x2D => 11 | 0x2E => 8 | 0x2F => 2
  | 0x30 => 7 | 0x31 => 4 | 0x32 => 5 | 0x34 => 7 | 0x3C => 11 | 0x3D => 6
  | _ => 1

/-- R267: majors with an extended length. -/
def hasExt (m : Nat) : Bool :=
  m == 0x14 || (0x17 ≤ m && m ≤ 0x1A) || (0x20 ≤ m && m ≤ 0x2E) || (0x30 ≤ m && m ≤ 0x32) || m == 0x34 || m == 0x3C || m == 0x3D

/-- R267: whether a literal is listed for this length (LEN 1 or 3). VSETVL takes none (R299). -/
def takesLit (m fn len : Nat) : Bool :=
  if len == 3 then 0x28 ≤ m && m ≤ 0x2A
  else (2 ≤ m && m ≤ 5) || (7 ≤ m && m ≤ 0x0A) || (m == 0x2F && fn ≠ 0)

/-- R192: the majors a conductor executes, and those a core does. -/
def agentRuns (conductor : Bool) (m : Nat) : Bool :=
  if conductor then m ≤ 0x1A || m == 0x26 || m == 0x34 || m == 0x3C || m == 0x3D else m ≠ 0x34

/-- R266: convoy classes. -/
inductive Class
  | chainable | solitary | scalar
  deriving DecidableEq, Repr

/-- R266: the class of an instruction. -/
def classOf (m fn : Nat) : Class :=
  if m == 0x32 || (m == 0x31 && fn == 3) then .solitary
  else if m == 0x20 || m == 0x21 || (0x28 ≤ m && m ≤ 0x2E) || m == 0x30 || m == 0x31 then .chainable
  else .scalar

/-- R354: row-progress instructions, and the two that may stand beside them. -/
def isRowProgress (m fn : Nat) : Bool := (m == 0x30 && fn < 7) || (m == 0x31 && fn == 0)
/-- R354: HISTO and SCALEPICK. -/
def isRowCompanion (m fn : Nat) : Bool := m == 0x31 && (fn == 1 || fn == 2)

/-- The register fields of word 0 an R-form instruction names: D, A, B (R280 and each definition). -/
def usesD (m fn : Nat) : Bool :=
  match m with
  | 0x18 => fn < 4
  | 0x19 => fn ≠ 0
  | 0x1A => fn ≠ 3
  | 0x23 => fn == 0 || fn == 2
  | 0x25 => fn ≠ 2
  | 0x26 => false
  | 0x27 => false
  | 0x34 => fn ≠ 5
  | 0x3C => fn == 4 || fn == 6 || fn == 8 || fn == 9
  | 0x3D => fn ≠ 1
  | _ => true

/-- Field A, as `usesD`. -/
def usesA (m fn : Nat) : Bool :=
  match m with
  | 0x19 => fn ≠ 0
  | 0x22 => fn ≠ 1
  | 0x23 => fn < 2
  | 0x24 => fn == 0
  | 0x2D => fn < 9
  | 0x32 => fn ≠ 2
  | 0x30 => fn ≠ 2
  | 0x34 => fn ≠ 5
  | 0x3C => fn ≥ 5
  | 0x3D => fn == 0 || fn == 2 || fn == 3
  | _ => true

/-- Field B, as `usesD`. -/
def usesB (m fn : Nat) : Bool :=
  match m with
  | 0x00 => !(23 ≤ fn && fn ≤ 27)
  | 0x01 => 6 ≤ fn
  | 0x18 => fn < 2
  | 0x19 => fn == 1
  | 0x1A => fn < 2
  | 0x20 => fn == 1 || fn == 2 || fn == 5 || fn == 6 || fn == 7
  | 0x22 => false
  | 0x23 => fn == 0
  | 0x24 => fn == 0
  | 0x25 => fn ≠ 1
  | 0x27 => false
  | 0x28 => fn ≠ 18 && fn ≠ 21
  | 0x2A => !(fn == 6 || fn == 10 || 11 ≤ fn)
  | 0x2B => fn == 1
  | 0x2C => fn < 3
  | 0x2D => fn < 4 || fn == 6 || fn == 8
  | 0x30 => fn ≠ 2 && fn ≠ 6
  | 0x31 => fn ≠ 3
  | 0x32 => fn ≠ 3
  | 0x34 => fn < 3 || fn == 6
  | 0x3C => fn == 7 || fn == 10
  | 0x3D => fn == 3
  | _ => true

/-- Unary vector instructions of R306: operand B is not read. -/
def unaryVec (m fn : Nat) : Bool :=
  (m == 0x28 && (fn == 18 || fn == 21)) || (m == 0x2A && (fn == 6 || 10 ≤ fn)) || (m == 0x2B && fn ≠ 1)

/-- The bits of IMM16 an instruction names, as a mask (each definition; R300). -/
def immMask (m fn : Nat) : Nat :=
  match m with
  | 0x14 => 0xFFFF
  | 0x17 => 1
  | 0x18 => 0xFFFF
  | 0x19 => if fn = 0 then 0xF else 0xFFFF
  | 0x1A => if fn < 2 then 0xF else 0
  | 0x20 => 0xFFFF
  | 0x21 => 0xFFFF
  | 0x22 => if fn = 0 then 0xFFFF else 0
  | 0x23 => if fn = 0 then 7 else 3
  | 0x24 => 7
  | 0x28 => if fn = 4 ∨ fn = 16 ∨ fn = 17 then 0x7FF else 0x3FF
  | 0x29 => 0x3FF
  | 0x2A => if fn = 9 then 0xFFF else 0x3FF
  | 0x2B => if fn = 0 then 0x4FF else if fn = 1 then 0x3FF else if fn = 2 then 0xFF else 0xFF
  | 0x2C => 0xFF
  | 0x2D => if fn = 8 then 0x4FF else 0xFF
  | 0x2E => if fn = 1 ∨ fn = 2 then 0x4FF else 0xFF
  | 0x30 => if fn < 2 then 0x3FF else 0xFF
  | 0x31 => if fn = 0 then 0xF07 else if fn = 3 then 0 else 0xFF
  | 0x32 => if fn < 2 then 1 else if fn = 4 then 3 else 0
  | 0x34 => if fn = 1 then 7 else if fn = 4 ∨ fn = 5 ∨ fn = 6 then 1 else 0
  | 0x3C => if fn = 0 ∨ fn = 4 ∨ fn = 5 ∨ fn = 6 ∨ fn = 10 then 0xFFFF else 0
  | 0x3D => if fn = 2 ∨ fn = 5 then 3 else if fn = 3 then 0x1F else if fn = 4 then 0x3F else 0
  | _ => 0

/-- R268: extended word 1 carries no field in these majors. -/
def word1Barred (m : Nat) : Bool :=
  m == 0x14 || (0x17 ≤ m && m ≤ 0x1A) || (0x22 ≤ m && m ≤ 0x27) || m == 0x32 || m == 0x34 || m == 0x3C || m == 0x3D

/-- R268: the ordering fields SCOPE, STRENGTH, AR are available. -/
def ordFields (m : Nat) : Bool := m == 0x14 || (0x17 ≤ m && m ≤ 0x1A) || (0x20 ≤ m && m ≤ 0x27)

/-- R268: the arithmetic fields QA, QB, RM, SAT are available. -/
def arithFields (m : Nat) : Bool := (0x28 ≤ m && m ≤ 0x2E) || m == 0x30 || m == 0x31

/-- The instruction of majors 0x28 to 0x31 names RM (its definition rounds or may). -/
def namesRm (m fn : Nat) : Bool :=
  m == 0x28 || m == 0x29 || m == 0x2A || (m == 0x2B && fn < 2) || m == 0x2E
  || (m == 0x30 && (fn < 2 || fn == 6)) || (m == 0x31 && fn == 0)

/-- The instruction names SAT. -/
def namesSat (m fn : Nat) : Bool := namesRm m fn || (m == 0x2B && fn == 2)

/-- A vector operand stands at A, so QA has a meaning (R303); majors 0x30, 0x31 judge it by R355. -/
def namesQa (m fn : Nat) : Bool :=
  (0x28 ≤ m && m ≤ 0x2B) || (m == 0x2D && fn ≠ 7 && fn < 9) || m == 0x2E || m == 0x30 || (m == 0x31 && fn ≠ 3)

/-- A vector operand may stand at B, so QB has a meaning; unary instructions judge it by R306. -/
def namesQb (m fn : Nat) : Bool :=
  (0x28 ≤ m && m ≤ 0x2B) || (m == 0x2D && (fn == 0 || fn == 6)) || m == 0x2E || m == 0x30 || (m == 0x31 && fn ≠ 3)

/-- Extended word 1 holds something other than zeros. -/
def word1NonZero (w : Ext1) : Bool := w != .zero

/-- R268, R273: a type field of an operand that the instruction does not have: reserved, but for the type that a mnemonic with one type sets in all
    three fields (DEDUCED, log 38). -/
def idleType (w : Ext1) (e : BitVec 4) : Bool := e == 0 || e == w.etd

/-- A non-zero field of extended word 1 that R268 or the definition excludes as reserved. -/
def reserved1 (v : View) : Bool :=
  let w := v.w1
  if word1Barred v.major then word1NonZero w
  else if v.major == 0x20 || v.major == 0x21 then
    w.shb != 0 || w.cbb != 0 || w.cb || w.sha != 0 || w.cba != 0 || w.ca || w.etb != 0
  else if v.major == 0x31 && v.fn == 3 then word1NonZero w
  else if v.major == 0x30 && (v.fn == 2 || v.fn == 3) then
    w.etb != 0 || w.eta != 0 || w.etd != 0
  else if v.major == 0x2C then !idleType w w.eta || !idleType w w.etb
  else if v.major == 0x2D && v.fn != 0 && !(v.fn == 6 && w.cb) then !idleType w w.etb
  else false

/-- A non-zero field of extended word 2 that R268 or the definition excludes as reserved. -/
def reserved2 (v : View) : Bool :=
  let w := v.w2
  let m := v.major
  (!ordFields m && (w.ar || w.strength != 0 || w.scope != 0))
  || (!(ordFields m && m ≠ 0x19) && w.cache != 0)
  || (!(m == 0x20 || m == 0x21) && (w.x || w.o))
  || (if m == 0x20 then false else if m == 0x21 then w.qa || w.qb
      else (w.qa && !(arithFields m && namesQa m v.fn)) || (w.qb && !(arithFields m && namesQb m v.fn)))
  || (!(arithFields m && namesRm m v.fn) && w.rm != 0)
  || (!(arithFields m && namesSat m v.fn) && w.sat)
  || (v.imm16 &&& (0xFFFF ^^^ immMask m v.fn)) != 0

/-- REASON 3: non-zero reserved bits, STALL with C = 1 among them (R265, R270). -/
def reserved (v : View) : Bool :=
  (v.hd.c && v.hd.stall != 0)
  || (isRForm v.major && ((!usesD v.major v.fn && v.d != 0) || (!usesA v.major v.fn && v.a != 0)
        || (!usesB v.major v.fn && v.b != 0)))
  || (v.major == 0x09 && v.a != 0)
  || (v.hasLit && v.major ≤ 0x0A && (v.imm != 0 || v.off != 0))
  || (v.ext && (reserved1 v || reserved2 v))

/-- R322, R295: the ordering fields of an extended form are a combination the table allows. -/
def orderingOk (v : View) : Bool :=
  let st := v.w2.strength.toNat
  let ar := v.w2.ar
  let sc0 := v.w2.scope == 0
  let ca0 := v.w2.cache == 0
  let m := v.major
  let load := (m == 0x14 && v.fn < 7) || (m == 0x1A && v.fn == 2) || (m == 0x20 && (v.fn < 4 || v.fn ≥ 7))
  let store := (m == 0x14 && v.fn ≥ 7) || (m == 0x20 && 4 ≤ v.fn && v.fn < 7)
  let rmw := m == 0x17 || (m == 0x1A && v.fn < 2) || m == 0x21
  let withScope := (m == 0x18 && v.fn < 4) || (m == 0x19 && v.fn == 0)
  if load then !ar && st ≠ 3 && (st == 2 || sc0)
  else if store then !ar && st ≠ 2 && (st == 3 || sc0)
  else if rmw then (!ar || st == 0) && (ar || st ≥ 2 || sc0) && ca0
  else if withScope then !ar && st == 0 && ca0
  else !ar && st == 0 && sc0 && ca0

/-- R226: an expanded operand's coded type, shape and expansion type. -/
def expansionOk (coded : ET) (sh xt : Nat) : Bool := coded.isCoded && shapeAllows sh (ET.ofCode xt)

/-- R226: the instruction accepts codebook operands. -/
def takesCodebook (m fn : Nat) : Bool :=
  (0x28 ≤ m && m ≤ 0x2A) || (m == 0x2B && fn < 2) || m == 0x2E || (m == 0x2D && fn == 6) || (m == 0x30 && fn < 2)

/-- R226: the codebook fields of extended word 1 and IMM16[7:0]. -/
def codebookOk (v : View) : Bool :=
  let w := v.w1
  let xta := v.imm16 % 16
  let xtb := v.imm16 / 16 % 16
  let own := v.major == 0x31 && v.fn == 0
  if !arithFields v.major then true
  else
    (if w.ca then takesCodebook v.major v.fn && expansionOk (.ofCode w.eta.toNat) w.sha.toNat xta
      else w.cba == 0 && w.sha == 0 && (own || xta == 0))
    && (if w.cb then takesCodebook v.major v.fn && expansionOk (.ofCode w.etb.toNat) w.shb.toNat xtb
      else w.cbb == 0 && w.shb == 0 && (own || xtb == 0))

/-- R269: OPB and the length agree, and its conditions hold. -/
def opbOk (v : View) : Bool :=
  let opb := v.imm16 / 256 % 4
  let vqnt := v.major == 0x2B && v.fn == 1
  if (0x28 ≤ v.major && v.major ≤ 0x2A) || vqnt then
    opb ≠ 3 && (opb == 0 || (!v.w2.qb && !v.w1.cb)) && ((v.len == 3) == (opb == 2))
      && (opb ≠ 2 || (v.b == 0 && !vqnt))
      && (!unaryVec v.major v.fn || (opb == 0 && !v.w2.qb && !v.w1.cb))
  else !unaryVec v.major v.fn || (!v.w2.qb && !v.w1.cb)

/-- REASON 8 for the field values of R262, R269, R226, R322 and the definitions of majors
    without element types. -/
def fieldsOk (v : View) : Bool :=
  let m := v.major
  (!v.ext ||
    ((!ordFields m || v.w2.scope.toNat < 6) && v.w2.rm != 7 && !(v.w2.ar && v.w2.strength != 0)
      && !(v.w1.kn && v.w1.km == 0) && (!v.w2.qa || v.a < 8) && (!v.w2.qb || v.b < 8)
      && codebookOk v && opbOk v && (!ordFields m || orderingOk v)
      && !(m == 0x20 && (v.w2.qa || v.w2.qb))))
  && (match m with
    | 0x17 => v.fn ≠ 10 || (v.d % 2 == 0 && v.b % 2 == 0 && v.imm16 % 2 == 0)
    | 0x1A => v.fn ≥ 2 || v.imm16 < 12
    | 0x22 => (v.fn == 2 || v.d < 8) && (v.fn ≠ 2 || v.a < 8)
    | 0x23 => v.fn ≠ 0 || v.imm16 < 6
    | 0x2B => v.fn == 0 || v.ext
    | 0x2F => v.fn ≠ 1 || (v.hasLit && v.b == 0)
    | 0x31 => v.fn ≠ 2 || v.ext
    | 0x32 => (v.fn == 3 || (if v.fn = 4 then v.a < 16 else v.d < 16)) && (v.fn ≠ 4 || v.imm16 < 3)
    | 0x34 => v.fn ≠ 1 || v.imm16 < 6
    | 0x3C => !(v.fn == 4 || v.fn == 5 || v.fn == 6) || v.ext
    | 0x3D => v.fn ≠ 4 || v.d % 2 == 0
    | _ => true)

/-- R389: the CSR numbers of the list. -/
def csrListed (n : Nat) : Bool :=
  n ≤ 5 || (8 ≤ n && n ≤ 0xB) || (0x10 ≤ n && n ≤ 0x13) || n == 0x18 || (0x20 ≤ n && n ≤ 0x24)
  || (0x28 ≤ n && n ≤ 0x2C) || (0x30 ≤ n && n ≤ 0x3F) || (0x800 ≤ n && n ≤ 0x803)
  || (0x810 ≤ n && n ≤ 0x82F) || n == 0xC00

/-- R388: a CSR access names a listed number. -/
def csrOk (v : View) : Bool :=
  !(v.major == 0x3C && (v.fn == 4 || v.fn == 5 || v.fn == 6)) || csrListed v.imm16

/-- The type operand A is read as: XTA for an expanded one (R226). -/
def tA (v : View) : ET := if v.w1.ca then .ofCode (v.imm16 % 16) else .ofCode v.w1.eta.toNat
/-- The type operand B is read as. -/
def tB (v : View) : ET := if v.w1.cb then .ofCode (v.imm16 / 16 % 16) else .ofCode v.w1.etb.toNat
/-- The destination type. -/
def tD (v : View) : ET := .ofCode v.w1.etd.toNat
/-- The grouping. -/
def lm (v : View) : Nat := lmulOf v.w1.lmul.toNat
/-- OPB (R269), 0 in a base form. -/
def opb (v : View) : Nat := v.imm16 / 256 % 4

/-- R224, R235: elements of a type that a group of registers holds; C3 leaves its last bits unused. -/
def elemsIn (n : Nat) (t : ET) : Nat := n * 2048 / t.width

/-- R302, R304: the instruction's own VLMAX. -/
def vlmax (v : View) : Nat :=
  let wmax := fun (a b : ET) => max a.width b.width
  match v.major with
  | 0x20 => if v.fn = 2 ∨ v.fn = 6 then vlmaxOf (lm v) (wmax (tD v) (.ofCode v.w1.eta.toNat)) else vlmaxOf (lm v) (tD v).width
  | 0x21 => vlmaxOf (lm v) (wmax (tD v) (.ofCode v.w1.eta.toNat))
  | 0x2B =>
    if v.fn = 2 then vlmaxOf (lm v) (tA v).width
    else if v.fn = 3 then vlmaxOf (lm v) (tD v).width
    else vlmaxOf (lm v) (wmax (tD v) (tA v))
  | 0x30 => vlmaxOf 1 (tA v).width
  | _ => vlmaxOf (lm v) (tD v).width

/-- The registers that hold so many elements of a type from a named register (R304). -/
def groupOf (reg n : Nat) (t : ET) : RegGroup := { reg, count := emulOf (n * t.width) }

/-- R227: the index group of an expanded operand. -/
def indexGroup (reg n sh : Nat) (coded : ET) : RegGroup :=
  { reg, count := emulOf (n / shapeFactor sh * coded.width) }

/-- Operand A's registers, if it comes from registers. -/
def groupA (v : View) : Option RegGroup :=
  if v.w2.qa then none
  else if v.w1.ca then some (indexGroup v.a (vlmax v) v.w1.sha.toNat (.ofCode v.w1.eta.toNat))
  else some (groupOf v.a (vlmax v) (tA v))

/-- Operand B's registers, if it comes from registers. -/
def groupB (v : View) : Option RegGroup :=
  if v.w2.qb || opb v ≠ 0 then none
  else if v.w1.cb then some (indexGroup v.b (vlmax v) v.w1.shb.toNat (.ofCode v.w1.etb.toNat))
  else some (groupOf v.b (vlmax v) (tB v))

/-- R262: an operand of an instruction's grouping starts at a multiple of LMUL, also where its elements are narrower and
    fill fewer registers (R304), and ends at or below v31. An index group starts at a multiple of its own EMUL: that of R227,
    and the packed side of VPACK and VUNPK, whose EMUL follows R227 (R314). A single register named as such (the scales of
    VQNT, the counts of VLDA) is no group and any register (DEDUCED, log 52). -/
def leads (v : View) (g : RegGroup) : Bool := g.reg % lm v == 0 && g.reg + g.count ≤ 32

/-- R262: an operand group starts and ends where it may. -/
def optAligned : Option RegGroup → Bool
  | none => true
  | some g => g.aligned

/-- R227, R304: a source against the destination group: apart when expanded, of another width or
    when the instruction allows no overlap; else the same registers or apart. -/
def srcOk (apart : Bool) (dst : RegGroup) : Option RegGroup → Bool
  | none => true
  | some g => if apart then g.disjoint dst else g.sameOrDisjoint dst

/-- R306, R304 for the element-wise majors 0x28 to 0x2B. -/
def elementwiseOk (v : View) : Bool :=
  let d := tD v; let a := tA v; let b := tB v
  let un := unaryVec v.major v.fn
  let noSatRm := !v.w2.sat && v.w2.rm == 0
  let types : Bool :=
    match v.major with
    | 0x28 => d.isInt && a == d && b == d && v.w2.rm == 0 && (v.fn == 18 || !v.w2.sat)
    | 0x29 => (if v.fn < 6 then d.isInt else d.isFp) && a == d && b == d && noSatRm
    | 0x2A =>
      if v.fn = 10 then a.isFp && b == a && d.isInt && d.width == a.width && noSatRm
      else d.isFp && a == d && b == d && (!(7 ≤ v.fn && v.fn ≤ 9) || noSatRm)
    | _ =>
      match v.fn with
      | 0 => !d.isCoded && !a.isCoded && b == a
      | 1 => a.isFp && !v.w1.cb && .ofCode v.w1.etb.toNat == ET.int8 && d.width ≤ a.width
          && (d == .int4 || d == .int8 || d == .int16 || d == .e4m3 || d == .e5m2 || d == .ci8 || d == .bf16 || d == .fp16)
      | 2 => (a == .int8 || a == .int16 || a == .int32) && (d.isCoded || d == .int4) && b == a
      | _ => (d == .int8 || d == .int16 || d == .int32) && (a.isCoded || a == .int4) && b == a
  let dst := groupOf v.d (vlmax v) d
  let apartA := v.w1.ca || a.width ≠ d.width || (v.major == 0x28 && v.fn == 21)
      || (v.major == 0x2B && v.fn ≠ 0)
  let qntB : RegGroup := { reg := v.b, count := 1 }
  let groups : Bool :=
    (match groupA v with
      | none => true
      | some g => if v.w1.ca || (v.major == 0x2B && v.fn == 3) then g.aligned else leads v g)
    && (if v.major = 0x29 then 1 ≤ v.d && v.d ≤ 7
        else (if v.major = 0x2B ∧ v.fn = 2 then dst.aligned else leads v dst) && srcOk apartA dst (groupA v))
    && (un || (if v.major = 0x2B then v.w2.qb || opb v ≠ 0 || qntB.disjoint dst
        else optAligned (groupB v) && (v.major == 0x29 || srcOk v.w1.cb dst (groupB v))))
  types && groups

/-- R315, R316: mask instructions. ETD and LMUL fix VLMAX; a coded ETD is reason 8 (DEDUCED, log 38). -/
def maskOpsOk (v : View) : Bool :=
  !(tD v).isCoded && v.a < 8 && (!(v.fn < 3) || v.b < 8)
  && (v.fn == 5 || v.fn == 6 || (1 ≤ v.d && v.d < 8))
  && (!(v.fn < 5) || v.w1.km == 0)
  && (!(7 ≤ v.fn) || (v.d ≠ v.a && v.d ≠ v.w1.km.toNat))

/-- R317, R318: permutations. -/
def permuteOk (v : View) : Bool :=
  let d := tD v
  let simple := !d.isCoded && d ≠ .int4
  let dst := groupOf v.d (vlmax v) d
  simple && tA v == d
  && (!(v.fn == 9 || v.fn == 10) || d.isInt)
  && (!(v.fn == 0) || (ET.isInt (.ofCode v.w1.etb.toNat) && (ET.ofCode v.w1.etb.toNat).width == d.width))
  && (!(v.fn == 6 && v.w1.cb) || tB v == d)
  && (!(v.fn == 8) || v.w1.km == 0)
  && (v.fn == 8 || dst.aligned)
  && (v.fn == 7 || v.fn ≥ 9 || optAligned (groupA v))
  && (!(v.fn < 6) || srcOk true dst (groupA v))
  && (!(v.fn == 0) || (v.w2.qb || ((groupOf v.b (vlmax v) d).aligned && (groupOf v.b (vlmax v) d).disjoint dst)))
  && (!(v.fn == 6) || (srcOk v.w1.ca dst (groupA v)
        && (v.w2.qb || (let g := if v.w1.cb then indexGroup v.b (vlmax v) v.w1.shb.toNat (.ofCode v.w1.etb.toNat)
                                 else groupOf v.b (vlmax v) d
                        g.aligned && srcOk v.w1.cb dst (some g)))))

/-- R306, R319, R320: reductions. -/
def reduceOk (v : View) : Bool :=
  let d := tD v
  let dst := groupOf v.d (vlmax v) d
  let noSatRm := !v.w2.sat && v.w2.rm == 0
  (if v.fn < 3 then d.isInt && noSatRm
   else if v.fn < 5 then d.isFp
   else if v.fn < 7 then d.isFp && noSatRm
   else d == .fp32 && noSatRm)
  && tA v == d && tB v == d && dst.aligned && optAligned (groupA v) && optAligned (groupB v)
  && srcOk true dst (groupA v) && srcOk v.w1.cb dst (groupB v)

/-- R334: vector loads and stores. -/
def vmemOk (v : View) : Bool :=
  let d := tD v; let ix := ET.ofCode v.w1.eta.toNat
  let n := vlmax v
  let data : RegGroup := if v.fn = 2 ∨ v.fn = 6 then groupOf v.d n d else { reg := v.d, count := lm v }
  let idx := groupOf v.b n ix
  leads v data
  && (match v.fn with
    | 1 | 5 => !d.isCoded && d ≠ .int4 && ix == d
    | 2 => !d.isCoded && d ≠ .int4 && ix.isInt && idx.aligned && idx.disjoint data
    | 6 => !d.isCoded && d ≠ .int4 && ix.isInt && idx.aligned
    | 7 => d == .int64 && ix == d && RegGroup.disjoint { reg := v.b, count := 1 } data
    | 8 => d == .int64 && ix == d && v.w1.lmul == 0 && v.w1.km == 0
    | _ => ix == d)

/-- R338: vector atomics. -/
def vamoOk (v : View) : Bool :=
  let d := tD v; let ix := ET.ofCode v.w1.eta.toNat
  let data := groupOf v.d (vlmax v) d
  let idx := groupOf v.b (vlmax v) ix
  (d == .int32 || d == .int64) && ix.isInt && leads v data && idx.aligned && idx.disjoint data

/-- R356: the tile type that a pair of operand types gives, with the depth. -/
def opaccTile (a b : ET) : Option (ET × Nat) :=
  let w16 := fun t => t == ET.bf16 || t == ET.fp16
  let w8 := fun t => t == ET.e4m3 || t == ET.e5m2
  if w16 a && w16 b then some (.fp32, 1)
  else if w8 a && w8 b then some (.fp32, 2)
  else if a == .int8 && b == .int8 then some (.int32, 2)
  else none

/-- A tile word's type: INT32 or FP32 (R354). -/
def tileType (t : ET) : Bool := t == .int32 || t == .fp32

/-- R355, R356, R358: major 0x30. -/
def opxOk (v : View) : Bool :=
  let d := tD v; let a := ET.ofCode v.w1.eta.toNat; let b := ET.ofCode v.w1.etb.toNat
  (v.fn < 2 || (a == b && !v.w2.qa && !v.w2.qb))
  && (v.fn == 4 || v.fn == 5 || v.w1.lmul == 0)
  && (if v.fn = 4 then v.a < 12 else v.d < 12)
  && (match v.fn with
    | 0 | 1 =>
      (match opaccTile (tA v) (tB v) with
        | some (t, _) => d == t && (t == .int32 || v.imm16 / 256 % 4 == 0)
        | none => false)
      && optAligned (if v.w1.ca then some (indexGroup v.a (2048 / (tA v).width) v.w1.sha.toNat a) else none)
    | 2 | 3 => true
    | 4 | 5 =>
      tileType d && a == d && v.w1.lmul != 0 && v.w1.km == 0
      && RegGroup.aligned { reg := if v.fn = 4 then v.d else v.a, count := lm v }
    | _ => d == .fp32 && tileType a && v.a % 2 == 0)

/-- R355, R360, R363, R364, R365: major 0x31. -/
def drainOk (v : View) : Bool :=
  let d := tD v; let a := ET.ofCode v.w1.eta.toNat; let b := ET.ofCode v.w1.etb.toNat
  let imm := v.imm16
  if v.fn = 3 then v.d < 16
  else
    a == b && v.w1.lmul == 0 && !v.w2.qa && !v.w2.qb
    && (match v.fn with
      | 0 =>
        v.d < 12 && tileType a && d ≠ .int64
        && (if natBit imm 1 then v.b % 4 == 0 else natBit imm 0 || v.b % 2 == 0)
        && (!natBit imm 2 || d == .int4 || d == .int8 || d == .int16 || d == .int32)
        && (natBits imm 11 8 == 0 || d.isCoded)
      | 1 => v.a < 12 && tileType a && d == .int32
      | _ => a == .int32 && v.w1.km == 0
          && (d == .int4 || d == .int8 || d == .e4m3 || d == .e5m2 || d == .ci8))

/-- REASON 8 for element types and register groups, on extended words given or implied (R263). -/
def typesOk (v : View) : Bool :=
  match v.major with
  | 0x20 => vmemOk v
  | 0x21 => vamoOk v
  | 0x28 => elementwiseOk v
  | 0x29 => elementwiseOk v
  | 0x2A => elementwiseOk v
  | 0x2B => elementwiseOk v
  | 0x2C => maskOpsOk v
  | 0x2D => permuteOk v
  | 0x2E => reduceOk v
  | 0x30 => opxOk v
  | 0x31 => drainOk v
  | _ => true

/-- The instruction's element types come from extended words, given or implied by VTYPE (R263). -/
def isTyped (m : Nat) : Bool := m == 0x20 || m == 0x21 || (0x28 ≤ m && m ≤ 0x2E) || m == 0x30 || m == 0x31

/-- R270 checks 7 and 8 on a member's own bits: REASON 3 before REASON 8. The types of a base-form
    vector instruction are judged when it runs (R263). -/
def memberReason (v : View) : Option Nat :=
  if reserved v then some 3
  else if !fieldsOk v || !csrOk v || (v.ext && !typesOk v) || (v.major == 0x31 && v.fn == 3 && v.d ≥ 16)
      || (v.major == 0x30 && (v.fn == 2 || v.fn == 3) && v.d ≥ 12) then some 8
  else none

/-- R270 checks 3, 5, 6 and 7 on the first word: reserved major, lengths, FN and SHI selector. -/
def lengthReason (major fn len : Nat) : Option Nat :=
  if !assigned major then some 1
  else if len ≥ 2 && !hasExt major then some 4
  else if len % 2 == 1 && !takesLit major fn len then some 5
  else if isRForm major && fn ≥ fnCount major then some 2
  else none

/-- R273: the form rounds, so a base form takes RM 6 (R263). -/
def rounds (v : View) : Bool :=
  match v.major with
  | 0x2A => v.fn < 7 || 11 ≤ v.fn
  | 0x2B => v.fn == 1 || (v.fn == 0 && tD v ≠ tA v && !((tD v).isInteger && (tA v).isInteger))
  | 0x2E => v.fn == 3 || v.fn == 4
  | 0x30 => v.fn == 6 || (v.fn < 2 && tD v == .fp32)
  | 0x31 => v.fn == 0 && !(tD v).isCoded
  | _ => false

/-- R263: the extended words a base-form vector instruction stands for under a VTYPE. OPACC takes
    its tile type from the table of R356. -/
def baseView (v : View) (et lmul : Nat) : View :=
  if v.ext || !isTyped v.major then v
  else
    let t : BitVec 4 := BitVec.ofNat 4 et
    let td : BitVec 4 :=
      if v.major = 0x30 ∧ v.fn < 2 then
        match opaccTile (.ofCode et) (.ofCode et) with
        | some (x, _) => BitVec.ofNat 4 x.code
        | none => t
      else t
    let w1 : Ext1 := { Ext1.zero with etd := td, eta := t, etb := t, lmul := BitVec.ofNat 2 lmul }
    let u := { v with w1 }
    { u with w2 := { Ext2.zero with rm := if rounds u then 6 else 0 } }

end Sys2Proof.Check
end

