-- ==== Sys2Proof/WellFormed.lean ====
section
/-! DEFINITION. Which instruction terms are well formed: encoded ones by the checks of R270 on their own bits, BLU words by their reserved bits and excluded values (R271, R375 to R381), events by the ranges of what they name (R3, R191). -/

namespace Sys2Proof

/-- A strand context slot exists (R191, R192). -/
def SlotRef.ok (u : SlotRef) : Bool := (u.core < 128 && u.slot < 2) || (128 ≤ u.core && u.core < 144 && u.slot == 0)

/-- Ranges of the values an event names. -/
def Instr.eventOk : Instr → Bool
  | .lomuxPortDown m p => m < 16 && p < 4
  | .linkLevelRetry p => p < 4
  | .routeError u _ => u.ok
  | .domainWrite _ ps => ps.length == 4
  | .domainWaitTimeout ps => ps.length == 4
  | .layoutChange ps => ps.length == 4
  | .reconcileCount s _ => s < 256
  | .reconcileBlend s _ => s < 256
  | .reconcileRead s _ => s < 256
  | .homeRead c _ => c < 144
  | .homeWrite c _ _ => c < 144
  | .writeAck u => u.ok
  | .homeAmo u f _ n _ _ => u.all SlotRef.ok && (n == 4 || n == 8 || (n == 16 && f == .cas))
  | .accordStore u _ _ => u.ok
  | .accordBlend u _ op _ _ => u.ok && op.toNat < 12
  | .scratchpadPortAccess c off n _ => c < 128 && off + n ≤ 0x200000 && 1 ≤ n && n ≤ 8 && off % 4 + n ≤ 8
  | .feDeadline u => u.ok
  | .stashLineFill c off => c < 128 && off < 0x200000
  | .pageWalk cl ctx _ _ _ => cl < 16 && ctx < 65536
  | .streamPrefetch u q _ => u.ok && q < 8
  | .strandHalt u _ => u.ok
  | .writeOutComplete u => u.ok
  | .contextRestore _ u => u.ok
  | .tileWriteback c t => c < 128 && t < 12
  | .contractRelease i => i < 256
  | .budgetOverrun i => i < 256
  | .watchdogExpiry u => u.ok
  | .tableBuildEnd b => b < 8192
  | .copySectorTranslated c n => c < 128 && n < 4
  | .copySectorComplete c n => c < 128 && n < 4
  | .collectiveArrival (.near u) k _ => u.ok && k < 3
  | .collectiveArrival (.far f) k _ => f.mod < 16 && k < 3
  | .zeroLengthReadCompletion u => u.ok || u == { core := 255, slot := 0 }
  | .illegalEncoding r m _ => 1 ≤ r && r ≤ 9 && m < 4
  | _ => true

/-- R375: a guard's depth is 0 to 6, and GK is 0 at depth 0 (R371). -/
def Guard.ok (g : Guard) : Bool := g.g != 7 && !(g.gk && g.g == 0)

/-- R380: the immediate form has WB 0. -/
def LaneF.ok (w : LaneF) : Bool := w.gd.ok && (!w.ib || w.wb == 0)

/-- R377: no reserved bit, and for TBUILD.T the terms that fit in 512 bytes do not run past w7. -/
def TbF.ok (w : TbF) : Bool := w.gd.ok && !w.r22 && w.rlow == 0

/-- R378: LUACC and LUACC.S name OOFF only, ACCPUT JOFF with it, RTREE a level below 3. -/
def OutF.ok (w : OutF) (useJ useOp : Bool) : Bool :=
  w.gd.ok && (useJ || w.joff == 0) && (if useOp then w.level != 3 else w.op == 0 && w.level == 0)

/-- R379: SEL 3 is reserved, and SEL 1 in BSTW; KOFF is 0 with SEL 2, OOFF with SEL 0 and 1. -/
def MoveF.ok (w : MoveF) (store : Bool) : Bool :=
  w.gd.ok && !w.r25 && w.r20 == 0 && w.sel != 3 && !(store && w.sel == 1)
    && (if w.sel == 2 then w.koff == 0 else w.ooff == 0)

/-- R381: BCVT has no CV 3, and HI only with CV 2. -/
def CvtF.ok (w : CvtF) : Bool := w.gd.ok && w.r16 == 0 && w.r6 == 0 && w.cv != 3

/-- R371, R377 to R381: a BLU word breaks no rule of its own. -/
def Instr.bluOk : Instr → Bool
  | .bnop w => w.gd.ok && w.res == 0
  | .tswap w => w.gd.ok && w.res == 0
  | .accclr w => w.gd.ok && w.res == 0
  | .tbuildR w => w.ok
  | .tbuildT w => w.ok
  | .cbldb w => w.gd.ok && w.rhi == 0 && w.rlo == 0
  | .skipz w => w.gd.ok && w.rhi == 0 && w.rlo == 0
  | .luacc w => w.ok false false
  | .luaccS w => w.ok false false
  | .accput w => w.ok true false
  | .rtree w => w.ok true true
  | .bldw w => w.ok false
  | .bstw w => w.ok true
  | .badd w => w.ok
  | .bsub w => w.ok
  | .bmax w => w.ok
  | .bmin w => w.ok
  | .band w => w.ok
  | .bor w => w.ok
  | .bxor w => w.ok
  | .bshl w => w.ok
  | .bshr w => w.ok
  | .bsel w => w.ok && w.me
  | .bcmp w => w.ok && !w.me && w.wd.toNat < 6
  | .bcvt w => w.ok
  | .mand w => w.gd.ok && !w.r27 && w.r6 == 0
  | .mnot w => w.gd.ok && !w.r27 && w.mb == 0 && w.r6 == 0
  | _ => true

/-- Why an encoded instruction is ill formed: a REASON of R270. -/
def Instr.staticReason (i : Instr) : Option Nat :=
  match i.view with
  | some v =>
    match Check.lengthReason v.major v.fn v.len with
    | some r => some r
    | none => Check.memberReason v
  | none => none

/-- The instruction is one the spec allows in some state. -/
def Instr.wellFormed (i : Instr) : Bool :=
  match i.view with
  | some _ => i.staticReason == none
  | none => i.bluOk && i.eventOk

end Sys2Proof
end

