-- ==== Sys2Proof/Decode.lean ====
section
/-! DEFINITION. Decoding, total on any words and refusing by name (R259 to R271), and the encoder written from the same tables. -/

namespace Sys2Proof

/-- Why words decode to no instruction: too few of them, a REASON of R270, or a BLU word with an
    unassigned OP or excluded bits (BODY_ILLEGAL, R271, R371). -/
inductive Reject
  | short
  | illegal (reason : Nat)
  | bodyIllegal
  deriving DecidableEq, Repr

/-- The bits [lo + n - 1 : lo] of a word (R7). -/
def fieldOf (w : Word32) (lo n : Nat) : BitVec n := w.extractLsb' lo n

/-- Bit n of a word. -/
def bitOf (w : Word32) (n : Nat) : Bool := w.getLsbD n

/-- STALL and C (R260). -/
def getHd (w : Word32) : Hd := { stall := fieldOf w 3 3, c := bitOf w 2 }
/-- R-form (R260). -/
def getR (w : Word32) : RF := { hd := getHd w, d := fieldOf w 17 5, a := fieldOf w 22 5, b := fieldOf w 27 5 }
/-- I-form (R260). -/
def getI (w : Word32) : IF := { hd := getHd w, imm := fieldOf w 22 10, a := fieldOf w 17 5, d := fieldOf w 12 5 }
/-- Major 0x06 (R287). -/
def getS (w : Word32) : SF := { hd := getHd w, amt := fieldOf w 22 6, a := fieldOf w 17 5, d := fieldOf w 12 5 }
/-- B-form (R260). -/
def getB (w : Word32) : BF := { hd := getHd w, off := fieldOf w 22 10, b := fieldOf w 17 5, a := fieldOf w 12 5 }
/-- J-form (R260). -/
def getJ (w : Word32) : JF := { hd := getHd w, off := fieldOf w 17 15, d := fieldOf w 12 5 }

/-- Extended word 1 (R261). -/
def getE1 (w : Word32) : Ext1 :=
  { shb := fieldOf w 30 2, cbb := fieldOf w 26 4, cb := bitOf w 25, sha := fieldOf w 23 2, cba := fieldOf w 19 4, ca := bitOf w 18,
    lmul := fieldOf w 16 2, etb := fieldOf w 12 4, eta := fieldOf w 8 4, etd := fieldOf w 4 4, kn := bitOf w 3, km := fieldOf w 0 3 }
/-- Extended word 2 (R261). -/
def getE2 (w : Word32) : Ext2 :=
  { imm16 := fieldOf w 16 16, sat := bitOf w 15, rm := fieldOf w 12 3, cache := fieldOf w 10 2, ar := bitOf w 9, strength := fieldOf w 7 2,
    scope := fieldOf w 4 3, x := bitOf w 3, o := bitOf w 2, qb := bitOf w 1, qa := bitOf w 0 }
/-- The extended form's three words. -/
def getX (w0 w1 w2 : Word32) : XF := { r := getR w0, w1 := getE1 w1, w2 := getE2 w2 }
/-- A 64-bit literal from its two words, the low one first (R259). -/
def getLit (lo hi : Word32) : Word := hi ++ lo

/-- R267: the base-length instruction at each FN of an R-form major; none where the base form is not an instruction. -/
noncomputable def baseTable : Nat → List (Option (RF → Instr))
  | 0x00 => [some .add, some .sub, some .and, some .or, some .xor, some .andn, some .sll, some .srl, some .sra, some .ror, some .slt, some .sltu, some .min, some .max, some .minu, some .maxu, some .mul, some .mulh, some .mulhu, some .div, some .divu, some .rem, some .remu, some .clz, some .ctz, some .popc, some .brev, some .bswap, some .clmul, some .clmulh]
  | 0x01 => [some .sextB, some .sextH, some .sextW, some .zextB, some .zextH, some .zextW, some .extr, some .insr, some .csel]
  | 0x14 => [some .ldB, some .ldH, some .ldW, some .ldD, some .lduB, some .lduH, some .lduW, some .stB, some .stH, some .stW, some .stD]
  | 0x17 => [some .amoadd, some .amoand, some .amoor, some .amoxor, some .amomin, some .amomax, some .amominu, some .amomaxu, some .amoswap, some .cas, some .casQ]
  | 0x18 => [some .ldF, some .ldFe, some .stE, some .stF, some .feset, some .feclr]
  | 0x19 => [some .fence, some .waitg, some .syncw]
  | 0x1a => [some .blend, some .blendC, some .ldcA, some .obsclr]
  | 0x20 => [some .vld, some .vlds, some .vldx, some .vldFf, some .vst, some .vsts, some .vstx, some .vlda, some .vldsA]
  | 0x21 => [some .vamoadd, some .vamoand, some .vamoor, some .vamoxor, some .vamomin, some .vamomax, some .vamoswap]
  | 0x22 => [some .strset, some .strclr, some .strstat]
  | 0x23 => [some .cplvl, some .cpgo, some .cpstat, some .cpcan]
  | 0x24 => [some .flinit, some .awaitf, some .rels, some .flstat]
  | 0x25 => [some .stashmap, some .stashunmap, some .stashwb]
  | 0x26 => [some .cwb, some .cinv, some .cwbinv]
  | 0x27 => [some .collred, some .collgat, some .collbar]
  | 0x28 => [some .vadd, some .vsub, some .vrsub, some .vmul, some .vmulh, some .vmacc, some .vand, some .vor, some .vxor, some .vsll, some .vsrl, some .vsra, some .vmin, some .vmax, some .vminu, some .vmaxu, some .vsadd, some .vssub, some .vabs, some .vclmul, some .vclmulh, some .vpsum]
  | 0x29 => [some .vcmpEq, some .vcmpNe, some .vcmpLt, some .vcmpLe, some .vcmpLtu, some .vcmpLeu, some .vfcmpEq, some .vfcmpLt, some .vfcmpLe, some .vfcmpUn]
  | 0x2a => [some .vfadd, some .vfsub, some .vfmul, some .vfma, some .vfnma, some .vfdiv, some .vfsqrt, some .vfmin, some .vfmax, some .vfsign, some .vfclass, some .vfrcp, some .vfrsq, some .vfexp2, some .vflog2, some .vftanh]
  | 0x2b => [some .vcvt, none, none, none]
  | 0x2c => [some .kand, some .kor, some .kxor, some .knot, some .kmov, some .kpop, some .kfirst, some .ksbf, some .ksif, some .ksof]
  | 0x2d => [some .vperm, some .vslideup, some .vslidedn, some .vbcast, some .vcompr, some .vexpd, some .vmerge, some .vmvsv, some .vmvvs, some .viota, some .vid]
  | 0x2e => [some .vredsum, some .vredmax, some .vredmin, some .vfredusum, some .vfredosum, some .vfredmax, some .vfredmin, some .vredmaxsum]
  | 0x2f => [some .vsetvl, none]
  | 0x30 => [some .opacc, some .opaccn, some .accz, some .accld, some .accrd, some .accwr, some .accscale]
  | 0x31 => [some .drain, some .histo, none, some .pwlset]
  | 0x32 => [some .cbld, some .cbset, some .cbinv, some .cbuse, some .cbstat]
  | 0x34 => [some .bscope, some .bnest, some .bbody, some .bcmd, some .bwait, some .bfence, some .bstat]
  | 0x3c => [some .trap, some .eret, some .halt, some .yield, none, none, none, some .tlbinv, some .objdecl, some .objdrop, some .ncwset]
  | 0x3d => [some .launch, some .trigger, some .cancel, some .pqpush, some .pqpop, some .heart]
  | _ => []

/-- R267: the extended form at each FN. -/
noncomputable def extTable : Nat → List (Option (XF → Instr))
  | 0x14 => [some .ldBX, some .ldHX, some .ldWX, some .ldDX, some .lduBX, some .lduHX, some .lduWX, some .stBX, some .stHX, some .stWX, some .stDX]
  | 0x17 => [some .amoaddX, some .amoandX, some .amoorX, some .amoxorX, some .amominX, some .amomaxX, some .amominuX, some .amomaxuX, some .amoswapX, some .casX, some .casQX]
  | 0x18 => [some .ldFX, some .ldFeX, some .stEX, some .stFX, some .fesetX, some .feclrX]
  | 0x19 => [some .fenceX, some .waitgX, some .syncwX]
  | 0x1a => [some .blendX, some .blendCX, some .ldcAX, some .obsclrX]
  | 0x20 => [some .vldX, some .vldsX, some .vldxX, some .vldFfX, some .vstX, some .vstsX, some .vstxX, some .vldaX, some .vldsAX]
  | 0x21 => [some .vamoaddX, some .vamoandX, some .vamoorX, some .vamoxorX, some .vamominX, some .vamomaxX, some .vamoswapX]
  | 0x22 => [some .strsetX, some .strclrX, some .strstatX]
  | 0x23 => [some .cplvlX, some .cpgoX, some .cpstatX, some .cpcanX]
  | 0x24 => [some .flinitX, some .awaitfX, some .relsX, some .flstatX]
  | 0x25 => [some .stashmapX, some .stashunmapX, some .stashwbX]
  | 0x26 => [some .cwbX, some .cinvX, some .cwbinvX]
  | 0x27 => [some .collredX, some .collgatX, some .collbarX]
  | 0x2b => [some .vcvtX, some .vqnt, some .vpack, some .vunpk]
  | 0x2c => [some .kandX, some .korX, some .kxorX, some .knotX, some .kmovX, some .kpopX, some .kfirstX, some .ksbfX, some .ksifX, some .ksofX]
  | 0x2d => [some .vpermX, some .vslideupX, some .vslidednX, some .vbcastX, some .vcomprX, some .vexpdX, some .vmergeX, some .vmvsvX, some .vmvvsX, some .viotaX, some .vidX]
  | 0x2e => [some .vredsumX, some .vredmaxX, some .vredminX, some .vfredusumX, some .vfredosumX, some .vfredmaxX, some .vfredminX, some .vredmaxsumX]
  | 0x30 => [some .opaccX, some .opaccnX, some .acczX, some .accldX, some .accrdX, some .accwrX, some .accscaleX]
  | 0x31 => [some .drainX, some .histoX, some .scalepick, some .pwlsetX]
  | 0x32 => [some .cbldX, some .cbsetX, some .cbinvX, some .cbuseX, some .cbstatX]
  | 0x34 => [some .bscopeX, some .bnestX, some .bbodyX, some .bcmdX, some .bwaitX, some .bfenceX, some .bstatX]
  | 0x3c => [some .trapX, some .eretX, some .haltX, some .yieldX, some .csrrd, some .csrwr, some .csrswp, some .tlbinvX, some .objdeclX, some .objdropX, some .ncwsetX]
  | 0x3d => [some .launchX, some .triggerX, some .cancelX, some .pqpushX, some .pqpopX, some .heartX]
  | _ => []

/-- R267: the extended form at each FN of majors 0x28 to 0x2A. -/
noncomputable def extLitTable : Nat → List (Option (XLF → Instr))
  | 0x28 => [some .vaddX, some .vsubX, some .vrsubX, some .vmulX, some .vmulhX, some .vmaccX, some .vandX, some .vorX, some .vxorX, some .vsllX, some .vsrlX, some .vsraX, some .vminX, some .vmaxX, some .vminuX, some .vmaxuX, some .vsaddX, some .vssubX, some .vabsX, some .vclmulX, some .vclmulhX, some .vpsumX]
  | 0x29 => [some .vcmpEqX, some .vcmpNeX, some .vcmpLtX, some .vcmpLeX, some .vcmpLtuX, some .vcmpLeuX, some .vfcmpEqX, some .vfcmpLtX, some .vfcmpLeX, some .vfcmpUnX]
  | 0x2a => [some .vfaddX, some .vfsubX, some .vfmulX, some .vfmaX, some .vfnmaX, some .vfdivX, some .vfsqrtX, some .vfminX, some .vfmaxX, some .vfsignX, some .vfclassX, some .vfrcpX, some .vfrsqX, some .vfexp2X, some .vflog2X, some .vftanhX]
  | _ => []

/-- R267: I-form majors, base length. -/
noncomputable def immTable : Nat → Option (IF → Instr)
  | 0x02 => some .addi
  | 0x03 => some .andi
  | 0x04 => some .ori
  | 0x05 => some .xori
  | 0x07 => some .slti
  | 0x08 => some .sltiu
  | 0x09 => some .li
  | 0x13 => some .jalr
  | 0x15 => some .lddI
  | _ => none

/-- R267: I-form majors with a literal. -/
noncomputable def immLitTable : Nat → Option (ILF → Instr)
  | 0x02 => some .addiL
  | 0x03 => some .andiL
  | 0x04 => some .oriL
  | 0x05 => some .xoriL
  | 0x07 => some .sltiL
  | 0x08 => some .sltiuL
  | 0x09 => some .liL
  | _ => none

/-- R267: B-form majors. -/
noncomputable def branchTable : Nat → Option (BF → Instr)
  | 0x0c => some .beq
  | 0x0d => some .bne
  | 0x0e => some .blt
  | 0x0f => some .bge
  | 0x10 => some .bltu
  | 0x11 => some .bgeu
  | 0x16 => some .stdI
  | _ => none

/-- The entry of a list at an index, none past its end. -/
def entryAt {α : Type} : List (Option α) → Nat → Option α
  | [], _ => none
  | x :: _, 0 => x
  | _ :: xs, n + 1 => entryAt xs n

/-- R270: the REASON of a base word that R267 lists no instruction for (CSRRD, VQNT and the others
    whose base form is refused): reserved bits first. -/
def missingBase (w0 : Word32) (major fn : Nat) : Nat :=
  if Check.reserved ((getR w0).view major fn) then 3 else 8

/-- The instruction of given words, before the checks of R270 on its fields; the error is a REASON.
    Literals are the last two of the words. -/
noncomputable def parse (w0 w1 w2 l0 l1 : Word32) : Except Nat Instr :=
  let major := (fieldOf w0 6 6).toNat
  let fn := (fieldOf w0 12 5).toNat
  let len := (fieldOf w0 0 2).toNat
  match Check.lengthReason major fn len with
  | some r => .error r
  | none =>
    if major = 0x06 then
      if fieldOf w0 30 2 ≠ 0 then .error 2
      else match (fieldOf w0 28 2).toNat with
        | 0 => .ok (.slli (getS w0))
        | 1 => .ok (.srli (getS w0))
        | 2 => .ok (.srai (getS w0))
        | _ => .ok (.rori (getS w0))
    else if major = 0x0A then
      .ok (if len = 0 then .lpc (getJ w0) else .lpcL { j := getJ w0, lit := getLit w1 w2 })
    else if major = 0x12 then .ok (.jal (getJ w0))
    else match branchTable major with
    | some f => .ok (f (getB w0))
    | none =>
      match immTable major with
      | some f =>
        if len = 0 then .ok (f (getI w0))
        else match immLitTable major with
          | some g => .ok (g { i := getI w0, lit := getLit w1 w2 })
          | none => .error 5
      | none =>
        if len = 0 then
          match entryAt (baseTable major) fn with
          | some f => .ok (f (getR w0))
          | none => .error (missingBase w0 major fn)
        else if len = 1 then .ok (.vsetvli { r := getR w0, lit := getLit w1 w2 })
        else if 0x28 ≤ major ∧ major ≤ 0x2A then
          match entryAt (extLitTable major) fn with
          | some f => .ok (f { x := getX w0 w1 w2, lit := if len = 3 then some (getLit l0 l1) else none })
          | none => .error 2
        else
          match entryAt (extTable major) fn with
          | some f => .ok (f (getX w0 w1 w2))
          | none => .error 2

/-- How many words the first word claims (R259). -/
def wordCount (w0 : Word32) : Nat :=
  match (fieldOf w0 0 2).toNat with
  | 0 => 1 | 3 => 5 | _ => 3

/-- One instruction from its words: the checks of R270 in their order. -/
noncomputable def decodeWords (ws : List Word32) : Except Reject Instr :=
  match ws with
  | [] => .error .short
  | w0 :: rest =>
    if rest.length + 1 < wordCount w0 then .error .short
    else
      match parse w0 (rest.getD 0 0) (rest.getD 1 0) (rest.getD 2 0) (rest.getD 3 0) with
      | .error r => .error (.illegal r)
      | .ok i =>
        match i.staticReason with
        | some r => .error (.illegal r)
        | none => .ok i

/-- A 32-bit word from four bytes, the lowest address first (R7, R259). -/
def wordOfBytes (b0 b1 b2 b3 : Byte) : Word32 := b3 ++ b2 ++ b1 ++ b0

/-- The whole words of a byte list, and the bytes left over are dropped. -/
def wordsOfBytes : List Byte → List Word32
  | b0 :: b1 :: b2 :: b3 :: bs => wordOfBytes b0 b1 b2 b3 :: wordsOfBytes bs
  | _ => []

/-- One instruction from bytes, and the bytes after it. -/
noncomputable def decode (bs : List Byte) : Except Reject (Instr × List Byte) :=
  let ws := wordsOfBytes bs
  match decodeWords ws with
  | .error e => .error e
  | .ok i =>
    match ws with
    | w0 :: _ => .ok (i, bs.drop (4 * wordCount w0))
    | [] => .error .short

/-- Guard bits of a BLU word (R375). -/
def getGuard (w : Word32) : Guard := { g := fieldOf w 29 3, gk := bitOf w 28 }
/-- A BLU word without operands. -/
def getNo (w : Word32) : NoF := { gd := getGuard w, res := fieldOf w 6 22 }
/-- CBLDB, SKIPZ. -/
def getWa (w : Word32) : WaF := { gd := getGuard w, rhi := fieldOf w 22 6, wa := fieldOf w 19 3, rlo := fieldOf w 6 13 }
/-- TBUILD.R, TBUILD.T (R377). -/
def getTb (w : Word32) : TbF :=
  { gd := getGuard w, k := fieldOf w 26 2, g := fieldOf w 23 3, r22 := bitOf w 22, wa := fieldOf w 19 3, t := fieldOf w 17 2,
    ew := bitOf w 16, aw := bitOf w 15, rlow := fieldOf w 6 9 }
/-- LUACC, ACCPUT, RTREE (R378). -/
def getOut (w : Word32) : OutF :=
  { gd := getGuard w, op := fieldOf w 26 2, level := fieldOf w 24 2, joff := fieldOf w 16 8, ooff := fieldOf w 6 10 }
/-- BLDW, BSTW (R379). -/
def getMove (w : Word32) : MoveF :=
  { gd := getGuard w, sel := fieldOf w 26 2, r25 := bitOf w 25, w := fieldOf w 22 3, r20 := fieldOf w 20 2, koff := fieldOf w 16 4,
    ooff := fieldOf w 6 10 }
/-- Lane operations and BCMP (R380, R381). -/
def getLane (w : Word32) : LaneF :=
  { gd := getGuard w, me := bitOf w 27, ms := fieldOf w 25 2, wd := fieldOf w 22 3, wa := fieldOf w 19 3, wb := fieldOf w 16 3,
    ib := bitOf w 15, imm9 := fieldOf w 6 9 }
/-- BCVT (R381). -/
def getCvt (w : Word32) : CvtF :=
  { gd := getGuard w, me := bitOf w 27, ms := fieldOf w 25 2, wd := fieldOf w 22 3, wa := fieldOf w 19 3, r16 := fieldOf w 16 3,
    cv := fieldOf w 14 2, hi := bitOf w 13, r6 := fieldOf w 6 7 }
/-- MAND, MNOT (R381). -/
def getMask (w : Word32) : MaskF :=
  { gd := getGuard w, r27 := bitOf w 27, md := fieldOf w 25 2, ma := fieldOf w 23 2, mb := fieldOf w 21 2, r6 := fieldOf w 6 15 }

/-- R271: the BLU word an OP names, before its own rules. -/
noncomputable def bluParse (w : Word32) : Option Instr :=
  match (fieldOf w 0 6).toNat with
  | 0 => some (.bnop (getNo w))
  | 1 => some (.tbuildR (getTb w))
  | 2 => some (.tbuildT (getTb w))
  | 3 => some (.tswap (getNo w))
  | 4 => some (.cbldb (getWa w))
  | 5 => some (.luacc (getOut w))
  | 6 => some (.luaccS (getOut w))
  | 7 => some (.accclr (getNo w))
  | 8 => some (.accput (getOut w))
  | 9 => some (.bldw (getMove w))
  | 10 => some (.bstw (getMove w))
  | 11 => some (.badd (getLane w))
  | 12 => some (.bsub (getLane w))
  | 13 => some (.bmax (getLane w))
  | 14 => some (.bmin (getLane w))
  | 15 => some (.band (getLane w))
  | 16 => some (.bor (getLane w))
  | 17 => some (.bxor (getLane w))
  | 18 => some (.bshl (getLane w))
  | 19 => some (.bshr (getLane w))
  | 20 => some (.bcmp (getLane w))
  | 21 => some (.bsel (getLane w))
  | 22 => some (.bcvt (getCvt w))
  | 23 => some (.mand (getMask w))
  | 24 => some (.mnot (getMask w))
  | 25 => some (.skipz (getWa w))
  | 26 => some (.rtree (getOut w))
  | _ => none

/-- R271, R371: a body word, or BODY_ILLEGAL. -/
noncomputable def decodeBlu (w : Word32) : Except Reject Instr :=
  match bluParse w with
  | some i => if i.bluOk then .ok i else .error .bodyIllegal
  | none => .error .bodyIllegal

/-- The words of a table row numbered from the least significant bit of the first word, padded with
    zero words to the longest instruction. -/
def tableWords (w : Nat) : List Word32 :=
  [BitVec.ofNat 32 w, BitVec.ofNat 32 (w / 2 ^ 32), BitVec.ofNat 32 (w / 2 ^ 64), BitVec.ofNat 32 (w / 2 ^ 96), BitVec.ofNat 32 (w / 2 ^ 128)]

/-- The instruction decoded from a row of spec/opcode_table.json: the core decoder first, and the
    BLU decoder on what it refuses (log 11). -/
noncomputable def decodeTableWord (nbits w : Nat) : Option Instr :=
  let ws := tableWords (w % 2 ^ nbits)
  match decodeWords ws with
  | .ok i => some i
  | .error _ =>
    match decodeBlu (ws.headD 0) with
    | .ok i => some i
    | .error _ => none

/-- A Bool as one bit. -/
def bit1 (b : Bool) : BitVec 1 := BitVec.ofBool b

/-- Bits [11:0] of a first word (R260). -/
def Hd.bits (h : Hd) (major len : Nat) : BitVec 12 := BitVec.ofNat 6 major ++ h.stall ++ bit1 h.c ++ BitVec.ofNat 2 len
/-- R-form word (R260). -/
def RF.word (r : RF) (major fn len : Nat) : Word32 := r.b ++ r.a ++ r.d ++ BitVec.ofNat 5 fn ++ r.hd.bits major len
/-- I-form word (R260). -/
def IF.word (i : IF) (major len : Nat) : Word32 := i.imm ++ i.a ++ i.d ++ i.hd.bits major len
/-- Major 0x06 (R287). -/
def SF.word (i : SF) (sel : Nat) : Word32 := (0 : BitVec 2) ++ BitVec.ofNat 2 sel ++ i.amt ++ i.a ++ i.d ++ i.hd.bits 6 0
/-- B-form word (R260). -/
def BF.word (w : BF) (major : Nat) : Word32 := w.off ++ w.b ++ w.a ++ w.hd.bits major 0
/-- J-form word (R260). -/
def JF.word (j : JF) (major len : Nat) : Word32 := j.off ++ j.d ++ j.hd.bits major len
/-- Extended word 1 (R261). -/
def Ext1.word (w : Ext1) : Word32 :=
  w.shb ++ w.cbb ++ bit1 w.cb ++ w.sha ++ w.cba ++ bit1 w.ca ++ w.lmul ++ w.etb ++ w.eta ++ w.etd ++ bit1 w.kn ++ w.km
/-- Extended word 2 (R261). -/
def Ext2.word (w : Ext2) : Word32 :=
  w.imm16 ++ bit1 w.sat ++ w.rm ++ w.cache ++ bit1 w.ar ++ w.strength ++ w.scope ++ bit1 w.x ++ bit1 w.o ++ bit1 w.qb ++ bit1 w.qa
/-- The two words of a literal (R259). -/
def litWords (l : Word) : List Word32 := [l.extractLsb' 0 32, l.extractLsb' 32 32]
/-- R-form, base length. -/
def RF.enc (r : RF) (major fn : Nat) : List Word32 := [r.word major fn 0]
/-- VSETVLI. -/
def RLF.enc (r : RLF) (major fn : Nat) : List Word32 := r.r.word major fn 1 :: litWords r.lit
/-- I-form, base length. -/
def IF.enc (i : IF) (major : Nat) : List Word32 := [i.word major 0]
/-- I-form with its literal. -/
def ILF.enc (i : ILF) (major : Nat) : List Word32 := i.i.word major 1 :: litWords i.lit
/-- Major 0x06. -/
def SF.enc (i : SF) (sel : Nat) : List Word32 := [i.word sel]
/-- B-form. -/
def BF.enc (w : BF) (major : Nat) : List Word32 := [w.word major]
/-- J-form, base length. -/
def JF.enc (j : JF) (major : Nat) : List Word32 := [j.word major 0]
/-- LPC with its literal. -/
def JLF.enc (j : JLF) (major : Nat) : List Word32 := j.j.word major 1 :: litWords j.lit
/-- Extended form. -/
def XF.enc (x : XF) (major fn : Nat) : List Word32 := [x.r.word major fn 2, x.w1.word, x.w2.word]
/-- Extended form of majors 0x28 to 0x2A, with its literal if it has one. -/
def XLF.enc (x : XLF) (major fn : Nat) : List Word32 :=
  match x.lit with
  | none => x.x.enc major fn
  | some l => x.x.r.word major fn 3 :: x.x.w1.word :: x.x.w2.word :: litWords l

/-- Guard bits (R375). -/
def Guard.bits (g : Guard) : BitVec 4 := g.g ++ bit1 g.gk
/-- BLU word without operands. -/
def NoF.enc (w : NoF) (op : Nat) : List Word32 := [w.gd.bits ++ w.res ++ BitVec.ofNat 6 op]
/-- CBLDB, SKIPZ. -/
def WaF.enc (w : WaF) (op : Nat) : List Word32 := [w.gd.bits ++ w.rhi ++ w.wa ++ w.rlo ++ BitVec.ofNat 6 op]
/-- TBUILD.R, TBUILD.T. -/
def TbF.enc (w : TbF) (op : Nat) : List Word32 :=
  [w.gd.bits ++ w.k ++ w.g ++ bit1 w.r22 ++ w.wa ++ w.t ++ bit1 w.ew ++ bit1 w.aw ++ w.rlow ++ BitVec.ofNat 6 op]
/-- LUACC, ACCPUT, RTREE. -/
def OutF.enc (w : OutF) (op : Nat) : List Word32 := [w.gd.bits ++ w.op ++ w.level ++ w.joff ++ w.ooff ++ BitVec.ofNat 6 op]
/-- BLDW, BSTW. -/
def MoveF.enc (w : MoveF) (op : Nat) : List Word32 :=
  [w.gd.bits ++ w.sel ++ bit1 w.r25 ++ w.w ++ w.r20 ++ w.koff ++ w.ooff ++ BitVec.ofNat 6 op]
/-- Lane operations and BCMP. -/
def LaneF.enc (w : LaneF) (op : Nat) : List Word32 :=
  [w.gd.bits ++ bit1 w.me ++ w.ms ++ w.wd ++ w.wa ++ w.wb ++ bit1 w.ib ++ w.imm9 ++ BitVec.ofNat 6 op]
/-- BCVT. -/
def CvtF.enc (w : CvtF) (op : Nat) : List Word32 :=
  [w.gd.bits ++ bit1 w.me ++ w.ms ++ w.wd ++ w.wa ++ w.r16 ++ w.cv ++ bit1 w.hi ++ w.r6 ++ BitVec.ofNat 6 op]
/-- MAND, MNOT. -/
def MaskF.enc (w : MaskF) (op : Nat) : List Word32 :=
  [w.gd.bits ++ bit1 w.r27 ++ w.md ++ w.ma ++ w.mb ++ w.r6 ++ BitVec.ofNat 6 op]

/-- The words of an encoded instruction, first word first; events have none. -/
def encode : Instr → List Word32
  | .reset => []
  | .bootStageDone _ _ => []
  | .domainWrite _ _ => []
  | .domainWaitTimeout _ => []
  | .lomuxPortDown _ _ => []
  | .routeError _ _ => []
  | .linkLevelRetry _ => []
  | .refresh _ => []
  | .thermalSample _ _ => []
  | .fwAssert => []
  | .internalUe => []
  | .dieLinkFailure => []
  | .enq _ _ => []
  | .openWindow _ => []
  | .reattach _ => []
  | .hostAckDseq _ => []
  | .msixModerationExpiry => []
  | .registerWrite _ _ => []
  | .clearOnRead _ => []
  | .reconcileCount _ _ => []
  | .reconcileBlend _ _ => []
  | .reconcileRead _ _ => []
  | .layoutChange _ => []
  | .fwBegin => []
  | .fwChunk => []
  | .fwCommit => []
  | .attest => []
  | .attestRead => []
  | .certRead => []
  | .dumpNow => []
  | .dumpRead => []
  | .cxlMemRead _ _ => []
  | .memwr _ _ => []
  | .memwrptl _ _ => []
  | .bar4Read _ _ => []
  | .bar4Write _ _ => []
  | .snpinv _ => []
  | .snpdata _ => []
  | .snpcur _ => []
  | .birsp _ _ => []
  | .hostLineResponse _ _ _ => []
  | .hostReadCompletion _ _ => []
  | .atomicopCompletion _ _ => []
  | .zeroLengthReadCompletion _ => []
  | .homeRead _ _ => []
  | .homeWrite _ _ _ => []
  | .writeAck _ => []
  | .leaseExpiry _ => []
  | .homeAmo _ _ _ _ _ _ => []
  | .accordStore _ _ _ => []
  | .accordBlend _ _ _ _ _ => []
  | .scratchpadPortAccess _ _ _ _ => []
  | .feDeadline _ => []
  | .stashLineFill _ _ => []
  | .pageWalk _ _ _ _ _ => []
  | .streamPrefetch _ _ _ => []
  | .jobPop => []
  | .gangPlace => []
  | .placementBackoffExpiry _ _ => []
  | .strandHalt _ _ => []
  | .writeOutComplete _ => []
  | .contextRestore _ _ => []
  | .tileWriteback _ _ => []
  | .jobComplete _ => []
  | .contractRelease _ => []
  | .budgetOverrun _ => []
  | .watchdogExpiry _ => []
  | .ctadmitAdmit _ => []
  | .ctadmitWithdraw _ => []
  | .bankCommandStart _ => []
  | .tableBuildEnd _ => []
  | .rtreeRootWrite _ _ => []
  | .bankCommandComplete _ => []
  | .copySectorTranslated _ _ => []
  | .copySectorComplete _ _ => []
  | .collectiveArrival _ _ _ => []
  | .collectiveComplete _ => []
  | .add x => x.enc 0x00 0
  | .sub x => x.enc 0x00 1
  | .and x => x.enc 0x00 2
  | .or x => x.enc 0x00 3
  | .xor x => x.enc 0x00 4
  | .andn x => x.enc 0x00 5
  | .sll x => x.enc 0x00 6
  | .srl x => x.enc 0x00 7
  | .sra x => x.enc 0x00 8
  | .ror x => x.enc 0x00 9
  | .slt x => x.enc 0x00 10
  | .sltu x => x.enc 0x00 11
  | .min x => x.enc 0x00 12
  | .max x => x.enc 0x00 13
  | .minu x => x.enc 0x00 14
  | .maxu x => x.enc 0x00 15
  | .mul x => x.enc 0x00 16
  | .mulh x => x.enc 0x00 17
  | .mulhu x => x.enc 0x00 18
  | .div x => x.enc 0x00 19
  | .divu x => x.enc 0x00 20
  | .rem x => x.enc 0x00 21
  | .remu x => x.enc 0x00 22
  | .clz x => x.enc 0x00 23
  | .ctz x => x.enc 0x00 24
  | .popc x => x.enc 0x00 25
  | .brev x => x.enc 0x00 26
  | .bswap x => x.enc 0x00 27
  | .clmul x => x.enc 0x00 28
  | .clmulh x => x.enc 0x00 29
  | .sextB x => x.enc 0x01 0
  | .sextH x => x.enc 0x01 1
  | .sextW x => x.enc 0x01 2
  | .zextB x => x.enc 0x01 3
  | .zextH x => x.enc 0x01 4
  | .zextW x => x.enc 0x01 5
  | .extr x => x.enc 0x01 6
  | .insr x => x.enc 0x01 7
  | .csel x => x.enc 0x01 8
  | .addi x => x.enc 0x02
  | .addiL x => x.enc 0x02
  | .andi x => x.enc 0x03
  | .andiL x => x.enc 0x03
  | .ori x => x.enc 0x04
  | .oriL x => x.enc 0x04
  | .xori x => x.enc 0x05
  | .xoriL x => x.enc 0x05
  | .slli x => x.enc 0
  | .srli x => x.enc 1
  | .srai x => x.enc 2
  | .rori x => x.enc 3
  | .slti x => x.enc 0x07
  | .sltiL x => x.enc 0x07
  | .sltiu x => x.enc 0x08
  | .sltiuL x => x.enc 0x08
  | .li x => x.enc 0x09
  | .liL x => x.enc 0x09
  | .lpc x => x.enc 0x0a
  | .lpcL x => x.enc 0x0a
  | .beq x => x.enc 0x0c
  | .bne x => x.enc 0x0d
  | .blt x => x.enc 0x0e
  | .bge x => x.enc 0x0f
  | .bltu x => x.enc 0x10
  | .bgeu x => x.enc 0x11
  | .jal x => x.enc 0x12
  | .jalr x => x.enc 0x13
  | .ldB x => x.enc 0x14 0
  | .ldBX x => x.enc 0x14 0
  | .ldH x => x.enc 0x14 1
  | .ldHX x => x.enc 0x14 1
  | .ldW x => x.enc 0x14 2
  | .ldWX x => x.enc 0x14 2
  | .ldD x => x.enc 0x14 3
  | .ldDX x => x.enc 0x14 3
  | .lduB x => x.enc 0x14 4
  | .lduBX x => x.enc 0x14 4
  | .lduH x => x.enc 0x14 5
  | .lduHX x => x.enc 0x14 5
  | .lduW x => x.enc 0x14 6
  | .lduWX x => x.enc 0x14 6
  | .stB x => x.enc 0x14 7
  | .stBX x => x.enc 0x14 7
  | .stH x => x.enc 0x14 8
  | .stHX x => x.enc 0x14 8
  | .stW x => x.enc 0x14 9
  | .stWX x => x.enc 0x14 9
  | .stD x => x.enc 0x14 10
  | .stDX x => x.enc 0x14 10
  | .lddI x => x.enc 0x15
  | .stdI x => x.enc 0x16
  | .amoadd x => x.enc 0x17 0
  | .amoaddX x => x.enc 0x17 0
  | .amoand x => x.enc 0x17 1
  | .amoandX x => x.enc 0x17 1
  | .amoor x => x.enc 0x17 2
  | .amoorX x => x.enc 0x17 2
  | .amoxor x => x.enc 0x17 3
  | .amoxorX x => x.enc 0x17 3
  | .amomin x => x.enc 0x17 4
  | .amominX x => x.enc 0x17 4
  | .amomax x => x.enc 0x17 5
  | .amomaxX x => x.enc 0x17 5
  | .amominu x => x.enc 0x17 6
  | .amominuX x => x.enc 0x17 6
  | .amomaxu x => x.enc 0x17 7
  | .amomaxuX x => x.enc 0x17 7
  | .amoswap x => x.enc 0x17 8
  | .amoswapX x => x.enc 0x17 8
  | .cas x => x.enc 0x17 9
  | .casX x => x.enc 0x17 9
  | .casQ x => x.enc 0x17 10
  | .casQX x => x.enc 0x17 10
  | .ldF x => x.enc 0x18 0
  | .ldFX x => x.enc 0x18 0
  | .ldFe x => x.enc 0x18 1
  | .ldFeX x => x.enc 0x18 1
  | .stE x => x.enc 0x18 2
  | .stEX x => x.enc 0x18 2
  | .stF x => x.enc 0x18 3
  | .stFX x => x.enc 0x18 3
  | .feset x => x.enc 0x18 4
  | .fesetX x => x.enc 0x18 4
  | .feclr x => x.enc 0x18 5
  | .feclrX x => x.enc 0x18 5
  | .fence x => x.enc 0x19 0
  | .fenceX x => x.enc 0x19 0
  | .waitg x => x.enc 0x19 1
  | .waitgX x => x.enc 0x19 1
  | .syncw x => x.enc 0x19 2
  | .syncwX x => x.enc 0x19 2
  | .blend x => x.enc 0x1a 0
  | .blendX x => x.enc 0x1a 0
  | .blendC x => x.enc 0x1a 1
  | .blendCX x => x.enc 0x1a 1
  | .ldcA x => x.enc 0x1a 2
  | .ldcAX x => x.enc 0x1a 2
  | .obsclr x => x.enc 0x1a 3
  | .obsclrX x => x.enc 0x1a 3
  | .vld x => x.enc 0x20 0
  | .vldX x => x.enc 0x20 0
  | .vlds x => x.enc 0x20 1
  | .vldsX x => x.enc 0x20 1
  | .vldx x => x.enc 0x20 2
  | .vldxX x => x.enc 0x20 2
  | .vldFf x => x.enc 0x20 3
  | .vldFfX x => x.enc 0x20 3
  | .vst x => x.enc 0x20 4
  | .vstX x => x.enc 0x20 4
  | .vsts x => x.enc 0x20 5
  | .vstsX x => x.enc 0x20 5
  | .vstx x => x.enc 0x20 6
  | .vstxX x => x.enc 0x20 6
  | .vlda x => x.enc 0x20 7
  | .vldaX x => x.enc 0x20 7
  | .vldsA x => x.enc 0x20 8
  | .vldsAX x => x.enc 0x20 8
  | .vamoadd x => x.enc 0x21 0
  | .vamoaddX x => x.enc 0x21 0
  | .vamoand x => x.enc 0x21 1
  | .vamoandX x => x.enc 0x21 1
  | .vamoor x => x.enc 0x21 2
  | .vamoorX x => x.enc 0x21 2
  | .vamoxor x => x.enc 0x21 3
  | .vamoxorX x => x.enc 0x21 3
  | .vamomin x => x.enc 0x21 4
  | .vamominX x => x.enc 0x21 4
  | .vamomax x => x.enc 0x21 5
  | .vamomaxX x => x.enc 0x21 5
  | .vamoswap x => x.enc 0x21 6
  | .vamoswapX x => x.enc 0x21 6
  | .strset x => x.enc 0x22 0
  | .strsetX x => x.enc 0x22 0
  | .strclr x => x.enc 0x22 1
  | .strclrX x => x.enc 0x22 1
  | .strstat x => x.enc 0x22 2
  | .strstatX x => x.enc 0x22 2
  | .cplvl x => x.enc 0x23 0
  | .cplvlX x => x.enc 0x23 0
  | .cpgo x => x.enc 0x23 1
  | .cpgoX x => x.enc 0x23 1
  | .cpstat x => x.enc 0x23 2
  | .cpstatX x => x.enc 0x23 2
  | .cpcan x => x.enc 0x23 3
  | .cpcanX x => x.enc 0x23 3
  | .flinit x => x.enc 0x24 0
  | .flinitX x => x.enc 0x24 0
  | .awaitf x => x.enc 0x24 1
  | .awaitfX x => x.enc 0x24 1
  | .rels x => x.enc 0x24 2
  | .relsX x => x.enc 0x24 2
  | .flstat x => x.enc 0x24 3
  | .flstatX x => x.enc 0x24 3
  | .stashmap x => x.enc 0x25 0
  | .stashmapX x => x.enc 0x25 0
  | .stashunmap x => x.enc 0x25 1
  | .stashunmapX x => x.enc 0x25 1
  | .stashwb x => x.enc 0x25 2
  | .stashwbX x => x.enc 0x25 2
  | .cwb x => x.enc 0x26 0
  | .cwbX x => x.enc 0x26 0
  | .cinv x => x.enc 0x26 1
  | .cinvX x => x.enc 0x26 1
  | .cwbinv x => x.enc 0x26 2
  | .cwbinvX x => x.enc 0x26 2
  | .collred x => x.enc 0x27 0
  | .collredX x => x.enc 0x27 0
  | .collgat x => x.enc 0x27 1
  | .collgatX x => x.enc 0x27 1
  | .collbar x => x.enc 0x27 2
  | .collbarX x => x.enc 0x27 2
  | .vadd x => x.enc 0x28 0
  | .vaddX x => x.enc 0x28 0
  | .vsub x => x.enc 0x28 1
  | .vsubX x => x.enc 0x28 1
  | .vrsub x => x.enc 0x28 2
  | .vrsubX x => x.enc 0x28 2
  | .vmul x => x.enc 0x28 3
  | .vmulX x => x.enc 0x28 3
  | .vmulh x => x.enc 0x28 4
  | .vmulhX x => x.enc 0x28 4
  | .vmacc x => x.enc 0x28 5
  | .vmaccX x => x.enc 0x28 5
  | .vand x => x.enc 0x28 6
  | .vandX x => x.enc 0x28 6
  | .vor x => x.enc 0x28 7
  | .vorX x => x.enc 0x28 7
  | .vxor x => x.enc 0x28 8
  | .vxorX x => x.enc 0x28 8
  | .vsll x => x.enc 0x28 9
  | .vsllX x => x.enc 0x28 9
  | .vsrl x => x.enc 0x28 10
  | .vsrlX x => x.enc 0x28 10
  | .vsra x => x.enc 0x28 11
  | .vsraX x => x.enc 0x28 11
  | .vmin x => x.enc 0x28 12
  | .vminX x => x.enc 0x28 12
  | .vmax x => x.enc 0x28 13
  | .vmaxX x => x.enc 0x28 13
  | .vminu x => x.enc 0x28 14
  | .vminuX x => x.enc 0x28 14
  | .vmaxu x => x.enc 0x28 15
  | .vmaxuX x => x.enc 0x28 15
  | .vsadd x => x.enc 0x28 16
  | .vsaddX x => x.enc 0x28 16
  | .vssub x => x.enc 0x28 17
  | .vssubX x => x.enc 0x28 17
  | .vabs x => x.enc 0x28 18
  | .vabsX x => x.enc 0x28 18
  | .vclmul x => x.enc 0x28 19
  | .vclmulX x => x.enc 0x28 19
  | .vclmulh x => x.enc 0x28 20
  | .vclmulhX x => x.enc 0x28 20
  | .vpsum x => x.enc 0x28 21
  | .vpsumX x => x.enc 0x28 21
  | .vcmpEq x => x.enc 0x29 0
  | .vcmpEqX x => x.enc 0x29 0
  | .vcmpNe x => x.enc 0x29 1
  | .vcmpNeX x => x.enc 0x29 1
  | .vcmpLt x => x.enc 0x29 2
  | .vcmpLtX x => x.enc 0x29 2
  | .vcmpLe x => x.enc 0x29 3
  | .vcmpLeX x => x.enc 0x29 3
  | .vcmpLtu x => x.enc 0x29 4
  | .vcmpLtuX x => x.enc 0x29 4
  | .vcmpLeu x => x.enc 0x29 5
  | .vcmpLeuX x => x.enc 0x29 5
  | .vfcmpEq x => x.enc 0x29 6
  | .vfcmpEqX x => x.enc 0x29 6
  | .vfcmpLt x => x.enc 0x29 7
  | .vfcmpLtX x => x.enc 0x29 7
  | .vfcmpLe x => x.enc 0x29 8
  | .vfcmpLeX x => x.enc 0x29 8
  | .vfcmpUn x => x.enc 0x29 9
  | .vfcmpUnX x => x.enc 0x29 9
  | .vfadd x => x.enc 0x2a 0
  | .vfaddX x => x.enc 0x2a 0
  | .vfsub x => x.enc 0x2a 1
  | .vfsubX x => x.enc 0x2a 1
  | .vfmul x => x.enc 0x2a 2
  | .vfmulX x => x.enc 0x2a 2
  | .vfma x => x.enc 0x2a 3
  | .vfmaX x => x.enc 0x2a 3
  | .vfnma x => x.enc 0x2a 4
  | .vfnmaX x => x.enc 0x2a 4
  | .vfdiv x => x.enc 0x2a 5
  | .vfdivX x => x.enc 0x2a 5
  | .vfsqrt x => x.enc 0x2a 6
  | .vfsqrtX x => x.enc 0x2a 6
  | .vfmin x => x.enc 0x2a 7
  | .vfminX x => x.enc 0x2a 7
  | .vfmax x => x.enc 0x2a 8
  | .vfmaxX x => x.enc 0x2a 8
  | .vfsign x => x.enc 0x2a 9
  | .vfsignX x => x.enc 0x2a 9
  | .vfclass x => x.enc 0x2a 10
  | .vfclassX x => x.enc 0x2a 10
  | .vfrcp x => x.enc 0x2a 11
  | .vfrcpX x => x.enc 0x2a 11
  | .vfrsq x => x.enc 0x2a 12
  | .vfrsqX x => x.enc 0x2a 12
  | .vfexp2 x => x.enc 0x2a 13
  | .vfexp2X x => x.enc 0x2a 13
  | .vflog2 x => x.enc 0x2a 14
  | .vflog2X x => x.enc 0x2a 14
  | .vftanh x => x.enc 0x2a 15
  | .vftanhX x => x.enc 0x2a 15
  | .vcvt x => x.enc 0x2b 0
  | .vcvtX x => x.enc 0x2b 0
  | .vqnt x => x.enc 0x2b 1
  | .vpack x => x.enc 0x2b 2
  | .vunpk x => x.enc 0x2b 3
  | .kand x => x.enc 0x2c 0
  | .kandX x => x.enc 0x2c 0
  | .kor x => x.enc 0x2c 1
  | .korX x => x.enc 0x2c 1
  | .kxor x => x.enc 0x2c 2
  | .kxorX x => x.enc 0x2c 2
  | .knot x => x.enc 0x2c 3
  | .knotX x => x.enc 0x2c 3
  | .kmov x => x.enc 0x2c 4
  | .kmovX x => x.enc 0x2c 4
  | .kpop x => x.enc 0x2c 5
  | .kpopX x => x.enc 0x2c 5
  | .kfirst x => x.enc 0x2c 6
  | .kfirstX x => x.enc 0x2c 6
  | .ksbf x => x.enc 0x2c 7
  | .ksbfX x => x.enc 0x2c 7
  | .ksif x => x.enc 0x2c 8
  | .ksifX x => x.enc 0x2c 8
  | .ksof x => x.enc 0x2c 9
  | .ksofX x => x.enc 0x2c 9
  | .vperm x => x.enc 0x2d 0
  | .vpermX x => x.enc 0x2d 0
  | .vslideup x => x.enc 0x2d 1
  | .vslideupX x => x.enc 0x2d 1
  | .vslidedn x => x.enc 0x2d 2
  | .vslidednX x => x.enc 0x2d 2
  | .vbcast x => x.enc 0x2d 3
  | .vbcastX x => x.enc 0x2d 3
  | .vcompr x => x.enc 0x2d 4
  | .vcomprX x => x.enc 0x2d 4
  | .vexpd x => x.enc 0x2d 5
  | .vexpdX x => x.enc 0x2d 5
  | .vmerge x => x.enc 0x2d 6
  | .vmergeX x => x.enc 0x2d 6
  | .vmvsv x => x.enc 0x2d 7
  | .vmvsvX x => x.enc 0x2d 7
  | .vmvvs x => x.enc 0x2d 8
  | .vmvvsX x => x.enc 0x2d 8
  | .viota x => x.enc 0x2d 9
  | .viotaX x => x.enc 0x2d 9
  | .vid x => x.enc 0x2d 10
  | .vidX x => x.enc 0x2d 10
  | .vredsum x => x.enc 0x2e 0
  | .vredsumX x => x.enc 0x2e 0
  | .vredmax x => x.enc 0x2e 1
  | .vredmaxX x => x.enc 0x2e 1
  | .vredmin x => x.enc 0x2e 2
  | .vredminX x => x.enc 0x2e 2
  | .vfredusum x => x.enc 0x2e 3
  | .vfredusumX x => x.enc 0x2e 3
  | .vfredosum x => x.enc 0x2e 4
  | .vfredosumX x => x.enc 0x2e 4
  | .vfredmax x => x.enc 0x2e 5
  | .vfredmaxX x => x.enc 0x2e 5
  | .vfredmin x => x.enc 0x2e 6
  | .vfredminX x => x.enc 0x2e 6
  | .vredmaxsum x => x.enc 0x2e 7
  | .vredmaxsumX x => x.enc 0x2e 7
  | .vsetvl x => x.enc 0x2f 0
  | .vsetvli x => x.enc 0x2f 1
  | .opacc x => x.enc 0x30 0
  | .opaccX x => x.enc 0x30 0
  | .opaccn x => x.enc 0x30 1
  | .opaccnX x => x.enc 0x30 1
  | .accz x => x.enc 0x30 2
  | .acczX x => x.enc 0x30 2
  | .accld x => x.enc 0x30 3
  | .accldX x => x.enc 0x30 3
  | .accrd x => x.enc 0x30 4
  | .accrdX x => x.enc 0x30 4
  | .accwr x => x.enc 0x30 5
  | .accwrX x => x.enc 0x30 5
  | .accscale x => x.enc 0x30 6
  | .accscaleX x => x.enc 0x30 6
  | .drain x => x.enc 0x31 0
  | .drainX x => x.enc 0x31 0
  | .histo x => x.enc 0x31 1
  | .histoX x => x.enc 0x31 1
  | .scalepick x => x.enc 0x31 2
  | .pwlset x => x.enc 0x31 3
  | .pwlsetX x => x.enc 0x31 3
  | .cbld x => x.enc 0x32 0
  | .cbldX x => x.enc 0x32 0
  | .cbset x => x.enc 0x32 1
  | .cbsetX x => x.enc 0x32 1
  | .cbinv x => x.enc 0x32 2
  | .cbinvX x => x.enc 0x32 2
  | .cbuse x => x.enc 0x32 3
  | .cbuseX x => x.enc 0x32 3
  | .cbstat x => x.enc 0x32 4
  | .cbstatX x => x.enc 0x32 4
  | .bscope x => x.enc 0x34 0
  | .bscopeX x => x.enc 0x34 0
  | .bnest x => x.enc 0x34 1
  | .bnestX x => x.enc 0x34 1
  | .bbody x => x.enc 0x34 2
  | .bbodyX x => x.enc 0x34 2
  | .bcmd x => x.enc 0x34 3
  | .bcmdX x => x.enc 0x34 3
  | .bwait x => x.enc 0x34 4
  | .bwaitX x => x.enc 0x34 4
  | .bfence x => x.enc 0x34 5
  | .bfenceX x => x.enc 0x34 5
  | .bstat x => x.enc 0x34 6
  | .bstatX x => x.enc 0x34 6
  | .trap x => x.enc 0x3c 0
  | .trapX x => x.enc 0x3c 0
  | .eret x => x.enc 0x3c 1
  | .eretX x => x.enc 0x3c 1
  | .halt x => x.enc 0x3c 2
  | .haltX x => x.enc 0x3c 2
  | .yield x => x.enc 0x3c 3
  | .yieldX x => x.enc 0x3c 3
  | .csrrd x => x.enc 0x3c 4
  | .csrwr x => x.enc 0x3c 5
  | .csrswp x => x.enc 0x3c 6
  | .tlbinv x => x.enc 0x3c 7
  | .tlbinvX x => x.enc 0x3c 7
  | .objdecl x => x.enc 0x3c 8
  | .objdeclX x => x.enc 0x3c 8
  | .objdrop x => x.enc 0x3c 9
  | .objdropX x => x.enc 0x3c 9
  | .ncwset x => x.enc 0x3c 10
  | .ncwsetX x => x.enc 0x3c 10
  | .launch x => x.enc 0x3d 0
  | .launchX x => x.enc 0x3d 0
  | .trigger x => x.enc 0x3d 1
  | .triggerX x => x.enc 0x3d 1
  | .cancel x => x.enc 0x3d 2
  | .cancelX x => x.enc 0x3d 2
  | .pqpush x => x.enc 0x3d 3
  | .pqpushX x => x.enc 0x3d 3
  | .pqpop x => x.enc 0x3d 4
  | .pqpopX x => x.enc 0x3d 4
  | .heart x => x.enc 0x3d 5
  | .heartX x => x.enc 0x3d 5
  | .bnop w => w.enc 0
  | .tbuildR w => w.enc 1
  | .tbuildT w => w.enc 2
  | .tswap w => w.enc 3
  | .cbldb w => w.enc 4
  | .luacc w => w.enc 5
  | .luaccS w => w.enc 6
  | .accclr w => w.enc 7
  | .accput w => w.enc 8
  | .bldw w => w.enc 9
  | .bstw w => w.enc 10
  | .badd w => w.enc 11
  | .bsub w => w.enc 12
  | .bmax w => w.enc 13
  | .bmin w => w.enc 14
  | .band w => w.enc 15
  | .bor w => w.enc 16
  | .bxor w => w.enc 17
  | .bshl w => w.enc 18
  | .bshr w => w.enc 19
  | .bcmp w => w.enc 20
  | .bsel w => w.enc 21
  | .bcvt w => w.enc 22
  | .mand w => w.enc 23
  | .mnot w => w.enc 24
  | .skipz w => w.enc 25
  | .rtree w => w.enc 26
  | .illegalEncoding _ _ _ => []
  | .ncPageAccess _ _ _ => []

/-- The encoding as bytes, the lowest address first (R7). -/
def bytesOfWord (w : Word32) : List Byte := [w.extractLsb' 0 8, w.extractLsb' 8 8, w.extractLsb' 16 8, w.extractLsb' 24 8]

/-- The bytes of an encoded instruction. -/
def encodeBytes (i : Instr) : List Byte := (encode i).flatMap bytesOfWord

end Sys2Proof
end

