-- ==== Sys2Proof/Config.lean ====
section
/-! DEFINITION. What the S9 fixes for every part (R3, R4, R14), and the values the spec leaves open, as opaque constants that no proof can evaluate. -/

namespace Sys2Proof.Config

/-- Vector cores of a module (R3). -/
def cores : Nat := 128
/-- Conductors, one per cluster (R3). -/
def conductors : Nat := 16
/-- Pseudo-channels of a module (R14). -/
def channels : Nat := 512
/-- Bytes of one pseudo-channel (R14). -/
def channelBytes : Nat := 0x30000000
/-- Rows of one bank (R14). -/
def bankRows : Nat := 49152
/-- Home slices (R110). -/
def slices : Nat := 128
/-- Line size in bytes (R4). -/
def lineBytes : Nat := 128
/-- Scratchpad bytes of a core (R105). -/
def scratchBytes : Nat := 0x200000

/-- A value the spec leaves open, one for each place that asks for it and each time it is asked.
    Its uses are listed in the assumption log, entry 3. -/
opaque freeNat (place count : Nat) : Nat

/-- Whether both signatures of an image verify (R33): the keys are outside the spec (log 7). -/
opaque imageVerifies (image : List (Nat × Byte)) : Bool

/-- The security version an image carries (R33): its header layout is outside the spec (log 7). -/
opaque imageVersion (image : List (Nat × Byte)) : Nat

/-- A byte of an identity key's signature over some bytes: key 0 RSA-3072, 1 SLH-DSA (R56, log 7). -/
opaque signature (key : Nat) (data : List Byte) (index : Nat) : Byte

/-- A byte of what manufacture gives the part: 0 the serial number, 1 and 2 the RSA and SLH-DSA certificate chains (R55, R56, log 7). -/
opaque partByte (what index : Nat) : Byte

/-- The length of a certificate chain: 0 RSA, 1 SLH-DSA (R55, log 7). -/
opaque certLength (chain : Nat) : Nat

/-- The L2 set of a line within its slice (R111): the spec gives no index function (log 8). -/
opaque l2Set (line : Nat) : Nat

/-- The TLB set of a page of a context: the spec gives no index function (R101, log 12). -/
opaque tlbSet (ctx vbase bits : Nat) : Nat

/-- A byte of an object's descriptor as a slice writes it back, with its latest expiry there: the spec gives the 64 bytes no
    layout (R114, log 20). -/
opaque descriptorByte (o : Obj) (expiry index : Nat) : Byte

/-- KEY of a rendezvous record (R351): the part's own encoding (log 9). -/
opaque rendKey (kind npart bytes op et : Nat) : BitVec 64

/-- The CI8 code of an element where no breakpoint of the bank's curve lies at or below it (R252, log 3). -/
opaque ci8Open (bank x : Nat) : Nat

/-- floor(log2 X16) for an X16, in FP32 bits, that is not positive and finite (R255, log 3). -/
opaque curveTop (x16 : Nat) : Int

end Sys2Proof.Config
end

