-- ==== Sys2Proof/Machine/State.lean ====
section
/-! DEFINITION. Everything the spec gives the machine, as plain data, and the machine right after reset. -/

namespace Sys2Proof.Machine

open Sys2Proof

/-- Where a run stops by itself: nowhere in this model. -/
inductive Fault
  /-- The spec gives every step an effect, so no meaning raises it; safe. -/
  | noEffect
  deriving DecidableEq, Repr

/-- Why a meaning is not given. -/
inductive Refusal
  /-- An instruction with no meaning in this model, by its mnemonic; safe. -/
  | notModelled (mnemonic : String)
  deriving DecidableEq, Repr

/-- The dot set an observation entry holds for one cell (R130). -/
structure ObsEntry where
  cell : Nat
  dots : List Word
  deriving DecidableEq, Repr

/-- A stream (R340, R341): `pos` is the offset the next pop starts from, in BLOCKS mode that of the
    current block, of which `blk` vectors have been taken and whose checked payload is `block`; `next` is POS of R342; `buf`
    the raw bytes prefetched from `pos` on; `mem` and `stale` memory as STRSET found it, in whose place its bytes are
    read (R154, R162, log 53). -/
structure Stream where
  active : Bool
  base : Word
  len : Nat
  blocks : Bool
  fmt : Nat
  pos : Nat
  overEnd : Bool
  err : Bool
  cause : Nat
  errVal : Word
  blk : Nat
  next : Nat
  buf : List Byte
  block : List Byte
  mem : List Host.Cell
  stale : List (Nat × List Byte)
  deriving DecidableEq, Repr

/-- A slot of a flacon (R207). -/
inductive SlotSt
  | empty | filling | full
  deriving DecidableEq, Repr

/-- One slot: its state, error flag and bytes that have performed, bit b for byte b; a granule's
    arrival bit is the conjunction of its 256 (R207). -/
structure FlSlot where
  st : SlotSt
  err : Bool
  arrived : Nat
  deriving DecidableEq, Repr

/-- A flacon f0-f7 (R207, R347). -/
structure Flacon where
  base : Word
  size : Nat
  slots : List FlSlot
  head : Nat
  tail : Nat
  deriving DecidableEq, Repr

/-- A stash mapping (R122): scratchpad offset, object, and per line whether it is filled and dirty, and whether it was filled from an
    uncorrectable line (R18). -/
structure StashMap where
  off : Nat
  obj : Nat
  lines : List Nat
  filled : List Nat
  dirty : List Nat
  bad : List Nat
  deriving DecidableEq, Repr

/-- A write whose acknowledgment is due at a time (R119). -/
structure Ack where
  due : Nat
  line : Nat
  deriving DecidableEq, Repr

/-- A store error that the next FENCE or release reports (R28, R106). -/
structure StoreErr where
  cause : Nat
  va : Word
  deriving DecidableEq, Repr

/-- A fixed-latency producer of R198: the register and what is left of its latency. -/
structure Producer where
  reg : Nat
  left : Nat
  deriving DecidableEq, Repr

/-- The convoy the executing strand is in: member index, whether it has several members, its address
    and length, the lowest element not to begin (none for no limit), a recorded trap (cause, value,
    element) and the accord cells that its access has frozen, the total by which SBASE advances at retirement, the scalar registers written then, what HISTO members have
    counted in the blocks before, and the counts that they add to their registers at retirement (R196, R197, R212, R249, R316, R354, R363). -/
structure Convoy where
  multi : Bool
  member : Nat
  addr : Word
  bytes : Nat
  limit : Option Nat
  trap : Option (Nat × Word × Nat)
  froze : List Nat
  srBase : Nat
  pops : List (Nat × Stream)
  writes : List (Nat × Word)
  hist : List (Nat × Nat × Bool)
  counts : List (Nat × Nat)
  deriving DecidableEq, Repr

/-- What a strand waits for (R80, R214). `hardware` stalls the front; `poll` releases the issue slot and
    looks again at each of its turns; `homes` is an OBJDECL or OBJDROP at work at the homes on an object until a time; `port` is a full/empty
    wait at a word and `gen` a WAITG at a sync word; the others end when another step wakes the strand. -/
inductive Wait
  | none
  | hardware
  | poll
  | pop (q : Nat)
  | popDone (payload : Word) (key : BitVec 32)
  | port (loc : Nat)
  | portDone (val : BitVec 32)
  | portDeadline
  | gen (loc : Nat)
  | homes (obj due : Nat)
  deriving DecidableEq, Repr

/-- States of a strand record (R58). -/
inductive StrandSt
  | empty | running | ready | waiting | trapped
  deriving DecidableEq, Repr

/-- A cancel that has reached a unit (R78). -/
inductive CancelSt
  | none | trap | terminate
  deriving DecidableEq, Repr

/-- What CPSTAT reports of this context's copies of one number: sectors and end status (R346). -/
structure CopyEnd where
  sect : Nat
  status : Nat
  deriving DecidableEq, Repr

/-- A level of a copy's loop nest (R343). -/
structure CopyLevel where
  count : Nat
  sstride : Int
  dstride : Int
  deriving DecidableEq, Repr

/-- States of a copy (R346). -/
inductive CopySt
  | running | waitSlot | parked
  deriving DecidableEq, Repr

/-- A copy held by one of a core's four numbers (R204 to R206, R343). While a sector of `begun` bytes writes, `endAt` is when its bytes
    have performed and `acked` when their acknowledgments are due (R119); `mem` and `stale` are memory as its CPGO found it, in whose place
    its source is read (R154, R162, log 53), and `rows` the result rows that were not full then, which are read once they are (R164). -/
structure Copy where
  owner : SlotRef
  src : Word
  dst : Word
  sync : Word
  bytes : Nat
  levels : List CopyLevel
  flac : Option Nat
  slot : Option Nat
  st : CopySt
  cursor : List Nat
  off : Nat
  sect : Nat
  begun : Option Nat
  endAt : Nat
  acked : Nat
  mem : List Host.Cell
  stale : List (Nat × List Byte)
  rows : List Nat
  deriving DecidableEq, Repr

/-- A bank-command slot of a context (R372): the grant it holds. -/
structure BankSlot where
  grant : Option Nat
  deriving DecidableEq, Repr

/-- The zero-length read of the host that a release or a fence at SYSTEM scope makes in the PCIe fallback (R42, R149). -/
inductive ZeroRead
  | none | sent | answered
  deriving DecidableEq, Repr

/-- One strand context with all it owns (R191, R193). `wdCount` is the time from which the watchdog counts, moved on by each
    wait of a persistent pop (R80); `halted` that it has stopped at a convoy boundary for its write-out (R214); `captured` the descriptor
    a CPGO has read while it waits for its number (R345); `asks` the register and the length of the instruction that waits for an answer
    (R214); `waitCopies` copies brought back by a restore whose numbers the other slot's context holds (R204, log 58); `zeroRead` how far the
    read is that a release or fence of the convoy makes (R42). -/
structure Strand where
  st : StrandSt
  s : Vector Word 32
  v : Vector VReg 32
  k : Vector KReg 8
  pc : Word
  vl : Word
  vtype : Word
  vstart : Word
  rstate : Word
  rsidx : Word
  seed : Word
  sbase : Word
  rmode : Word
  fflags : Word
  acnt : Word
  astat : Word
  schk : Word
  strandId : Word
  gang : Word
  launch : Word
  wdog : Word
  status : Word
  cbgen : Word
  cbuse : Word
  trapcause : Word
  trappc : Word
  trapval : Word
  tvec : Word
  pending : Option (Nat × Word)
  latestAck : Nat
  ctx : Nat
  record : Option Nat
  scratchBase : Nat
  scratchSize : Nat
  obs : List ObsEntry
  streams : Vector Stream 8
  flacons : Vector Flacon 8
  stash : List StashMap
  acks : List Ack
  storeErrs : List StoreErr
  hostStores : Bool
  zeroRead : ZeroRead
  copyEnds : Vector CopyEnd 4
  bankSlots : Vector BankSlot 8
  prods : List Producer
  wait : Wait
  cv : Convoy
  cancel : CancelSt
  cancelTrapTaken : Bool
  wdCount : Nat
  halted : Bool
  captured : List Byte
  asks : Nat × Nat
  waitCopies : List (Nat × Copy)
  deriving DecidableEq, Repr

/-- A tile of the accumulator store with its owner tag (R112, R218): row r is `rows[r]`. -/
structure Tile where
  rows : Vector (BitVec 4096) 128
  owner : Option Nat
  dirty : Bool
  deriving DecidableEq, Repr

/-- A codebook bank with its owner tag (R221, R218): entry i is bits [64i + 63 : 64i]. -/
structure Bank where
  entries : BitVec 16384
  valid : BitVec 256
  owner : Option Nat
  dirty : Bool
  deriving DecidableEq, Repr

/-- A line held by a core's L1 (R118, R121): no expiry in a non-coherent window; `passed` once a store of this core has
    left the copy as it was (R295): the copy then serves no load of the core, which finds the store at the home (R151, R154). -/
structure L1Line where
  line : Nat
  data : List Byte
  expiry : Option Nat
  passed : Bool
  deriving DecidableEq, Repr

/-- What one vector core holds once for both slots (R191). -/
structure CoreSt where
  tiles : Vector Tile 12
  banks : Vector Bank 16
  copies : Vector (Option Copy) 4
  l1 : List L1Line
  deriving DecidableEq, Repr

/-- An entry of a cluster TLB (R101); `held` when it is one of the cluster's 1,024 pinned entries that stay. -/
structure TlbEntry where
  cluster : Nat
  ctx : Nat
  vbase : Nat
  bits : Nat
  pbase : Nat
  perms : BitVec 8
  held : Bool
  deriving DecidableEq, Repr

/-- An entry of a core's micro-TLB (R101), a copy of one of its cluster's. -/
structure MicroEntry where
  core : Nat
  entry : TlbEntry
  deriving DecidableEq, Repr

/-- A sibling of an accord cell (R125). -/
structure Sibling where
  val : Word
  dot : Word
  deriving DecidableEq, Repr

/-- An accord cell's siblings in ascending sequence order, its counter and frozen bit (R128). -/
structure AccCell where
  sibs : List Sibling
  ctr : Nat
  frozen : Bool
  deriving DecidableEq, Repr

/-- An access waiting at a scratchpad word (R328). -/
structure PortWait where
  loc : Nat
  who : SlotRef
  store : Option (BitVec 32)
  toEmpty : Bool
  deadline : Option Nat
  va : Word
  scope : Nat
  deriving DecidableEq, Repr

/-- MESI states of a 64-byte host line (R40). -/
inductive Mesi
  | shared | exclusive | modified
  deriving DecidableEq, Repr

/-- A 64-byte line of the host-line cache (R40); absent means I. -/
structure HostLine where
  addr : Nat
  st : Mesi
  deriving DecidableEq, Repr

/-- The package registers and what the management core keeps (R23, R18 to R34): the bytes each image slot's last FW_BEGIN stated, and where the
    fallback dump of a fatal stop lies (R55, R57). -/
structure Package where
  bootStatus : Word
  layoutGen : BitVec 16
  dramCeil : Word
  chActive : BitVec 512
  chFenced : BitVec 512
  thermStat : Word
  domain : Word
  linkRetry : Word
  down : List (Nat × Nat)
  recActive : BitVec 512
  recPending : BitVec 512
  recGen : BitVec 16
  imageA : List (Nat × Byte)
  imageB : List (Nat × Byte)
  preferred : Option Bool
  running : Option Bool
  writing : Option Bool
  sizeA : Nat
  sizeB : Nat
  fusedMin : Nat
  fatal : Option Nat
  dumpAt : Option Nat
  deriving DecidableEq, Repr

/-- A sillage event (R47). -/
structure Event where
  dseq : Word
  time : Word
  code : Nat
  src : Nat
  aux : Nat
  data : Word
  deriving DecidableEq, Repr

/-- A reconcile slot (R54). -/
structure RecSlot where
  cell : Word
  value : Word
  cmd : Word
  stat : Word
  result : Word
  dot : Word
  deriving DecidableEq, Repr

/-- The host-port registers, sillage, mailbox and reconcile slots (R39 to R56); `opened` once the window has been opened
    (R49), `response` the last answer to a host read, `atomicRefused` host addresses whose completer refuses AtomicOps (R41). -/
structure HostPort where
  ctl : Word
  mode : Nat
  opened : Bool
  ackerr : Bool
  incarnation : BitVec 4
  hseqAccepted : BitVec 32
  submitRejects : Word
  silBase : Word
  silSize : Word
  dseqPosted : Word
  hostAck : Word
  silLost : Word
  silMod : Word
  dumpBase : Word
  dumpSize : Word
  dumpDev : Word
  nextDseq : Word
  backlog : List Event
  lostRun : Option (Word × Nat)
  msixAt : Option Nat
  msixCount : Nat
  atomicEnable : Bool
  atomicRefused : List Nat
  mbCmd : Word
  mbStat : Word
  mbArg0 : Word
  mbArg1 : Word
  mbData : List (Nat × Byte)
  report : List Byte
  slots : List (Nat × RecSlot)
  response : List Byte
  responsePoison : Bool
  deriving DecidableEq, Repr

/-- An entry of a priority queue, in arrival order (R75). -/
structure PqEntry where
  key : BitVec 32
  payload : Word
  deriving DecidableEq, Repr

/-- A node of a job's graph (R62): its block, predecessors and successors. -/
structure GraphNode where
  lpb : Word
  npred : Nat
  succs : List Nat
  deriving DecidableEq, Repr

/-- Progress of a node in the current phase (R64). -/
inductive NodeSt
  | waiting | launched | done | cancelled
  deriving DecidableEq, Repr

/-- A node's pending count, whether it has fired, and its progress (R64). -/
structure NodeRun where
  pending : Nat
  fired : Bool
  st : NodeSt
  deriving DecidableEq, Repr

/-- An active job (R45, R59, R61). `visible` is when the writes that its ended units left behind are acknowledged, and `hostStores` that some
    went to the host and their zero-length read has not been answered (R42, R46). -/
structure Job where
  id : Nat
  tag : Word
  nodes : List GraphNode
  phases : Nat
  contract : Option Nat
  notify : Bool
  notifyPhase : Bool
  param : Word
  doneVa : Word
  ctx : Nat
  phase : Nat
  live : Bool
  runs : List NodeRun
  devPending : Nat
  phaseCancel : Bool
  jobCancel : Bool
  anyCancelled : Bool
  visible : Nat
  hostStores : Bool
  deriving DecidableEq, Repr

/-- A launch of an active job (R59, R66, R68). -/
structure Launch where
  handle : Nat
  job : Nat
  node : Option Nat
  entry : Word
  param : Word
  gangs : Nat
  width : Nat
  cond : Bool
  scratch : Nat
  prio : Nat
  persist : Bool
  canmode : Bool
  wdscope : Bool
  contract : Option Nat
  centry : Word
  wdog : Nat
  finished : Nat
  doneUnits : List Nat
  triggered : List Nat
  bad : Bool
  fired : Bool
  cancelled : Bool
  complete : Bool
  deriving DecidableEq, Repr

/-- A gang waiting for a place: its launch, index, failures, the time before which it is not tried,
    for a displaced gang the save records of its live units, and the positions cancelled before they started (R72, R73, R78). -/
structure GangWait where
  handle : Nat
  gang : Nat
  fails : Nat
  due : Nat
  back : List Nat
  gone : List Nat
  deriving DecidableEq, Repr

/-- A sync word's count still to be made, once a sector's writes are acknowledged at CTL.SCOPE (R109, R161): when, where and how many
    bytes, and the slot whose zero-length read it waits for, if it does (R42). -/
structure LateSync where
  due : Nat
  loc : Nat
  bytes : Nat
  read : Option SlotRef
  deriving DecidableEq, Repr

/-- A unit saved out of `core` (R193, R216), with its reservation's bytes, full bits, sync words and the counts still due to them, by
    offset (R106, R109); `due` is the time before which it is not restored (R217). -/
structure Saved where
  record : Nat
  unit : Strand
  conductor : Bool
  core : Nat
  copies : List (Nat × Copy)
  scratch : List (Nat × Byte)
  full : List Nat
  syncs : List Nat
  late : List LateSync
  due : Nat
  deriving DecidableEq, Repr

/-- A save record in use: its physical address, which names it, and its validity bits (R193, R218). -/
structure SaveRec where
  addr : Nat
  tileValid : BitVec 12
  bankValid : BitVec 16
  deriving DecidableEq, Repr

/-- A release of a contract that is running, or whose launches have been cancelled for its overrun (R83, R91): `dispatched` once its partition
    time has started, which counts from `since` while no other release pre-empts it. -/
structure Release where
  n : Nat
  stopped : Bool
  dispatched : Bool
  deadline : Nat
  used : Nat
  since : Option Nat
  bankUsed : Nat
  deriving DecidableEq, Repr

/-- An admitted contract (R83). -/
structure Contract where
  id : Nat
  clusters : BitVec 16
  stackMask : Byte
  shape : BitVec 16
  gangs : Nat
  period : Nat
  deadline : Nat
  budget : Nat
  bankbud : Nat
  first : Nat
  nextRel : Nat
  releases : Nat
  overruns : Nat
  misses : Nat
  running : Option Release
  deriving DecidableEq, Repr

/-- The module scheduler and its registers (R59 to R92, R389). -/
structure Sched where
  queues : Vector (List PqEntry) 32
  jobs : List Job
  heldJobs : List Job
  launches : List Launch
  nextJob : Nat
  nextHandle : Nat
  gangs : List GangWait
  nextDie : Nat
  lastCluster : Vector (Option Nat) 2
  contracts : List Contract
  ctxtab : Word
  objtab : Word
  savepool : Word
  savecnt : Word
  pqown : Vector Word 32
  records : List SaveRec
  saved : List Saved
  deriving DecidableEq, Repr

/-- States of a BLU (R185). -/
inductive BluSt
  | idle | run | stopped | done
  deriving DecidableEq, Repr

/-- States of a table half (R176). -/
inductive HalfSt
  | unbuilt | building | built
  deriving DecidableEq, Repr

/-- A table half: its shape and entries, token by token (R170, R175). -/
structure Half where
  st : HalfSt
  k : Nat
  g : Nat
  t : Nat
  ew : Nat
  table : List (List Int)
  deriving DecidableEq, Repr

/-- One BLU (R170, R171). Accumulators and lane registers not listed are 0. -/
structure Blu where
  halfA : Half
  halfB : Half
  readB : Bool
  acc : List (Nat × BitVec 32)
  w : Vector (BitVec 512) 8
  m : Vector (BitVec 16) 4
  lvl : Vector (BitVec 16) 16
  skip : BitVec 64
  status : Word
  ctx : Option Nat
  st : BluSt
  deriving DecidableEq, Repr

/-- A level of a command's nest (R368). -/
structure NestLevel where
  count : Nat
  bs : Int
  os : Int
  js : Int
  is : Int
  deriving DecidableEq, Repr

/-- A contribution to the n-th reduction of a group (R378): bank, words, result row of the instance. -/
structure Contribution where
  level : Nat
  n : Nat
  op : Nat
  bank : Nat
  j : Int
  words : List (BitVec 32)
  deriving DecidableEq, Repr

/-- Where a physical access lands (R94, R95): a byte of device memory of a module, of host memory, or
    of a scratchpad; `slice` is 8 bytes of one lane slice, a word at a shared offset and the slice's next
    word 128 bytes above it (R105). -/
inductive Place
  | device (mod addr : Nat)
  | host (addr : Nat)
  | scratch (mod core off : Nat)
  | slice (mod core off : Nat)
  deriving DecidableEq, Repr

/-- Phases of an accepted command (R184, R185). -/
inductive CmdSt
  | accepted | started | complete
  deriving DecidableEq, Repr

/-- A bank command from acceptance to completion (R368, R370, R372). In its issue phase `take` holds the lines of its objects that it takes
    back from the host (R163), `places` the pieces of the broadcast operand, with the page's NC, until they have been fetched (R184), and
    `due` is when the leases that its result rows had at issue have expired (R164). -/
structure BankCmd where
  grant : Nat
  unit : SlotRef
  record : Option Nat
  handle : Nat
  ctx : Nat
  contract : Option Nat
  banks : List Nat
  body : List Word32
  bcast : List Byte
  bcastPoison : Bool
  resobj : Option Nat
  opobj : List Nat
  rows : List Nat
  take : List Nat
  places : List (Place × Nat × Bool)
  due : Nat
  ia0 : Int
  bo0 : Int
  o0 : Int
  j0 : Int
  levels : List NestLevel
  st : CmdSt
  contribs : List Contribution
  written : List (Nat × Nat)
  summary : Word
  deriving DecidableEq, Repr

/-- Where the BLU that runs stands: its bank and command, the cursors of the iteration, whether each level's
    index is its first and its last, the loop-buffer index, and the RTREE instances run so far (R368, R375). -/
structure BluCtx where
  bank : Nat
  grant : Nat
  ia : Int
  bo : Int
  o : Int
  j : Int
  first : List Bool
  last : List Bool
  bpc : Nat
  tree : Nat
  deriving DecidableEq, Repr

/-- A participant of an open epoch (R351, R352): a unit, with its buffers at virtual addresses of its context, or one of another module
    (no unit), with its DST in `runs` and its DONE word at physical addresses. -/
structure Arrival where
  rank : Nat
  unit : Option SlotRef
  launch : Word
  unitId : Nat
  ctx : Nat
  agent : Word
  src : Word
  dst : Word
  runs : List (Nat × Nat)
  doneVa : Word
  data : List Byte
  deriving DecidableEq, Repr

/-- An epoch at a rendezvous record (R351): open until NPART participants have arrived; `due` is when
    DONE is written, once DST has been. -/
structure Epoch where
  rend : Nat
  kind : Nat
  npart : Nat
  bytes : Nat
  op : Nat
  et : Nat
  status : Nat
  number : Nat
  due : Option Nat
  arrivals : List Arrival
  deriving DecidableEq, Repr

/-- A host read held while the snoop filter evicts a line (R38): its address and length, and the line that leaves. -/
structure HeldRead where
  pa : Nat
  n : Nat
  line : Nat
  deriving DecidableEq, Repr

/-- How an access uses the L2 (R111, R295): CACHE 2 and 3, and a page with NC = 1. -/
inductive L2Use
  | cached | noAlloc | through | bypass
  deriving DecidableEq, Repr

/-- A write at its home that waits for the host's answer about its line (R38): its address and bytes, and how it uses the L2. -/
structure HeldWrite where
  pa : Nat
  bytes : List Byte
  use : L2Use
  deriving DecidableEq, Repr

/-- The whole machine. `cur` is the strand that steps, in slot `curRef`; the other occupied slots are
    in `others`; `ghosts` are units stopped by R210 as the dump shows them until their slot is taken again.
    `news` is what other modules have sent and this one has not taken in yet (log 55).
    Memory is keyed by location (see `Place.loc`); `stale` holds the DRAM bytes of lines whose L2 bytes, those of `mem`, differ, and
    `dirty` the lines the L2 is to write back (R111). `homeWrites` are writes at their homes that wait for the host's answer about their
    line, the oldest first (R38). -/
structure State where
  gtime : Word
  cur : Strand
  curRef : SlotRef
  others : List (SlotRef × Strand)
  ghosts : List (SlotRef × Strand)
  mem : List Host.Cell
  full : List Nat
  pkg : Package
  host : HostPort
  sched : Sched
  cores : List (Nat × CoreSt)
  incs : List (Nat × BitVec 4)
  peers : List (Nat × Peer)
  news : List News
  tlb : List TlbEntry
  micro : List MicroEntry
  objs : List (Nat × Obj)
  objCache : List (Nat × Nat)
  expiry : List (Nat × Nat)
  cells : List (Nat × AccCell)
  l2 : List Nat
  stale : List (Nat × List Byte)
  dirty : List Nat
  snoop : List Nat
  snoopInv : List Nat
  heldReads : List HeldRead
  homeWrites : List HeldWrite
  hostLines : List HostLine
  poison : List Nat
  latent : List Nat
  correctable : List Nat
  corrected : List (Nat × Nat)
  rowClear : List Nat
  portQueue : List PortWait
  popQueue : List (Nat × SlotRef)
  syncs : List Nat
  lateSyncs : List LateSync
  blus : List (Nat × Blu)
  blu : BluCtx
  cmds : List BankCmd
  nextGrant : Nat
  closed : Byte
  epochs : List Epoch
  free : Nat
  agenda : List (Nat × Instr)
  deriving DecidableEq, Repr

/-- A stream that is not set (R340). -/
def Stream.reset : Stream :=
  { active := false, base := 0, len := 0, blocks := false, fmt := 0, pos := 0, overEnd := false, err := false, cause := 0, errVal := 0,
    blk := 0, next := 0, buf := [], block := [], mem := [], stale := [] }

/-- A flacon with no slots (R347). -/
def Flacon.reset : Flacon := { base := 0, size := 0, slots := [], head := 0, tail := 0 }

/-- A convoy context outside any convoy. -/
def Convoy.idle : Convoy :=
  { multi := false, member := 0, addr := 0, bytes := 4, limit := none, trap := none, froze := [], srBase := 0, pops := [], writes := [], hist := [], counts := [] }

/-- An empty slot, every register 0 (R70 gives a unit its own start values; log 1). k0 holds ones. -/
def Strand.reset : Strand :=
  { st := .empty, s := Vector.replicate 32 0, v := Vector.replicate 32 0, k := Vector.replicate 8 0, pc := 0, vl := 0, vtype := 0, vstart := 0,
    rstate := 0, rsidx := 0, seed := 0, sbase := 0, rmode := 0, fflags := 0, acnt := 0, astat := 0, schk := 0, strandId := 0, gang := 0,
    launch := 0, wdog := 0, status := 0, cbgen := 0, cbuse := 0, trapcause := 0, trappc := 0, trapval := 0, tvec := 0, pending := none,
    latestAck := 0, ctx := 0, record := none, scratchBase := 0, scratchSize := 0, obs := [], streams := Vector.replicate 8 .reset,
    flacons := Vector.replicate 8 .reset, stash := [], acks := [], storeErrs := [], hostStores := false, zeroRead := .none,
    copyEnds := Vector.replicate 4 { sect := 0, status := 0 }, bankSlots := Vector.replicate 8 { grant := none }, prods := [], wait := .none,
    cv := .idle, cancel := .none, cancelTrapTaken := false, wdCount := 0, halted := false, captured := [], asks := (0, 4), waitCopies := [] }

/-- A tile that no context owns (R218). -/
def Tile.reset : Tile := { rows := Vector.replicate 128 0, owner := none, dirty := false }

/-- A bank after reset: every entry invalid, no owner (R221). -/
def Bank.reset : Bank := { entries := 0, valid := 0, owner := none, dirty := false }

/-- A core after reset. -/
def CoreSt.reset : CoreSt :=
  { tiles := Vector.replicate 12 .reset, banks := Vector.replicate 16 .reset, copies := Vector.replicate 4 none, l1 := [] }

/-- An unbuilt table half (R171). -/
def Half.unbuilt : Half := { st := .unbuilt, k := 1, g := 1, t := 1, ew := 16, table := [] }

/-- A BLU after reset (R171, R185, log 1). -/
def Blu.reset : Blu :=
  { halfA := .unbuilt, halfB := .unbuilt, readB := false, acc := [], w := Vector.replicate 8 0, m := Vector.replicate 4 0,
    lvl := Vector.replicate 16 0, skip := 0, status := 0, ctx := none, st := .idle }

/-- No bank command runs. -/
def BluCtx.reset : BluCtx := { bank := 0, grant := 0, ia := 0, bo := 0, o := 0, j := 0, first := [], last := [], bpc := 0, tree := 0 }

/-- The package registers after reset (R23), with a retirement record that retires nothing (log 1). -/
def Package.reset : Package :=
  { bootStatus := 1, layoutGen := 0, dramCeil := 0x6000000000, chActive := BitVec.allOnes 512, chFenced := 0, thermStat := 0, domain := 1,
    linkRetry := 0, down := [], recActive := BitVec.allOnes 512, recPending := 0, recGen := 0, imageA := [], imageB := [], preferred := none, running := none,
    writing := none, sizeA := 0, sizeB := 0, fusedMin := 0, fatal := none, dumpAt := none }

/-- The host-port registers after reset (R51). -/
def HostPort.reset : HostPort :=
  { ctl := 0, mode := 0, opened := false, ackerr := false, incarnation := 0, hseqAccepted := 0, submitRejects := 0, silBase := 0,
    silSize := 8, dseqPosted := 0, hostAck := 0, silLost := 0, silMod := 0, dumpBase := 0, dumpSize := 0, dumpDev := 0, nextDseq := 1,
    backlog := [], lostRun := none, msixAt := none, msixCount := 0, atomicEnable := false, atomicRefused := [], mbCmd := 0, mbStat := 0, mbArg0 := 0, mbArg1 := 0,
    mbData := [], report := [], slots := [], response := [], responsePoison := false }

/-- The scheduler after reset (R71, R389). -/
def Sched.reset : Sched :=
  { queues := Vector.replicate 32 [], jobs := [], heldJobs := [], launches := [], nextJob := 0, nextHandle := 1, gangs := [], nextDie := 0,
    lastCluster := Vector.replicate 2 none, contracts := [], ctxtab := 0, objtab := 0x01000000, savepool := 0x02000000, savecnt := 256,
    pqown := Vector.replicate 32 0, records := [], saved := [] }

/-- The machine right after reset: the boot ROM runs, no slot holds a unit, memory lists nothing. -/
def State.reset : State :=
  { gtime := 0, cur := .reset, curRef := { core := 0, slot := 0 }, others := [], ghosts := [], mem := [], full := [], pkg := .reset, host := .reset,
    sched := .reset, cores := [], incs := [], peers := [], news := [], tlb := [], micro := [], objs := [], objCache := [], expiry := [], cells := [], l2 := [], stale := [], dirty := [], snoop := [], snoopInv := [],
    heldReads := [], homeWrites := [], hostLines := [], poison := [], latent := [], correctable := [], corrected := [], rowClear := [], portQueue := [], popQueue := [], syncs := [], lateSyncs := [],
    blus := [], blu := .reset, cmds := [], nextGrant := 0, closed := 0, epochs := [], free := 0, agenda := [] }

end Sys2Proof.Machine
end

