-- ==== Sys2Proof/Machine/Flags.lean ====
section
/-! DEFINITION. FFLAGS (R242): its bits, and raising them. -/

namespace Sys2Proof.Machine

/-- The six flag bits of R242. -/
abbrev Flags := BitVec 6

/-- No flag. -/
def Flags.none : Flags := 0
/-- NX, inexact. -/
def Flags.nx : Flags := 1
/-- UF, underflow. -/
def Flags.uf : Flags := 2
/-- OF, overflow. -/
def Flags.of : Flags := 4
/-- DZ, division by zero. -/
def Flags.dz : Flags := 8
/-- NV, invalid operation. -/
def Flags.nv : Flags := 16
/-- SAT, a result was clamped. -/
def Flags.sat : Flags := 32

/-- A flag when a condition holds. -/
def Flags.when (c : Bool) (f : Flags) : Flags := if c then f else 0

/-- R242: flags are sticky; an instruction only sets them. -/
def Strand.raise (t : Strand) (f : Flags) : Strand := { t with fflags := t.fflags ||| f.setWidth 64 }

/-- R242: what CSRWR keeps of a value written to FFLAGS. -/
def Flags.writable (w : Word) : Word := w &&& 0x3F

end Sys2Proof.Machine
end

