-- ==== Sys2Proof/Machine/Numbers.lean ====
section
/-! DEFINITION. Exact values, the rounding step, conversions, KW-mix and the approximations' functions (R237 to R248, R309 to R311). -/

namespace Sys2Proof.Machine

open Sys2Proof

/-- An exact value: a NaN, an infinity, or a finite real. A finite value is `m × 2^e` with its sign;
    with `sticky` it lies strictly between `m` and `m + 1` times `2^e`. -/
inductive Num
  | nan
  | inf (neg : Bool)
  | fin (neg : Bool) (m : Nat) (e : Int) (sticky : Bool)
  deriving DecidableEq, Repr

/-- R237: exponent bits, mantissa bits, bias, and whether the format has infinities. -/
structure FloatFmt where
  eb : Nat
  mb : Nat
  bias : Nat
  hasInf : Bool
  deriving DecidableEq, Repr

/-- R237: the format of a float type. -/
def fmtOf : ET → FloatFmt
  | .bf16 => ⟨8, 7, 127, true⟩
  | .fp16 => ⟨5, 10, 15, true⟩
  | .e4m3 => ⟨4, 3, 7, false⟩
  | .e5m2 => ⟨5, 2, 15, true⟩
  | _ => ⟨8, 23, 127, true⟩

/-- R237: the exponent of the smallest normal. -/
def FloatFmt.emin (f : FloatFmt) : Int := 1 - (f.bias : Int)
/-- R237: the exponent of the largest finite value. -/
def FloatFmt.emax (f : FloatFmt) : Int := if f.hasInf then (f.bias : Int) else (f.bias : Int) + 1
/-- R237: the bits of the largest finite magnitude. -/
def FloatFmt.maxBits (f : FloatFmt) : Nat :=
  if f.hasInf then (2 ^ f.eb - 1) * 2 ^ f.mb - 1 else 2 ^ (f.eb + f.mb) - 2
/-- The sign bit's weight. -/
def FloatFmt.signBit (f : FloatFmt) : Nat := 2 ^ (f.eb + f.mb)
/-- R237: the canonical NaN. -/
def FloatFmt.nan (f : FloatFmt) : Nat :=
  if f.hasInf then (2 ^ f.eb - 1) * 2 ^ f.mb + 2 ^ (f.mb - 1) else 2 ^ (f.eb + f.mb) - 1
/-- R237: positive infinity. -/
def FloatFmt.infBits (f : FloatFmt) : Nat := (2 ^ f.eb - 1) * 2 ^ f.mb
/-- A magnitude with a sign. -/
def FloatFmt.signed (f : FloatFmt) (neg : Bool) (x : Nat) : Nat := if neg then x + f.signBit else x

/-- R238: the value of an encoding. -/
def decodeFloat (t : ET) (x : Nat) : Num :=
  let f := fmtOf t
  let neg := x.testBit (f.eb + f.mb)
  let e := x / 2 ^ f.mb % 2 ^ f.eb
  let m := x % 2 ^ f.mb
  if e = 2 ^ f.eb - 1 ∧ f.hasInf then if m = 0 then .inf neg else .nan
  else if e = 2 ^ f.eb - 1 ∧ m = 2 ^ f.mb - 1 then .nan
  else if e = 0 then .fin neg m (f.emin - f.mb) false
  else .fin neg (m + 2 ^ f.mb) ((e : Int) - 1 + f.emin - f.mb) false

/-- An integer as an exact value. -/
def Num.ofInt (x : Int) : Num := .fin (x < 0) x.natAbs 0 false

/-- The value is a zero. -/
def Num.isZero : Num → Bool
  | .fin _ 0 _ false => true
  | _ => false

/-- The value is a NaN. -/
def Num.isNan : Num → Bool
  | .nan => true
  | _ => false

/-- The value is an infinity. -/
def Num.isInf : Num → Bool
  | .inf _ => true
  | _ => false

/-- The sign of a value that is no NaN. -/
def Num.neg : Num → Bool
  | .nan => false
  | .inf n => n
  | .fin n _ _ _ => n

/-- The value with its sign changed. -/
def Num.negate : Num → Num
  | .nan => .nan
  | .inf n => .inf (!n)
  | .fin n m e s => .fin (!n) m e s

/-- |x|. -/
def Num.abs : Num → Num
  | .nan => .nan
  | .inf _ => .inf false
  | .fin _ m e s => .fin false m e s

/-- A finite value times 2^k, exactly. -/
def Num.scale (x : Num) (k : Int) : Num :=
  match x with
  | .fin n m e s => .fin n m (e + k) s
  | y => y

/-- R239: an exact product; 0 × ∞ is invalid. -/
def mulNum (a b : Num) : Num × Flags :=
  match a, b with
  | .nan, _ => (.nan, 0)
  | _, .nan => (.nan, 0)
  | .inf n, y => if y.isZero then (.nan, Flags.nv) else (.inf (n != y.neg), 0)
  | x, .inf n => if x.isZero then (.nan, Flags.nv) else (.inf (n != x.neg), 0)
  | .fin n m e _, .fin n' m' e' _ => (.fin (n != n') (m * m') (e + e') false, 0)

/-- A finite value as an integer multiple of 2^e0, for e0 at or below its exponent. -/
def Num.atExp (e0 : Int) : Num → Int
  | .fin n m e _ => let x : Int := (m : Int) * 2 ^ (e - e0).toNat; if n then -x else x
  | _ => 0

/-- The least exponent of the non-zero finite values of a list. -/
def minExp : List Num → Option Int
  | [] => none
  | .fin _ m e _ :: xs => if m = 0 then minExp xs else
      match minExp xs with
      | none => some e
      | some f => some (min e f)
  | _ :: xs => minExp xs

/-- R245: an exact sum. An exact zero is −0 when every operand is a zero of negative sign, else +0,
    or −0 under RDN unless every operand is +0. -/
def sumNum (rm : Nat) (xs : List Num) : Num × Flags :=
  if xs.any Num.isNan then (.nan, 0)
  else if xs.any (fun x => x.isInf && !x.neg) && xs.any (fun x => x.isInf && x.neg) then (.nan, Flags.nv)
  else if xs.any Num.isInf then (.inf (xs.any (fun x => x.isInf && x.neg)), 0)
  else
    match minExp xs with
    | none =>
      let allNeg := xs.all Num.neg
      let allPos := xs.all (fun x => !x.neg)
      (.fin (allNeg || (!allPos && rm == 3)) 0 0 false, 0)
    | some e0 =>
      let z : Int := xs.foldl (fun a x => a + x.atExp e0) 0
      if z = 0 then (.fin (rm == 3) 0 0 false, 0) else (.fin (z < 0) z.natAbs e0 false, 0)

/-- R239, R309: x × y + d exactly; 0 × ∞ is invalid even beside a NaN d. -/
def fmaNum (rm : Nat) (x y d : Num) : Num × Flags :=
  let (p, f) := mulNum x y
  if f != 0 then (.nan, f)
  else sumNum rm [p, d]

/-- The quotient of two positive integers times 2^-bits, floored, with what is left as sticky. -/
def quotBits (a b bits : Nat) : Nat × Bool :=
  let q := a * 2 ^ bits / b
  (q, q * b != a * 2 ^ bits)

/-- R309: x ÷ y, with enough bits that the rounding is exact. -/
def divNum (x y : Num) : Num × Flags :=
  match x, y with
  | .nan, _ => (.nan, 0)
  | _, .nan => (.nan, 0)
  | .inf _, .inf _ => (.nan, Flags.nv)
  | .inf n, y => (.inf (n != y.neg), 0)
  | x, .inf n => (.fin (n != x.neg) 0 0 false, 0)
  | .fin n m e _, .fin n' m' e' _ =>
    if m' = 0 then (if m = 0 then (.nan, Flags.nv) else (.inf (n != n'), Flags.dz))
    else if m = 0 then (.fin (n != n') 0 0 false, 0)
    else
      let bits := 128 + bitLen m'
      let (q, st) := quotBits m m' bits
      (.fin (n != n') q (e - e' - bits) st, 0)

/-- One binary digit of a square root at a time: `r` is the root of the digits taken, `n` the radicand. -/
def sqrtLoop : Nat → Nat → Nat → Nat
  | 0, _, r => r
  | k + 1, n, r =>
    let r' := r + 2 ^ k
    if r' * r' ≤ n then sqrtLoop k n r' else sqrtLoop k n r

/-- floor(√n). -/
def natSqrt (n : Nat) : Nat := sqrtLoop (bitLen n / 2 + 1) n 0

/-- R309: √x; a value below −0 is invalid. -/
def sqrtNum (x : Num) : Num × Flags :=
  match x with
  | .nan => (.nan, 0)
  | .inf n => if n then (.nan, Flags.nv) else (.inf false, 0)
  | .fin n m e _ =>
    if m = 0 then (.fin n 0 0 false, 0)
    else if n then (.nan, Flags.nv)
    else
      -- an even exponent with 256 bits below
      let odd := e % 2 ≠ 0
      let m' := (if odd then 2 * m else m) * 2 ^ 256
      let e' := (if odd then e - 1 else e) - 256
      let r := natSqrt m'
      (.fin false r (e' / 2) (r * r != m'), 0)

/-- R244: whether the neighbour further from zero is chosen. `rem` of `2^d`, with `st`, is what lies
    above the nearer neighbour; `odd` is its parity and `r` the random bits of R248. -/
def roundsUp (rm : Nat) (neg odd : Bool) (rem d : Nat) (st : Bool) (r : Nat) : Bool :=
  let half := 2 ^ d
  match rm with
  | 0 => 2 * rem > half || (2 * rem == half && (st || odd))
  | 1 => false
  | 2 => !neg
  | 3 => neg
  | 4 => 2 * rem ≥ half
  | _ => if st then r * 2 ^ d ≤ rem * 2 ^ 32 else r * 2 ^ d < rem * 2 ^ 32

/-- A magnitude `m × 2^e` on the multiples of 2^g: the lower multiple, and whether the value lies on it,
    and whether rounding goes up. A shift far below the grid keeps only that the value is tiny. -/
def toGrid (rm : Nat) (neg : Bool) (m : Nat) (e g : Int) (st : Bool) (r : Nat) : Nat × Bool × Bool :=
  if g ≤ e then (m * 2 ^ (e - g).toNat, !st, st && rm == 2 && !neg)
  else
    let d := (g - e).toNat
    if d > bitLen m + 64 then
      let exact := m == 0 && !st
      (0, exact, !exact && roundsUp rm neg false 1 66 false r)
    else
      let n := m / 2 ^ d
      let rem := m % 2 ^ d
      let exact := rem == 0 && !st
      (n, exact, !exact && roundsUp rm neg (n % 2 == 1) rem d st r)

/-- R245: the rounding step. `r` is kwbits(e), used under SR. -/
def roundNum (x : Num) (t : ET) (rm : Nat) (sat : Bool) (r : Nat) : Nat × Flags :=
  let f := fmtOf t
  match x with
  | .nan => (f.nan, 0)
  | .inf n =>
    if f.hasInf then (f.signed n f.infBits, 0)
    else if sat then (f.signed n f.maxBits, Flags.sat)
    else (f.signed n f.nan, Flags.of)
  | .fin n m e st =>
    if m = 0 ∧ st = false then (f.signed n 0, 0)
    else
      let top : Int := e + (bitLen m : Int) - 1
      let tooBig := fun (nx : Flags) =>
        if sat then (f.signed n f.maxBits, nx ||| Flags.sat)
        else if rm = 1 ∨ (rm = 2 ∧ n) ∨ (rm = 3 ∧ !n) then (f.signed n f.maxBits, nx ||| Flags.of ||| Flags.nx)
        else if f.hasInf then (f.signed n f.infBits, nx ||| Flags.of ||| Flags.nx)
        else (f.signed n f.nan, nx ||| Flags.of ||| Flags.nx)
      if m ≠ 0 ∧ top > f.emax then
        -- beyond every finite value whatever the rounding
        let g := top - f.mb
        let exact := !st && (g ≤ e || m % 2 ^ (g - e).toNat == 0)
        tooBig (Flags.when (!exact) Flags.nx)
      else
        let g : Int := max top f.emin - f.mb
        let g := if m = 0 then f.emin - f.mb else g
        let (lo, exact, up) := toGrid rm n m e g st r
        let q := if up then lo + 1 else lo
        let nx := Flags.when (!exact) Flags.nx
        let uf := Flags.when (!exact && (m == 0 || top < f.emin)) Flags.uf
        let bits := (g + f.mb - f.emin).toNat * 2 ^ f.mb + q
        if bits > f.maxBits then
          tooBig (nx ||| uf)
        else (f.signed n bits, nx ||| uf)

/-- R244 onto the integers: the rounded magnitude and whether it is exact. -/
def roundMag (rm : Nat) (neg : Bool) (m : Nat) (e : Int) (st : Bool) (r : Nat) : Nat × Bool :=
  let (lo, exact, up) := toGrid rm neg m e 0 st r
  (if up then lo + 1 else lo, exact)

/-- R246: the range of an integer type of n bits. -/
def intRange (n : Nat) (uns : Bool) : Int × Int :=
  if uns then (0, 2 ^ n - 1) else (-(2 ^ (n - 1)), 2 ^ (n - 1) - 1)

/-- R246: a float value converted to an integer of n bits: the bits and flags. -/
def toInteger (x : Num) (n : Nat) (uns : Bool) (rm : Nat) (sat : Bool) (r : Nat) : Nat × Flags :=
  let (lo, hi) := intRange n uns
  let out := if sat then Flags.sat else Flags.nv
  match x with
  | .nan => (0, Flags.nv)
  | .inf neg => (lowBits n (if neg then lo else hi), out)
  | .fin neg m e st =>
    if m ≠ 0 ∧ e + (bitLen m : Int) > 80 then
      (lowBits n (if neg then lo else hi), out ||| Flags.when (st || (e < 0 && m % 2 ^ (-e).toNat != 0)) Flags.nx)
    else
      let (q, exact) := roundMag rm neg m e st r
      let z : Int := if neg then -(q : Int) else q
      let nx := Flags.when (!exact) Flags.nx
      if z < lo then (lowBits n lo, out ||| nx)
      else if z > hi then (lowBits n hi, out ||| nx)
      else (lowBits n z, nx)

/-- R246: a wider integer converted to a narrower: the value, a clamp under SAT, or the low bits. -/
def narrowInt (z : Int) (n : Nat) (uns sat : Bool) : Nat × Flags :=
  let (lo, hi) := intRange n uns
  if lo ≤ z ∧ z ≤ hi then (lowBits n z, 0)
  else if sat then (lowBits n (if z < lo then lo else hi), Flags.sat)
  else (lowBits n z, 0)

/-- R183: rne32, the bits of an exact value rounded to FP32 with RNE, without flags. -/
def rne32 (x : Num) : Nat := (roundNum x .fp32 0 false 0).1

/-- FP32 bits as a value. -/
def fp32 (x : Nat) : Num := decodeFloat .fp32 x

/-- The sign and the integer that orders a finite value against others of one list, or an infinity. -/
def cmpNum (a b : Num) : Ordering :=
  match a, b with
  | .inf true, .inf true => .eq
  | .inf false, .inf false => .eq
  | .inf true, _ => .lt
  | _, .inf true => .gt
  | .inf false, _ => .gt
  | _, .inf false => .lt
  | x, y =>
    match minExp [x, y] with
    | none => .eq
    | some e0 => compare (x.atExp e0) (y.atExp e0)

/-- x < y for values that are no NaN; −0 equals +0. -/
def ltNum (a b : Num) : Bool := cmpNum a b == .lt
/-- x = y for values that are no NaN. -/
def eqNum (a b : Num) : Bool := cmpNum a b == .eq

/-- Orders values with −0 below +0 (VFMIN, VFMAX, maxsum; R310, R183). -/
def ltZero (a b : Num) : Bool := ltNum a b || (a.isZero && b.isZero && a.neg && !b.neg)

/-- R248: the constants of kwmix. -/
def kwk : List Nat := [0xC3A95E174B2D0F6B, 0x8E4F72A1D65B39C5, 0xB7D10C936A2EF485]

/-- R248: kwmix on 64-bit values. -/
def kwmix (key ctr : Nat) : Nat :=
  let x0 := (ctr * 0x9C5E27B3F1D46A8B % 2 ^ 64) ^^^ key
  kwk.foldl (fun x k => let y := (x ^^^ (x / 2 ^ 31)) * k % 2 ^ 64; y ^^^ (y / 2 ^ 27)) x0

/-- R248: kwbits(e) for given SEED, SBASE and base. -/
def kwbits (seed sbase base e : Nat) : Nat := kwmix seed ((sbase + base + e) % 2 ^ 64) / 2 ^ 32

/-- R311: truncation toward zero to 14 significant bits, and whether it lost anything. -/
def trunc14 (m : Nat) (e : Int) (st : Bool) : Nat × Int × Bool :=
  let n := bitLen m
  if n ≤ 14 then (m, e, st)
  else
    let d := n - 14
    (m / 2 ^ d, e + d, st || m % 2 ^ d != 0)

/-- Σ y^i/i! in fixed point with p fraction bits, from term i on. -/
def expSeries : Nat → Nat → Nat → Nat → Nat → Nat → Nat
  | 0, _, _, _, _, acc => acc
  | k + 1, p, y, i, term, acc =>
    let t := term * y / 2 ^ p / (i + 1)
    expSeries k p y (i + 1) t (acc + t)

/-- exp(y) for y in fixed point with p fraction bits. -/
def expFix (terms p y : Nat) : Nat := expSeries terms p y 0 (2 ^ p) (2 ^ p)

/-- Σ 2/((2i + 1) 3^(2i + 1)), which is ln 2, in fixed point with p fraction bits. -/
def ln2Series : Nat → Nat → Nat → Nat → Nat
  | 0, _, _, _ => 0
  | k + 1, p, i, pow => 2 * 2 ^ p / ((2 * i + 1) * pow) + ln2Series k p (i + 1) (pow * 9)

/-- ln 2 with 256 fraction bits. -/
def ln2Fix : Nat := ln2Series 90 256 0 3

/-- R311: 2^x as a magnitude with sticky, for finite x. -/
def exp2Num (neg : Bool) (m : Nat) (e : Int) : Num :=
  -- beyond any format's range either way
  if m ≠ 0 ∧ e + (bitLen m : Int) > 12 then (if neg then .fin false 1 (-5000) true else .fin false 1 5000 true)
  else
    -- x as an integer multiple of 2^-200 (no operand has finer bits)
    let z : Int := (m : Int) * 2 ^ (e + 200).toNat
    let z := if neg then -z else z
    let n := z / 2 ^ 200
    let f := (z % 2 ^ 200).toNat
    if f = 0 then .fin false 1 n false
    else .fin false (expFix 60 256 (f * 2 ^ 56 * ln2Fix / 2 ^ 256)) (n - 256) true

/-- Binary digits of log2 of y in [1, 2), y with p fraction bits, by repeated squaring. -/
def log2Digits : Nat → Nat → Nat → Nat → Nat
  | 0, _, _, acc => acc
  | k + 1, p, y, acc =>
    let y2 := y * y / 2 ^ p
    if y2 ≥ 2 ^ (p + 1) then log2Digits k p (y2 / 2) (2 * acc + 1) else log2Digits k p y2 (2 * acc)

/-- R311: log2 of a positive finite value: +0 for 1. -/
def log2Num (m : Nat) (e : Int) : Num :=
  let top : Int := e + (bitLen m : Int) - 1
  let y := m * 2 ^ (200 - (bitLen m - 1))
  if m = 2 ^ (bitLen m - 1) then (if top = 0 then .fin false 0 0 false else .fin (top < 0) top.natAbs 0 false)
  else
    let fr := log2Digits 72 200 y 0
    if top ≥ 0 then .fin false (top.toNat * 2 ^ 72 + fr) (-72) true
    else .fin true (top.natAbs * 2 ^ 72 - fr - 1) (-72) true

/-- R311: tanh of a finite non-zero magnitude. -/
def tanhMag (m : Nat) (e : Int) : Nat × Int :=
  let top : Int := e + (bitLen m : Int) - 1
  if top ≥ 3 then (2 ^ 40 - 1, -40)
  else if top < -40 then (m * 2 ^ 48 - 1, e - 48)
  else
    let y := if e + 257 ≥ 0 then m * 2 ^ (e + 257).toNat else m / 2 ^ (-(e + 257)).toNat
    let t := expFix 160 256 y
    let q := ((t - 2 ^ 256) * 2 ^ 128) / (t + 2 ^ 256)
    (q, -128)

/-- The five approximated functions of R311. -/
inductive Approx
  | rcp | rsq | exp2 | log2 | tanh
  deriving DecidableEq, Repr

/-- R311: f(x) as an exact value or a special one. -/
def approxExact (fn : Approx) (x : Num) : Num × Flags :=
  match fn, x with
  | _, .nan => (.nan, 0)
  | .rcp, y => divNum (.fin false 1 0 false) y
  | .rsq, y =>
    (match y with
      | .inf false => (.fin false 0 0 false, 0)
      | .inf true => (.nan, Flags.nv)
      | .nan => (.nan, 0)
      | .fin n 0 _ _ => (.inf n, Flags.dz)
      | .fin true _ _ _ => (.nan, Flags.nv)
      | .fin false m e _ =>
        -- 1 ÷ √(m 2^e): an even exponent, then √(2^512 ÷ m) with 256 bits below
        let odd := e % 2 ≠ 0
        let m' := if odd then 2 * m else m
        let e' := if odd then e - 1 else e
        let r := natSqrt (2 ^ 512 / m')
        (.fin false r (-256 - e' / 2) (r * r * m' != 2 ^ 512), 0))
  | .exp2, .inf n => (if n then .fin false 0 0 false else .inf false, 0)
  | .exp2, .fin n m e _ => (exp2Num n m e, 0)
  | .log2, .inf n => if n then (.nan, Flags.nv) else (.inf false, 0)
  | .log2, .fin _ 0 _ _ => (.inf true, Flags.dz)
  | .log2, .fin true _ _ _ => (.nan, Flags.nv)
  | .log2, .fin false m e _ => (log2Num m e, 0)
  | .tanh, .inf n => (.fin n 1 0 false, 0)
  | .tanh, .fin n 0 e _ => (.fin n 0 e false, 0)
  | .tanh, .fin n m e _ => let (q, e') := tanhMag m e; (.fin n q e' true, 0)

/-- R311: approx(f, x) rounded to a type. -/
def approxRound (fn : Approx) (x : Num) (t : ET) (rm : Nat) (sat : Bool) (r : Nat) : Nat × Flags :=
  let (v, f) := approxExact fn x
  match v with
  | .fin n m e st =>
    let (m', e', lost) := trunc14 m e st
    let (b, g) := roundNum (.fin n m' e' false) t rm sat r
    (b, f ||| g ||| Flags.when (lost || g.getLsbD 5) Flags.nx)
  | y => let (b, g) := roundNum y t rm sat r; (b, f ||| g)

/-- R310: the one-hot class of an encoding. -/
def classify (t : ET) (x : Nat) : Nat :=
  let f := fmtOf t
  match decodeFloat t x with
  | .nan => 2 ^ 8
  | .inf n => if n then 2 ^ 0 else 2 ^ 7
  | .fin n m _ _ =>
    if m = 0 then (if n then 2 ^ 3 else 2 ^ 4)
    else if m < 2 ^ f.mb then (if n then 2 ^ 2 else 2 ^ 5)
    else (if n then 2 ^ 1 else 2 ^ 6)

/-- R310: VFMIN or VFMAX on encodings. -/
def minmaxBits (max : Bool) (t : ET) (x y : Nat) : Nat :=
  let a := decodeFloat t x; let b := decodeFloat t y
  if a.isNan then (if b.isNan then (fmtOf t).nan else y)
  else if b.isNan then x
  else if max then (if ltZero a b then y else x)
  else (if ltZero b a then y else x)

/-- R182: treereduce, node by node; `f` gets the node number in the order the nodes are computed. -/
def treePairs {α : Type} (f : Nat → α → α → α × Flags) : Nat → List α → List α × Nat × Flags
  | n, x :: y :: xs =>
    let (z, g) := f n x y
    let (zs, n', g') := treePairs f (n + 1) xs
    (z :: zs, n', g ||| g')
  | n, xs => (xs, n, 0)

/-- R182: the whole reduction; `fuel` bounds the levels. -/
def treeLevels {α : Type} (f : Nat → α → α → α × Flags) : Nat → Nat → List α → List α × Flags
  | 0, _, xs => (xs, 0)
  | k + 1, n, xs =>
    match xs with
    | _ :: _ :: _ =>
      let (ys, n', g) := treePairs f n xs
      let (zs, g') := treeLevels f k n' ys
      (zs, g ||| g')
    | ys => (ys, 0)

/-- R182: treereduce of a non-empty list, with a value for the empty one. -/
def treeReduce {α : Type} (f : Nat → α → α → α × Flags) (dflt : α) (xs : List α) : α × Flags :=
  let (ys, g) := treeLevels f (bitLen xs.length + 1) 0 xs
  (ys.headD dflt, g)

/-- R183: maxsum of two FP32 pairs, as bits. -/
def maxsum (a b : Nat × Nat) : Nat × Nat :=
  let ma := fp32 a.1; let sa := fp32 a.2; let mb := fp32 b.1; let sb := fp32 b.2
  if ma.isNan || mb.isNan || sa.isNan || sb.isNan then (0x7FC00000, 0x7FC00000)
  else
    let mx := if ltZero ma mb then b.1 else a.1
    let mv := fp32 mx
    let factor := fun (m : Num) =>
      if eqNum m mv then Num.fin false 1 0 false
      else match m, mv with
        | .inf _, _ => .fin false 0 0 false
        | _, .inf _ => .fin false 0 0 false
        | _, _ =>
          (match (sumNum 0 [m, mv.negate]).1 with
            | .fin n q e _ => fp32 (rne32 (exp2Num n q e))
            | y => y)
    let term := fun (s f : Num) => if f.isZero then Num.fin false 0 0 false else (mulNum s f).1
    let ta := term sa (factor ma); let tb := term sb (factor mb)
    (mx, rne32 (sumNum 0 [ta, tb]).1)

/-- R139: one half of FSUM2, the exact sum of FP32 values rounded once. -/
def fsumHalf (xs : List Nat) : Nat := rne32 (sumNum 0 (xs.map fp32)).1

/-- R281: the carry-less product of two w-bit values. -/
def clmulNat : Nat → Nat → Nat → Nat
  | 0, _, _ => 0
  | n + 1, a, b => (if b.testBit n then a * 2 ^ n else 0) ^^^ clmulNat n a b

end Sys2Proof.Machine
end

