-- ==== Sys2Proof/Machine/Memory.lean ====
section
/-! DEFINITION. Sparse tables keyed by numbers, and memory: one list of (location, byte) pairs in canonical form over every space of R95 and every scratchpad of R94. -/

namespace Sys2Proof.Machine

/-- The value of a key in a sparse table. -/
def mapGet {α : Type} : List (Nat × α) → Nat → Option α
  | [], _ => none
  | (k, a) :: m, i => if k = i then some a else if k < i then mapGet m i else none

/-- The table with a key set, keys kept rising. -/
def mapSet {α : Type} : List (Nat × α) → Nat → α → List (Nat × α)
  | [], i, v => [(i, v)]
  | (k, a) :: m, i, v => if k < i then (k, a) :: mapSet m i v else if k = i then (i, v) :: m else (i, v) :: (k, a) :: m

/-- The table without a key. -/
def mapDel {α : Type} : List (Nat × α) → Nat → List (Nat × α)
  | [], _ => []
  | (k, a) :: m, i => if k < i then (k, a) :: mapDel m i else if k = i then m else (k, a) :: m

/-- A key in a rising set. -/
def setHas : List Nat → Nat → Bool
  | [], _ => false
  | k :: m, i => if k = i then true else if k < i then setHas m i else false

/-- The rising set with a key. -/
def setAdd : List Nat → Nat → List Nat
  | [], i => [i]
  | k :: m, i => if k < i then k :: setAdd m i else if k = i then k :: m else i :: k :: m

/-- The rising set without a key. -/
def setDel : List Nat → Nat → List Nat
  | [], _ => []
  | k :: m, i => if k < i then k :: setDel m i else if k = i then m else k :: m

/-- The keys rise strictly. -/
def keysRise {α : Type} : List (Nat × α) → Bool
  | [] => true
  | [_] => true
  | (a, _) :: (b, y) :: m => a < b && keysRise ((b, y) :: m)

/-- What a location that is not listed reads as: DRAM is zeroed by the layout change of boot (R20);
    host memory and other modules' memory are 0 too (log 2). -/
def Memory.blank : Byte := 0

/-- The byte at a location. -/
def Memory.read (m : List Host.Cell) (a : Nat) : Byte := (mapGet m a).getD Memory.blank

/-- The memory with a byte stored. -/
def Memory.write (m : List Host.Cell) (a : Nat) (b : Byte) : List Host.Cell :=
  if b = Memory.blank then mapDel m a else mapSet m a b

/-- The canonical form: locations rising, no byte listed that an unlisted location reads as. -/
def Memory.wf (m : List Host.Cell) : Bool := keysRise m && m.all (fun c => c.2 != Memory.blank)

/-- Bytes from a location up, the lowest first. -/
def Memory.readBytes (m : List Host.Cell) (a : Nat) : Nat → List Byte
  | 0 => []
  | n + 1 => Memory.read m a :: Memory.readBytes m (a + 1) n

/-- Bytes stored from a location up. -/
def Memory.writeBytes (m : List Host.Cell) (a : Nat) : List Byte → List Host.Cell
  | [] => m
  | b :: bs => Memory.writeBytes (Memory.write m a b) (a + 1) bs

/-- The little-endian number of bytes (R7). -/
def natOfBytes : List Byte → Nat
  | [] => 0
  | b :: bs => b.toNat + 256 * natOfBytes bs

/-- The n little-endian bytes of a number (R7). -/
def bytesOfNat : Nat → Nat → List Byte
  | 0, _ => []
  | n + 1, x => BitVec.ofNat 8 x :: bytesOfNat n (x / 256)

/-- Clears every byte at a location from lo up to below hi (R20). -/
def Memory.clear (m : List Host.Cell) (lo hi : Nat) : List Host.Cell := m.filter (fun c => c.1 < lo || hi ≤ c.1)

/-- The location a place has in the memory list: local and domain device memory by their physical
    addresses of R95, host memory in space 2, scratchpads above the 52-bit space. This module's
    device memory has its space 0 address, whichever way it is named (R95). -/
def Place.loc (own : Nat) : Place → Nat
  | .device m a => if m = own then a else 2 ^ 50 + m * 2 ^ 40 + a
  | .host a => 2 ^ 51 + a
  | .scratch m c o => 2 ^ 52 + m * 2 ^ 32 + c * 2 ^ 21 + o
  | .slice m c o => 2 ^ 52 + m * 2 ^ 32 + c * 2 ^ 21 + o

/-- The same place some bytes further. -/
def Place.add : Place → Nat → Place
  | .device m a, n => .device m (a + n)
  | .host a, n => .host (a + n)
  | .scratch m c o, n => .scratch m c (o + n)
  | .slice m c o, n => .slice m c (o + n)

/-- The line a location lies in (R4). -/
def lineOf (loc : Nat) : Nat := loc / 128

/-- Whether an index lies in one of the spans. -/
def inSpans (l : List Span) (i : Nat) : Bool := l.any (fun s => s.first ≤ i && i < s.first + s.count)

/-- The indices of a list of spans, in order. -/
def spanIndices (l : List Span) : List Nat := l.flatMap (fun s => (List.range s.count).map (s.first + ·))

end Sys2Proof.Machine
end

