-- ==== Sys2Proof/Machine/Sillage.lean ====
section
/-! DEFINITION. Strands by slot, free values, the layout map, and the sillage: posting events to the host's ring (R15, R47 to R50). -/

namespace Sys2Proof.Machine

open Sys2Proof

/-- The strand in a slot; an empty one where nothing is resident. -/
def lookupSlot : List (SlotRef × Strand) → SlotRef → Strand
  | [], _ => .reset
  | (u, t) :: l, r => if u = r then t else lookupSlot l r

/-- The slots with one replaced; an empty strand is not listed. -/
def replaceSlot (l : List (SlotRef × Strand)) (r : SlotRef) (t : Strand) : List (SlotRef × Strand) :=
  let rest := l.filter (fun p => p.1 != r)
  if t.st = .empty then rest else (r, t) :: rest

/-- The strand in a slot, the executing one included. -/
def State.strand (s : State) (u : SlotRef) : Strand := if u = s.curRef then s.cur else lookupSlot s.others u

/-- The state with a slot's strand replaced. -/
def State.setStrand (s : State) (u : SlotRef) (t : Strand) : State :=
  if u = s.curRef then { s with cur := t } else { s with others := replaceSlot s.others u t }

/-- Every slot with its strand, the executing one first. -/
def State.allStrands (s : State) : List (SlotRef × Strand) := (s.curRef, s.cur) :: s.others

/-- GTIME as a number (R2). -/
def State.now (s : State) : Nat := s.gtime.toNat

/-- The next free value for one place the spec leaves open (log 3). -/
def State.freeNat (s : State) (place : Nat) : Nat := Config.freeNat place s.free

/-- The state after a free value was taken. -/
def State.tick (s : State) : State := { s with free := s.free + 1 }

/-- A dated event added to the agenda, after those of the same date. -/
def insertDated : List (Nat × Instr) → Nat → Instr → List (Nat × Instr)
  | [], d, i => [(d, i)]
  | (e, j) :: l, d, i => if e ≤ d then (e, j) :: insertDated l d i else (d, i) :: (e, j) :: l

/-- The agenda with an event due some cycles from now (log 5). -/
def State.post (s : State) (delay : Nat) (i : Instr) : State := { s with agenda := insertDated s.agenda (s.now + delay) i }

/-- This module's id (R23). -/
def State.modId (s : State) : Nat := natBits s.pkg.domain.toNat 11 8

/-- Modules in the domain (R23). -/
def State.domSize (s : State) : Nat := natBits s.pkg.domain.toNat 4 0

/-- DRAM_CEIL as a number (R16). -/
def State.ceil (s : State) : Nat := s.pkg.dramCeil.toNat

/-- The active channels in ascending order (R15). -/
def State.activeChannels (s : State) : List Nat := (List.range 512).filter (fun c => s.pkg.chActive.getLsbD c)

/-- Number of active channels; 512 is read without counting. -/
def State.activeCount (s : State) : Nat :=
  if s.pkg.chActive = BitVec.allOnes 512 then 512 else s.activeChannels.length

/-- The channel of a slot of the layout (R15). -/
def State.channelOfSlot (s : State) (slot : Nat) : Nat :=
  if s.pkg.chActive = BitVec.allOnes 512 then slot else s.activeChannels.getD slot 0

/-- The slot of an active channel (R15). -/
def State.slotOfChannel (s : State) (c : Nat) : Nat :=
  if s.pkg.chActive = BitVec.allOnes 512 then c else (s.activeChannels.filter (· < c)).length

/-- Where a device physical address lies: channel, bank, row, offset (R15). -/
def State.bankOf (s : State) (pa : Nat) : Nat × Nat × Nat × Nat :=
  let n := s.activeCount
  let p := pa / 1024
  let q := p / n
  (s.channelOfSlot (p % n), q % 16, q / 16, pa % 1024)

/-- The device physical address of a bank's row (R15). -/
def State.rowAddr (s : State) (chan bank row : Nat) : Nat :=
  ((row * 16 + bank) * s.activeCount + s.slotOfChannel chan) * 1024

/-- Bytes of an event's entry after its DSEQ (R47). -/
def Event.tailBytes (e : Event) : List Byte :=
  bytesOfNat 8 e.time.toNat ++ bytesOfNat 2 e.code ++ bytesOfNat 2 e.src ++ bytesOfNat 4 e.aux ++ bytesOfNat 8 e.data.toNat

/-- R47: an event written to its entry of the ring: the bytes after DSEQ, then DSEQ. -/
def writeEvent (s : State) (e : Event) : State :=
  let size := 2 ^ s.host.silSize.toNat
  let at0 := 2 ^ 51 + s.host.silBase.toNat + 32 * (e.dseq.toNat % size)
  let m := Memory.writeBytes s.mem (at0 + 8) e.tailBytes
  { s with mem := Memory.writeBytes m at0 (bytesOfNat 8 e.dseq.toNat), host := { s.host with dseqPosted := e.dseq } }

/-- R49: the ring has room for a DSEQ once the window has opened. -/
def ringHasRoom (s : State) (dseq : Word) : Bool :=
  s.host.opened && dseq.toNat ≤ s.host.hostAck.toNat + 2 ^ s.host.silSize.toNat

/-- R50: vector 0 raised. -/
def raiseNow (s : State) : State := { s with host := { s.host with msixAt := some s.now, msixCount := s.host.msixCount + 1 } }

/-- R50: a raising that waits for its interval is on the agenda. -/
def raiseWaits (s : State) : Bool := s.agenda.any (fun e => match e.2 with | .msixModerationExpiry => true | _ => false)

/-- R50: vector 0 is raised when DSEQ_POSTED has passed HOST_ACK_DSEQ and the interval has passed. -/
def raiseMsix (s : State) : State :=
  let h := s.host
  let wait := match h.msixAt with
    | none => 0
    | some t => t + 1000 * (h.silMod.toNat % 65536)
  if h.dseqPosted.toNat ≤ h.hostAck.toNat then s
  else if s.now < wait then (if raiseWaits s then s else s.post (wait - s.now) .msixModerationExpiry)
  else raiseNow s

/-- R49: the backlog written to the ring as far as it has room; `fuel` bounds its length. -/
def drainBacklog : Nat → State → State
  | 0, s => s
  | n + 1, s =>
    match s.host.backlog with
    | [] => s
    | e :: es =>
      if ringHasRoom s e.dseq then drainBacklog n (writeEvent { s with host := { s.host with backlog := es } } e)
      else s

/-- R47, R49: an event takes the next DSEQ and is written, kept in the backlog, or discarded. -/
def appendEvent (s : State) (code src aux : Nat) (data : Word) : State :=
  let h := s.host
  let e : Event := { dseq := h.nextDseq, time := s.gtime, code, src, aux, data }
  let s := { s with host := { h with nextDseq := h.nextDseq + 1 } }
  if h.backlog.isEmpty && ringHasRoom s e.dseq then writeEvent s e
  else if h.backlog.length < 4096 then { s with host := { s.host with backlog := h.backlog ++ [e] } }
  else
    let run := match h.lostRun with
      | none => some (e.dseq, 1)
      | some (d, n) => some (d, n + 1)
    { s with host := { s.host with silLost := h.silLost + 1, lostRun := run } }

/-- R49: SILLAGE_LOST is posted for a discarded run once the backlog has space, before any later event. -/
def postLost (s : State) : State :=
  match s.host.lostRun with
  | none => s
  | some (d, n) =>
    if s.host.backlog.length < 4096 then appendEvent { s with host := { s.host with lostRun := none } } 14 0 n d
    else s

/-- R50: the host is told of what has been written to the ring since a state. -/
def tellHost (old s : State) : State := if s.host.dseqPosted = old.host.dseqPosted then s else raiseMsix s

/-- R47 to R50: Rinef or the scheduler posts an event. -/
def postEvent (s : State) (code src aux : Nat) (data : Word) : State :=
  tellHost s (appendEvent (postLost s) code src aux data)

/-- R49: the backlog goes to the ring as far as there is room. -/
def releaseBacklog (s : State) : State := tellHost s (postLost (drainBacklog 4096 s))

/-- The first line past this module's own: other modules' lines lie above (`Place.loc`). -/
def ownLines : Nat := 2 ^ 43

/-- R18: detection of an uncorrectable error in a line: the line is poisoned. For a line of this module its channel is fenced and
    pending, and MEM_UE posted; another module does the same in its own registers and sillage. -/
def detectUe (s : State) (line : Nat) : State :=
  if setHas s.latent line && line ≥ ownLines then
    { s with latent := setDel s.latent line, poison := setAdd s.poison line, correctable := setDel s.correctable line }
  else if setHas s.latent line then
    let pa := line * 128
    let c := (s.bankOf pa).1
    let b : BitVec 512 := BitVec.twoPow 512 c
    let s := { s with latent := setDel s.latent line, poison := setAdd s.poison line, correctable := setDel s.correctable line,
                      pkg := { s.pkg with chFenced := s.pkg.chFenced ||| b, recPending := s.pkg.recPending ||| b } }
    postEvent s 8 c 0 (BitVec.ofNat 64 pa)
  else s

/-- R17, R18: DRAM reads a line: an error its code corrects is counted for the channel, one it cannot correct is detected. The
    symbol stays wrong until the line is written (log 34). -/
def eccRead (s : State) (line : Nat) : State :=
  let s := detectUe s line
  if setHas s.correctable line && !setHas s.poison line && line < ownLines then
    let c := (s.bankOf (line * 128)).1
    { s with corrected := mapSet s.corrected c ((mapGet s.corrected c).getD 0 + 1) }
  else s

/-- R17, R18: a line whose whole code is written new. -/
def eccWrite (s : State) (line : Nat) : State :=
  { s with poison := setDel s.poison line, latent := setDel s.latent line, correctable := setDel s.correctable line }

/-- R26: steps along a ring of `n` from `x` to `y` by the shorter way, + at distance two: the next
    position and whether the step is in the + direction. -/
def ringStep (n x y : Nat) : Nat × Bool :=
  let fwd := (y + n - x) % n
  if 2 * fwd ≤ n then ((x + 1) % n, true) else ((x + n - 1) % n, false)

/-- R25: width of the x ring of a domain. -/
def ringWidth (size : Nat) : Nat := if size = 4 then 2 else 4

/-- R25, R26: the port a message about a line leaves a module by, toward another, and the next module. Where two or four ports
    lead there, R26 names the bits that choose (7, or 8:7 in the pair) and not which port each value picks: the model takes the bits as
    the port's number among them, 0 the lowest (DESIGN CHOICE, log 54). -/
def nextHop (size src dst line : Nat) : Nat × Nat :=
  if size = 2 then (line % 4, dst)
  else
    let w := ringWidth size
    let hgt := size / w
    let sx := src % w; let dx := dst % w
    if sx ≠ dx then
      let (x, plus) := ringStep w sx dx
      (if w = 2 then line % 2 else if plus then 0 else 1, src / w * w + x)
    else
      let (y, plus) := ringStep hgt (src / w) (dst / w)
      (if hgt = 2 then 2 + line % 2 else if plus then 2 else 3, y * w + sx)

/-- R25: the port of the peer that a port is cabled to. -/
def peerPort (p : Nat) : Nat := if p % 2 = 0 then p + 1 else p - 1

/-- R28: a port is down. -/
def portDown (s : State) (mod port : Nat) : Bool :=
  s.pkg.down.contains (mod, port) || (mod == s.modId && !s.pkg.domain.getLsbD (16 + port))

/-- R28: the route from one module to another about a line crosses a down port. -/
def routeDownFrom (s : State) : Nat → Nat → Nat → Nat → Bool
  | 0, _, _, _ => false
  | k + 1, src, dst, line =>
    if src = dst then false
    else
      let (p, nxt) := nextHop s.domSize src dst line
      portDown s src p || portDown s nxt (peerPort p) || routeDownFrom s k nxt dst line

/-- R28: the route of a request to another module about a line crosses a down port. -/
def routeDown (s : State) (mod line : Nat) : Bool := mod != s.modId && routeDownFrom s 8 s.modId mod line

end Sys2Proof.Machine
end

