-- ==== Sys2Proof/Machine/Slice.lean ====
section
/-! DEFINITION. A home slice: the tags and objects of lines, the object cache, the L2 and DRAM (R18, R95, R110 to R115, R129). -/

namespace Sys2Proof.Machine

open Sys2Proof

/-! ### Runs of bytes -/

/-- A run of bytes as pieces that cross no line: offset and length. -/
def linePieces (loc : Nat) : Nat → Nat → Nat → List (Nat × Nat)
  | 0, _, _ => []
  | k + 1, off, n =>
    if n = 0 then []
    else
      let here := min n (128 - (loc + off) % 128)
      (off, here) :: linePieces loc k (off + here) (n - here)

/-- The pieces of n bytes from a location. -/
def piecesOf (loc n : Nat) : List (Nat × Nat) := linePieces loc (n / 128 + 2) 0 n

/-! ### Other modules (R16, R93, R106, R113) -/

/-- R95: the module a location of device memory lies in, and its device physical address there. -/
def State.deviceOf (s : State) (loc : Nat) : Nat × Nat :=
  if loc < 2 ^ 50 then (s.modId, loc) else ((loc - 2 ^ 50) / 2 ^ 40, loc % 2 ^ 40)

/-- What another module answers by; one that has told nothing has the full layout, no reservation and no object (log 55). -/
def State.peer (s : State) (m : Nat) : Peer := (mapGet s.peers m).getD { ceil := Config.channels * Config.channelBytes, reservations := [], objs := [] }

/-- R16: the capacity of a module. -/
def State.ceilOf (s : State) (m : Nat) : Nat := if m = s.modId then s.ceil else (s.peer m).ceil

/-- R106: bytes of another module's scratchpad that no reservation of the context covers. -/
def farBarred (s : State) (ctx : Nat) (p : Place) (n : Nat) : Bool :=
  match p with
  | .scratch m c o => m != s.modId && !(s.peer m).reservations.any (fun r =>
      r.core == c && r.ctx == ctx && r.base ≤ o && o + n ≤ r.base + r.size)
  | _ => false

/-! ### Tags and objects (R113 to R115) -/

/-- R113: the object that tags a line of device memory, this module's or another's, with its index in that module's table. -/
def State.objOfLine (s : State) (line : Nat) : Option (Nat × Obj) :=
  if line < ownLines then s.objs.find? (fun p => inSpans p.2.lines line)
  else
    let (m, pa) := s.deviceOf (line * 128)
    (s.peer m).objs.find? (fun p => inSpans p.2.lines (pa / 128))

/-- R115: the object whose accord cell a location of device memory lies in. -/
def State.accordCell (s : State) (loc : Nat) : Option Obj :=
  match s.objOfLine (loc / 128) with
  | some (_, o) => if o.mode = .accord ∧ inSpans o.bytes (s.deviceOf loc).2 then some o else none
  | none => none

/-- The location and object of a place that is an accord cell. -/
def State.accordAt (s : State) (p : Place) : Option (Nat × Obj) :=
  match p with
  | .device _ _ => (s.accordCell (p.loc s.modId)).map (fun o => (p.loc s.modId, o))
  | _ => none

/-- R123: where the owner of a STASHED line holds it, when it is filled there. -/
def stashedAt (s : State) (obj : Nat) (o : Obj) (line : Nat) : Option (Nat × Nat) :=
  match o.mode with
  | .stashed core slot =>
    (match (s.strand { core, slot }).stash.find? (fun m => m.obj == obj) with
      | some m =>
        let i := m.lines.idxOf line
        if setHas m.filled i then some (core, m.off + 128 * i) else none
      | none => none)
  | _ => none

/-- R123, R145: where an access to a place lands: a line of a STASHED object that is filled in its owner's scratchpad is answered there. -/
def landing (s : State) (p : Place) : Place :=
  match p with
  | .device m a =>
    if m ≠ s.modId then p
    else
      match s.objOfLine (a / 128) with
      | some (i, o) => (match stashedAt s i o (a / 128) with
        | some (core, off) => .scratch m core (off + a % 128)
        | none => p)
      | none => p
  | _ => p

/-- R114: the 64 bytes of a descriptor as its slice writes them back, and its place in the table (log 20). -/
def descriptorBytes (s : State) (i : Nat) (o : Obj) (slice : Nat) : List Byte :=
  (List.range 64).map (Config.descriptorByte o ((mapGet s.expiry (i * 128 + slice)).getD 0))

/-- Bytes of a line replaced in what DRAM holds of it, where that differs from the L2's bytes. -/
def patchStale (l : List (Nat × List Byte)) (pa : Nat) (bs : List Byte) : List (Nat × List Byte) :=
  match mapGet l (pa / 128) with
  | some d => mapSet l (pa / 128) (d.take (pa % 128) ++ bs ++ d.drop (pa % 128 + bs.length))
  | none => l

/-- Bytes written in the L2 and in DRAM alike. -/
def writeBoth (s : State) (pa : Nat) (bs : List Byte) : State :=
  { s with mem := Memory.writeBytes s.mem pa bs, stale := patchStale s.stale pa bs }

/-- R18: the half of a write that reads the line, for one that does not cover it; a full write stores a new code. -/
def writeEcc (s : State) (pa : Nat) (bs : List Byte) (inL2 : Bool) : State :=
  if pa % 128 = 0 ∧ bs.length = 128 then eccWrite s (pa / 128) else if inL2 then s else eccRead s (pa / 128)

/-- R114: the slice of a line looks its object up: the descriptor becomes the slice's most recently used, and the least recently used
    of 513 is written back to the table, half a line whose other half is read (R18). -/
def objTouch (s : State) (line : Nat) : State :=
  if line ≥ ownLines then s
  else match s.objOfLine line with
    | none => s
    | some (i, _) =>
      let k := line % 128
      let l := (k, i) :: s.objCache.filter (fun p => p.1 != k || p.2 != i)
      let mine := l.filter (fun p => p.1 == k)
      match mine[512]? with
      | none => { s with objCache := l }
      | some v =>
        let s := { s with objCache := l.filter (· != v) }
        let at0 := s.sched.objtab.toNat + 64 * v.2
        match mapGet s.objs v.2 with
        | some o => if at0 + 64 ≤ s.ceil then
            let bs := descriptorBytes s v.2 o k
            writeBoth (writeEcc s at0 bs (s.l2.contains (at0 / 128))) at0 bs
          else s
        | none => s

/-! ### The L2 and DRAM (R18, R111) -/

/-- The bytes DRAM holds of a line of local device memory. -/
def State.dramLine (s : State) (line : Nat) : List Byte :=
  match mapGet s.stale line with
  | some d => d
  | none => Memory.readBytes s.mem (line * 128) 128

/-- R111: dirty bytes of a line written to DRAM. -/
def cleanLine (s : State) (line : Nat) : State :=
  if setHas s.dirty line then { s with stale := mapDel s.stale line, dirty := setDel s.dirty line } else s

/-- R111, R164: a line leaves the L2 with no write to DRAM, whose bytes are then what a read finds. -/
def dropLine (s : State) (line : Nat) : State :=
  let s := match mapGet s.stale line with
    | some d => { s with mem := Memory.writeBytes s.mem (line * 128) d, stale := mapDel s.stale line }
    | none => s
  { s with l2 := s.l2.filter (· != line), dirty := setDel s.dirty line }

/-- R111: the L2 with a line touched; the least recently used of a full set leaves, written to DRAM if dirty. -/
def l2Touch (s : State) (line : Nat) : State :=
  let l := line :: s.l2.filter (· != line)
  let mine := l.filter (fun x => x % 128 == line % 128)
  if mine.length ≤ 16 then { s with l2 := l }
  else
    let inSet := mine.filter (fun x => Config.l2Set x % 8192 == Config.l2Set line % 8192)
    match inSet[16]? with
    | none => { s with l2 := l }
    | some v => dropLine (cleanLine { s with l2 := l } v) v

/-- R111, R18: the home reads a line of local device memory. -/
def homeTouch (s : State) (line : Nat) (use : L2Use) : State :=
  let s := objTouch s line
  if use = .bypass then eccRead s line
  else if s.l2.contains line then l2Touch s line
  else
    let s := eccRead s line
    if use = .cached then l2Touch s line else s

/-- R38: the line leaves the snoop filter. -/
def dropSnoop (s : State) (line : Nat) : State :=
  { s with snoop := s.snoop.filter (· != line), snoopInv := setDel s.snoopInv line }

/-- Bytes written in the L2's copy of a line, which becomes dirty. -/
def l2Put (s : State) (pa : Nat) (bs : List Byte) : State :=
  let line := pa / 128
  let stale := if (mapGet s.stale line).isSome then s.stale else mapSet s.stale line (Memory.readBytes s.mem (line * 128) 128)
  let s := l2Touch { s with stale, dirty := setAdd s.dirty line } line
  { s with mem := Memory.writeBytes s.mem pa bs }

/-- R111, R145: bytes written in DRAM alone: a copy in the L2 keeps its own. -/
def dramPut (s : State) (pa : Nat) (bs : List Byte) : State :=
  let line := pa / 128
  if s.l2.contains line then
    let stale := if (mapGet s.stale line).isSome then s.stale else mapSet s.stale line (Memory.readBytes s.mem (line * 128) 128)
    { s with stale := patchStale stale pa bs }
  else { s with mem := Memory.writeBytes s.mem pa bs }

/-- R38: BISnpInv sent for lines; their writes wait for BIRSP. -/
def askHost (s : State) (ls : List Nat) : State := { s with snoopInv := ls.foldl setAdd s.snoopInv }

/-- R111, R145, R295: bytes of one line, which the host does not hold, written at the home. -/
def putNow (s : State) (pa : Nat) (bs : List Byte) (use : L2Use) : State :=
  let line := pa / 128
  let s := objTouch s line
  let inL2 := s.l2.contains line && use != .bypass
  let s := writeEcc s pa bs inL2
  match use with
  | .bypass => dramPut s pa bs
  | .cached => l2Put s pa bs
  | .noAlloc => if inL2 then l2Put s pa bs else { s with mem := Memory.writeBytes s.mem pa bs }
  | .through =>
    if inL2 then cleanLine (l2Put s pa bs) line else { s with mem := Memory.writeBytes s.mem pa bs }

/-- R38, R111, R145: bytes of one line written at the home. A write that found the host holding its line and nothing to hold it back
    before it came waits at the home until the host has answered. -/
def homePut (s : State) (pa : Nat) (bs : List Byte) (use : L2Use) : State :=
  if s.snoop.contains (pa / 128) then { askHost s [pa / 128] with homeWrites := s.homeWrites ++ [{ pa, bytes := bs, use }] } else putNow s pa bs use

/-- R129: an accord cell's primary value at its home: the DRAM copy changes in the same step. -/
def cellPut (s : State) (loc : Nat) (bs : List Byte) : State :=
  if loc ≥ 2 ^ 50 then { s with mem := Memory.writeBytes s.mem loc bs }
  else
    let s := homeTouch s (loc / 128) .cached
    writeBoth s loc bs

/-! ### Lines the host holds (R38) -/

/-- The lines of this module's device memory that bytes at a place touch. -/
def Place.lines (own : Nat) (p : Place) (n : Nat) : List Nat :=
  match p with
  | .device m a => if m = own then (List.range ((a + n - 1) / 128 + 1 - a / 128)).map (a / 128 + ·) else []
  | _ => []

/-- R38: the lines among those a device agent is about to write that the filter marks as held by the host. -/
def heldLines (s : State) (ls : List Nat) : List Nat := ls.filter (fun l => s.snoop.contains l)

/-- R38: a write at a place waits for the host: the state with BISnpInv sent, or none when the host holds no line of it. -/
def hostWait (s : State) (p : Place) (n : Nat) : Option State :=
  match heldLines s (p.lines s.modId n) with
  | [] => none
  | ls => some (askHost s ls)

/-- R38: a step that writes bytes of this module's memory which the host holds asks for them and comes again. -/
def unlessHeld (s : State) (pa n : Nat) (i : Instr) (f : State → State) : State :=
  match hostWait s (.device s.modId pa) n with
  | some s => s.post 64 i
  | none => f s

end Sys2Proof.Machine
end

