-- ==== Sys2Proof/Machine/Translate.lean ====
section
/-! DEFINITION. Contexts, page tables, TLBs, non-coherent windows, and the checks of one element of an access (R93 to R101, R105, R106, R120). -/

namespace Sys2Proof

/-- A slot belongs to a conductor (R192). -/
def SlotRef.isConductor (u : SlotRef) : Bool := 128 ≤ u.core

/-- The cluster of a slot (R3). -/
def SlotRef.cluster (u : SlotRef) : Nat := if u.isConductor then u.core - 128 else u.core / 8

end Sys2Proof

namespace Sys2Proof.Machine

open Sys2Proof

/-- Trap cause codes (R211). -/
def Cause.illegal : Nat := 1
/-- R198. -/
def Cause.stallUnder : Nat := 2
/-- R93. -/
def Cause.misalign : Nat := 3
/-- R99. -/
def Cause.fetchFault : Nat := 4
/-- R99, R18, R28. -/
def Cause.loadFault : Nat := 5
/-- R99, R28, R220. -/
def Cause.storeFault : Nat := 6
/-- R93. -/
def Cause.access : Nat := 7
/-- R229. -/
def Cause.cbInvalid : Nat := 8
/-- R140. -/
def Cause.accordFull : Nat := 9
/-- R140. -/
def Cause.accordPool : Nat := 10
/-- R140. -/
def Cause.accordSiblings : Nat := 11
/-- R140. -/
def Cause.accordFrozen : Nat := 12
/-- R189. -/
def Cause.streamCrc : Nat := 13
/-- R189, R340. -/
def Cause.streamFmt : Nat := 14
/-- R373. -/
def Cause.bankStatus : Nat := 15
/-- R81. -/
def Cause.watchdog : Nat := 16
/-- R78. -/
def Cause.cancel : Nat := 17
/-- R385. -/
def Cause.trap : Nat := 18
/-- R327. -/
def Cause.feDeadline : Nat := 19

/-- Who makes an access: its slot, cluster, context and privilege. -/
structure Agent where
  who : SlotRef
  ctx : Nat
  sup : Bool
  deriving DecidableEq, Repr

/-- The strand in a slot as an agent. -/
def State.agentOf (s : State) (u : SlotRef) : Agent :=
  let t := s.strand u
  { who := u, ctx := t.ctx, sup := t.status.getLsbD 0 }

/-- The executing strand as an agent. -/
def State.me (s : State) : Agent := { who := s.curRef, ctx := s.cur.ctx, sup := s.cur.status.getLsbD 0 }

/-- R95, R123: n bytes of this module's device memory as the homes answer them: those of a STASHED line that is filled from its owner's
    scratchpad. -/
def localBytes (s : State) (pa n : Nat) : List Byte :=
  (piecesOf pa n).flatMap (fun x => Memory.readBytes s.mem ((landing s (.device s.modId (pa + x.1))).loc s.modId) x.2)

/-- A little-endian number of n bytes of device memory, as the homes answer them. -/
def readLocal (s : State) (pa n : Nat) : Nat := natOfBytes (localBytes s pa n)

/-- R18, R100: the lines of a run of local device memory read at their homes, as a walker or a fetch of a descriptor reads them. The
    bytes of an uncorrectable line are used as they stand: R18 names no outcome for these readers (DESIGN CHOICE, log 56). -/
def touchRun (s : State) (pa n : Nat) : State :=
  ((List.range ((pa + n - 1) / 128 + 1 - pa / 128)).map (pa / 128 + ·)).foldl (fun s l => homeTouch s l .cached) s

/-- Address of a context's descriptor (R96). -/
def descAddr (s : State) (ctx : Nat) : Nat := s.sched.ctxtab.toNat + ctx * 256

/-- R96: the ROOT of a context whose descriptor is in rule and, with its level-1 table, below the
    ceiling; none makes every translated access take ACCESS. -/
def contextRoot (s : State) (ctx : Nat) : Option Nat :=
  let d := descAddr s ctx
  if d + 256 > s.ceil then none
  else
    let root := readLocal s d 8
    let flags := readLocal s (d + 8) 8
    if flags ≠ 1 || (localBytes s (d + 16) 112).any (· != 0) || root % 8192 ≠ 0 || root + 8192 > s.ceil then none
    else some root

/-- A leaf found by a walk: page size in bits, page base, and the permission bits [7:0]. -/
structure Leaf where
  bits : Nat
  base : Nat
  perms : BitVec 8
  deriving DecidableEq, Repr

/-- R97: offset bits below the index of a level. -/
def levelShift (level : Nat) : Nat := 56 - 10 * level

/-- R95, R98: a physical address a leaf may name. -/
def leafSpaceOk (pa : Nat) : Bool :=
  match pa / 2 ^ 50 with
  | 0 => natBits pa 49 39 == 0
  | 1 => natBits pa 49 44 == 0 && natBits pa 39 39 == 0
  | _ => true

/-- R98: an entry is malformed at its level. -/
def malformed (pte level : Nat) : Bool :=
  let addr := natBits pte 51 13 * 8192
  let leaf := natBit pte 4
  natBits pte 63 52 ≠ 0 || natBits pte 12 8 ≠ 0
  || (if leaf then level == 1 || addr % 2 ^ levelShift level ≠ 0 || !leafSpaceOk addr
      else level == 4 || natBits pte 7 5 ≠ 0 || natBits pte 3 1 ≠ 0 || addr / 2 ^ 39 ≠ 0)

/-- R99: a walk from a table at a level down; the fuel is the levels left. Each entry is read at its home. -/
def walkLevels (s : State) (va : Nat) (missing : Nat) : Nat → Nat → Nat → State × Except Nat Leaf
  | 0, _, _ => (s, .error Cause.access)
  | k + 1, level, table =>
    if table + 8192 > s.ceil then (s, .error Cause.access)
    else
      let at0 := table + 8 * (va / 2 ^ levelShift level % 1024)
      let pte := readLocal s at0 8
      let s := touchRun s at0 8
      if !natBit pte 0 then (s, .error missing)
      else if malformed pte level then (s, .error Cause.access)
      else if natBit pte 4 then
        (s, .ok { bits := levelShift level, base := natBits pte 51 13 * 8192, perms := BitVec.ofNat 8 pte })
      else walkLevels s va missing k (level + 1) (natBits pte 51 13 * 8192)

/-- R99: the cause of an entry with V = 0. -/
def missingCause : AccessKind → Nat
  | .fetch => Cause.fetchFault
  | .load => Cause.loadFault
  | .store => Cause.storeFault
  | .amo => Cause.storeFault

/-- R99: the leaf's permissions cover the access. -/
def permitted (p : BitVec 8) (kind : AccessKind) (sup : Bool) : Bool :=
  (!p.getLsbD 6 || sup) &&
  (match kind with
    | .fetch => p.getLsbD 3
    | .load => p.getLsbD 1
    | .store => p.getLsbD 2
    | .amo => p.getLsbD 1 && p.getLsbD 2)

/-- R101: an entry of a cluster TLB covers an address. -/
def TlbEntry.covers (e : TlbEntry) (cluster ctx va : Nat) : Bool :=
  e.cluster == cluster && e.ctx == ctx && va / 2 ^ e.bits == e.vbase

/-- R101: the set of an entry among the 256 of a cluster's 4,096 entries in 16 ways. -/
def TlbEntry.set (e : TlbEntry) : Nat := Config.tlbSet e.ctx e.vbase e.bits % 256

/-- R101: the TLB, the most recently used entry first, with an entry filled. A pinned entry stays while its cluster holds no more than
    1,024 such; of the others of a full set the least recently used leaves. A set full of entries that stay takes no new one (log 12). -/
def tlbFill (tlb : List TlbEntry) (e : TlbEntry) : List TlbEntry :=
  let pins := (tlb.filter (fun x => x.cluster == e.cluster && x.held)).length
  let e := { e with held := e.perms.getLsbD 5 && pins < 1024 }
  let mine := tlb.filter (fun x => x.cluster == e.cluster && x.set == e.set)
  if mine.length < 16 then e :: tlb
  else
    match (mine.filter (fun x => !x.held)).getLast? with
    | none => tlb
    | some v => e :: tlb.erase v

/-- R101: the micro-TLBs with an entry used by a core: the least recently used of its 65 leaves (log 12). -/
def microFill (l : List MicroEntry) (core : Nat) (e : TlbEntry) : List MicroEntry :=
  let x : MicroEntry := { core, entry := { e with held := false } }
  let rest := l.filter (· != x)
  match (rest.filter (fun y => y.core == core))[63]? with
  | some v => x :: rest.erase v
  | none => x :: rest

/-- R101: a core's own copy of an entry, which a conductor and the scheduler do not have. -/
def useMicro (s : State) (u : SlotRef) (e : TlbEntry) : State :=
  if u.isConductor then s else { s with micro := microFill s.micro u.core e }

/-- R99, R100: an address through a context's tables: an entry of the core's micro-TLB or the cluster's TLB while it is held, else a
    walk at the home that fills both. An entry already filled serves without a look at the context's descriptor: R100 keeps it in use
    until TLBINV whatever the tables hold, and R96's checks of the descriptor belong to the walk (DEDUCED, log 12). The entry that a core
    used last stays where it is. -/
def translate (s : State) (a : Agent) (kind : AccessKind) (va : Nat) : State × Except Nat (Nat × BitVec 8) :=
  let cl := a.who.cluster
  let own := if a.who.isConductor then none else
    s.micro.find? (fun x => x.core == a.who.core && x.entry.covers cl a.ctx va)
  let found := match own with
    | some x => some x.entry
    | none => s.tlb.find? (fun e => e.covers cl a.ctx va)
  match found with
  | some e =>
    let answer := if permitted e.perms kind a.sup then .ok (e.pbase + va % 2 ^ e.bits, e.perms) else .error Cause.access
    if own.isSome && s.micro.head? == own then (s, answer)
    else (useMicro (if own.isSome then s else { s with tlb := e :: s.tlb.erase e }) a.who e, answer)
  | none =>
    let root := contextRoot s a.ctx
    let d := descAddr s a.ctx
    let s := if d + 256 > s.ceil then s else touchRun s d 256
    match root with
    | none => (s, .error Cause.access)
    | some root =>
      match walkLevels s va (missingCause kind) 4 1 root with
      | (s, .error c) => (s, .error c)
      | (s, .ok l) =>
        if permitted l.perms kind a.sup then
          let e : TlbEntry := { cluster := cl, ctx := a.ctx, vbase := va / 2 ^ l.bits, bits := l.bits, pbase := l.base, perms := l.perms, held := false }
          (useMicro { s with tlb := tlbFill s.tlb e } a.who e, .ok (l.base + va % 2 ^ l.bits, l.perms))
        else (s, .error Cause.access)

/-- R8, R120: the bits of a window register that are not reserved. -/
def ncwBits : Word := 0x00FFFFFFFFFF007F

/-- R120: a window register matches an address; one with SIZE or BASE out of rule matches nothing, and reserved bits play no part (R8). -/
def ncwMatches (w va : Nat) : Bool :=
  let size := natBits w 6 1
  natBit w 0 && 16 ≤ size && size ≤ 46
    && natBits w 55 16 * 65536 % 2 ^ size == 0 && va / 2 ^ size == natBits w 55 16 * 65536 / 2 ^ size

/-- R120, R121: some window of the context, one whose V bit is set in its low byte, contains the address. The registers are cached beside
    the TLB: their lines are read with the rest of the descriptor by a walk (`translate`) and by CSRRD. -/
def inWindow (s : State) (ctx va : Nat) : Bool :=
  let d := descAddr s ctx + 128
  (List.range 16).any (fun i => natBit (readLocal s (d + 8 * i) 1) 0 && ncwMatches (readLocal s (d + 8 * i) 8) va)

/-- What an element access reaches once its checks have passed: the place, whether its page is
    non-coherent hardware (NC = 1), and whether a window of R120 covers it. -/
structure Target where
  place : Place
  nc : Bool
  window : Bool
  deriving DecidableEq, Repr

/-- R106: a unit of the context holds a reservation that covers bytes of a core's scratchpad. -/
def reservationCovers (s : State) (ctx core off n : Nat) : Bool :=
  s.allStrands.any (fun p => p.1.core == core && p.2.st != .empty && p.2.ctx == ctx
    && p.2.scratchBase ≤ off && off + n ≤ p.2.scratchBase + p.2.scratchSize)

/-- R105: the shared offset of a lane-private byte. -/
def laneOffset (lane p : Nat) : Nat := p / 4 * 128 + lane * 4 + p % 4

/-- R94, R105, R106: the fixed windows. `lane` is the lane of a vector element, none for a scalar access. -/
def fixedWindow (s : State) (a : Agent) (lane : Option Nat) (va n : Nat) : Except Nat Place :=
  let own := 0x00FD000000000000
  let priv := 0x00FD800000000000
  let any := 0x00FE000000000000
  let t := s.strand a.who
  if own ≤ va && va < own + 0x200000 then
    let o := va - own
    if a.who.isConductor then .error Cause.access
    else if t.scratchBase ≤ o && o + n ≤ t.scratchBase + t.scratchSize then .ok (.scratch s.modId a.who.core o)
    else .error Cause.access
  else if priv ≤ va && va < priv + 0x10000 then
    let p := va - priv
    match lane with
    | none => .error Cause.access
    | some i =>
      if a.who.isConductor then .error Cause.access
      else if t.scratchBase / 32 ≤ p && p + n ≤ (t.scratchBase + t.scratchSize) / 32 then
        .ok (if n = 8 then .slice s.modId a.who.core (laneOffset i p) else .scratch s.modId a.who.core (laneOffset i p))
      else .error Cause.access
  else if any ≤ va then
    let o := va - any
    let m := o / 2 ^ 32
    let c := o / 2 ^ 21 % 2048
    let off := o % 2 ^ 21
    if m ≥ s.domSize || c > 127 then .error Cause.access
    else if m ≠ s.modId then .ok (.scratch m c off)
    else if reservationCovers s a.ctx c off n then .ok (.scratch m c off)
    else .error Cause.access
  else .error Cause.access

/-- R16, R95: the place of a physical address, or none for ACCESS under step 4 of R93. -/
def placeOf (s : State) (pa n : Nat) : Option Place :=
  match pa / 2 ^ 50 with
  | 0 => if natBits pa 38 0 + n ≤ s.ceil then some (.device s.modId (natBits pa 38 0)) else none
  | 1 =>
    let m := natBits pa 43 40
    if m ≥ s.domSize then none
    else if m = s.modId then (if natBits pa 38 0 + n ≤ s.ceil then some (.device m (natBits pa 38 0)) else none)
    else if natBits pa 38 0 + n ≤ s.ceilOf m then some (.device m (natBits pa 38 0))
    else none
  | 2 => some (.host (natBits pa 49 0))
  | _ => none

/-- R93: steps 1 to 4 for one element of n bytes, but for the width on accord cells. `align` is the
    alignment the instruction asks (n, or another its definition gives). -/
def resolve (s : State) (a : Agent) (kind : AccessKind) (lane : Option Nat) (va : Word) (n align : Nat) :
    State × Except Nat Target :=
  let x := va.toNat
  if x % align ≠ 0 then (s, .error Cause.misalign)
  else if x ≥ 2 ^ 56 then (s, .error Cause.access)
  else if x ≥ 0x00FD000000000000 then
    (s, match fixedWindow s a lane x n with
      | .ok p => .ok { place := p, nc := false, window := false }
      | .error c => .error c)
  else
    match translate s a kind x with
    | (s, .error c) => (s, .error c)
    | (s, .ok (pa, perms)) =>
      match placeOf s pa n with
      | none => (s, .error Cause.access)
      | some p => (s, .ok { place := p, nc := perms.getLsbD 7, window := inWindow s a.ctx x })

end Sys2Proof.Machine
end

