-- ==== Sys2Proof/Machine/Home.lean ====
section
/-! DEFINITION. Where accesses perform: home slices, L1 copies and leases, host lines, accord cells, and scratchpad ports (R18, R38 to R42, R107 to R145, R150, R164). -/

namespace Sys2Proof.Machine

open Sys2Proof

/-- How one access ends: a value, a precise fault, or a wait. -/
inductive Ans
  | val (v : Nat)
  | fault (cause : Nat)
  | wait
  deriving DecidableEq, Repr

/-- STRENGTH, AR, SCOPE and CACHE of an access (R149, R295, R322). -/
structure Ord where
  strength : Nat
  ar : Bool
  scope : Nat
  cache : Nat
  deriving DecidableEq, Repr

/-- A base-form access is weak (R149). -/
def Ord.weak : Ord := { strength := 0, ar := false, scope := 0, cache := 0 }

/-- R149: the access orders earlier ones before itself. -/
def Ord.isRelease (o : Ord) : Bool := o.ar || o.strength == 3

/-- R295: CACHE 1 and 3 keep the L1 out of it. -/
def Ord.noL1 (o : Ord) : Bool := o.cache % 2 == 1

/-- R111, R295: how an access uses the L2. CACHE has no effect on accord cells and result rows, and a page with NC = 1 none of it. -/
def Ord.l2Use (o : Ord) (nc exempt : Bool) : L2Use :=
  if nc then .bypass
  else if exempt then .cached
  else if o.cache = 2 then .noAlloc
  else if o.cache = 3 then .through
  else .cached

/-! ### Cores, objects and L1 copies -/

/-- What a core holds; a core not listed is as after reset. -/
def State.core (s : State) (c : Nat) : CoreSt := (mapGet s.cores c).getD .reset

/-- The state with a core replaced. -/
def State.setCore (s : State) (c : Nat) (k : CoreSt) : State := { s with cores := mapSet s.cores c k }

/-- R118: the index of X(object, slice) in `expiry`: this module's objects, its default object, then the default objects and the objects of the
    other modules. -/
def leaseKey (obj : Option Nat) (modId own line : Nat) : Nat :=
  (match obj with
    | some i => if modId = own then i else 2 ^ 20 * (modId + 1) + i
    | none => if modId = own then 262144 else 262145 + modId) * 128 + line % 128

/-- X(object, slice), 0 when no lease was granted. -/
def State.expiryOf (s : State) (key : Nat) : Nat := (mapGet s.expiry key).getD 0

/-- The valid L1 copy of a line that may serve a load (R118, R121, R295). A copy held without expiry serves a weak load made outside its window
    too: R154, R160 and R393 do not settle that case (DESIGN CHOICE, log 71). -/
def l1Copy (l : List L1Line) (line now : Nat) : Option L1Line :=
  l.find? (fun x => x.line == line && !x.passed && (match x.expiry with | none => true | some e => now < e))

/-- The L1 with a line filled in place of an older copy. -/
def l1Fill (l : List L1Line) (x : L1Line) : List L1Line := x :: l.filter (fun y => y.line != x.line)

/-- Bytes replaced within a list from an index. -/
def patchBytes (l : List Byte) (off : Nat) (bs : List Byte) : List Byte := l.take off ++ bs ++ l.drop (off + bs.length)

/-! ### Host lines (R40) -/

/-- State of a 64-byte host line; absent is I (R40). -/
def hostState (l : List HostLine) (i : Nat) : Option Mesi := (l.find? (fun h => h.addr == i)).map (·.st)

/-- R40: the host-line cache with a 64-byte line in a state. A slice holds 4,096 lines of 128 bytes; R40 gives no replacement order, and
    the line set longest ago leaves with both its halves (DESIGN CHOICE, log 57). -/
def setHostLine (l : List HostLine) (i : Nat) (m : Option Mesi) : List HostLine :=
  let l := l.filter (fun h => h.addr != i)
  match m with
  | none => l
  | some st =>
    let mine := ((l.filter (fun h => h.addr / 2 % 128 == i / 2 % 128)).map (·.addr / 2)).eraseDups
    let l := if mine.contains (i / 2) || mine.length < 4096 then l else
      match mine.getLast? with
      | some v => l.filter (fun h => h.addr / 2 != v)
      | none => l
    { addr := i, st } :: l

/-- The 64-byte host lines that n bytes from an address touch. -/
def hostHalves (ha n : Nat) : List Nat := (List.range ((ha + n - 1) / 64 + 1 - ha / 64)).map (ha / 64 + ·)

/-- R40: the state of one 64-byte host line after a device load. -/
def hostLoadOne (l : List HostLine) (i : Nat) : List HostLine := if (hostState l i).isSome then l else setHostLine l i (some .shared)

/-- R40: the states of host lines after a device load. -/
def hostLoad (s : State) (ha n : Nat) : State :=
  if s.host.mode ≠ 1 then s else { s with hostLines := (hostHalves ha n).foldl hostLoadOne s.hostLines }

/-- R40: the state of one 64-byte host line after a device store to bytes [ha, ha + n). -/
def hostStoreOne (ha n : Nat) (l : List HostLine) (i : Nat) : List HostLine :=
  let full := ha ≤ 64 * i && 64 * i + 64 ≤ ha + n
  match hostState l i with
  | some .exclusive => setHostLine l i (some .modified)
  | some .modified => l
  | _ => setHostLine l i (if full then none else some .modified)

/-- R40: the states of host lines after a device store. -/
def hostStore (s : State) (ha n : Nat) : State :=
  if s.host.mode ≠ 1 then s else { s with hostLines := (hostHalves ha n).foldl (hostStoreOne ha n) s.hostLines }

/-! ### Result rows (R164, R180) -/

/-- R164: a line lies in a result row of a command that has been issued and has not completed. -/
def inResultRow (s : State) (pa : Nat) : Bool := s.cmds.any (fun c => c.st != .complete && c.rows.contains (pa / 1024))

/-! ### Accord cells (R125 to R141) -/

/-- The cell at a location; a cell no write has reached has its memory value with dot 0 (R128). -/
def State.cellAt (s : State) (pa : Nat) : AccCell :=
  match mapGet s.cells pa with
  | some c => c
  | none => { sibs := [{ val := BitVec.ofNat 64 (readLocal s pa 8), dot := 0 }], ctr := 0, frozen := false }

/-- The primary sibling's value (R125). -/
def AccCell.primary (c : AccCell) : Word := (c.sibs.getLast?.map (·.val)).getD 0

/-- The dots present. -/
def AccCell.dots (c : AccCell) : List Word := c.sibs.map (·.dot)

/-- R129: free places of the sibling pool of a cell's home slice. -/
def poolFree (s : State) (pa : Nat) : Nat :=
  32768 - (s.cells.filter (fun p => p.1 / 128 % 128 == pa / 128 % 128 && p.1 / 2 ^ 40 == pa / 2 ^ 40)).foldl (fun n p => n + (p.2.sibs.length - 1)) 0

/-- R129: a cell changed: the DRAM value of the primary changes in the same step. -/
def setCell (s : State) (pa : Nat) (c : AccCell) : State :=
  cellPut { s with cells := mapSet s.cells pa c } pa (bytesOfNat 8 c.primary.toNat)

/-- R135: MAXSEQ. -/
def maxSeq : Nat := 2 ^ 40 - 1

/-- R127: the local agent number of a slot. -/
def agentNumber (u : SlotRef) : Nat := if u.isConductor then 256 + (u.core - 128) else 2 * u.core + u.slot

/-- R143: the incarnation of a local agent. -/
def incarnationOf (s : State) (n : Nat) : Nat := if n ≥ 3839 then s.host.incarnation.toNat else ((mapGet s.incs n).getD 0).toNat

/-- R126: the bits [63:40] of the dots an agent of this module writes. -/
def agentBits (s : State) (n : Nat) : Nat := incarnationOf s n * 2 ^ 60 + s.modId * 2 ^ 52 + n * 2 ^ 40

/-- R126: a dot. -/
def dotOf (agent seq : Nat) : Word := BitVec.ofNat 64 (agent + seq)

/-- R139: two-half FP32 sum. -/
def fsum2 (xs : List Word) : Word :=
  BitVec.ofNat 64 (fsumHalf (xs.map (fun x => x.toNat / 2 ^ 32)) * 2 ^ 32 + fsumHalf (xs.map (fun x => x.toNat % 2 ^ 32)))

/-- R139: blend of a non-empty list. -/
def blend (op : Nat) (xs : List Word) (val : Word) : Word :=
  let fold := fun (f : Word → Word → Word) => match xs with
    | [] => (0 : Word)
    | x :: r => r.foldl f x
  match op with
  | 0 => fold (· + ·)
  | 1 => fold (fun x y => if x.slt y then y else x)
  | 2 => fold (fun x y => if y.slt x then y else x)
  | 3 => fold (fun x y => if x.ult y then y else x)
  | 4 => fold (fun x y => if y.ult x then y else x)
  | 5 => fold (· ||| ·)
  | 6 => fold (· &&& ·)
  | 7 => fold (· ^^^ ·)
  | 8 => fsum2 xs
  | 9 => xs.headD 0
  | 10 => xs.getLastD 0
  | _ => val

/-- How an accord write ends: the dot it made and whether it folded, or its trap cause (R140). -/
inductive AccordRes
  | ok (dot : Word) (auto : Bool)
  | bad (cause : Nat)
  deriving DecidableEq, Repr

/-- R135: the cell and the answer of a store. `defop` is DEFOP, `free` the pool's free places. -/
def accordStore (c : AccCell) (defop free : Nat) (v : Word) (carried : List Word) (agent : Nat) : AccCell × AccordRes :=
  if c.frozen then (c, .bad Cause.accordFrozen)
  else
    let keep := c.sibs.filter (fun x => !carried.contains x.dot)
    let room := free + c.sibs.length - 1
    let fits := keep.length ≤ 3 && keep.length ≤ room
    if !fits && defop = 0 then (c, .bad (if keep.length = 4 then Cause.accordFull else Cause.accordPool))
    else
      let old := !fits && room ≥ 1
      let n := if old then 2 else 1
      if c.ctr + n > maxSeq then ({ c with frozen := true }, .bad Cause.accordFrozen)
      else if fits then
        let d := dotOf agent (c.ctr + 1)
        ({ c with sibs := keep ++ [{ val := v, dot := d }], ctr := c.ctr + 1 }, .ok d false)
      else if old then
        let f : Sibling := { val := blend (defop - 1) (keep.map (·.val)) 0, dot := dotOf agent (c.ctr + 1) }
        let d := dotOf agent (c.ctr + 2)
        ({ c with sibs := [f, { val := v, dot := d }], ctr := c.ctr + 2 }, .ok d true)
      else
        let d := dotOf agent (c.ctr + 1)
        ({ c with sibs := [{ val := blend (defop - 1) (keep.map (·.val) ++ [v]) 0, dot := d }], ctr := c.ctr + 1 }, .ok d true)

/-- R138: the cell, the cause if it faults, the result, and the dot when the cell changed. -/
def accordBlend (c : AccCell) (op : Nat) (v : Word) (agent : Nat) (cond : Bool) (seen : List Word) : AccCell × Except Nat (Word × Option Word) :=
  if c.frozen then (c, .error Cause.accordFrozen)
  else
    let t := if cond then c.sibs.filter (fun x => seen.contains x.dot) else c.sibs
    let rest := if cond then c.sibs.filter (fun x => !seen.contains x.dot) else []
    if t.isEmpty then (c, .ok (c.primary, none))
    else if c.ctr + 1 > maxSeq then ({ c with frozen := true }, .error Cause.accordFrozen)
    else
      let r := blend op (t.map (·.val)) v
      let d := dotOf agent (c.ctr + 1)
      ({ c with sibs := rest ++ [{ val := r, dot := d }], ctr := c.ctr + 1 }, .ok (r, some d))

/-- R130: the dots of a context's entry for a cell. -/
def obsDots (l : List ObsEntry) (cell : Nat) : List Word := ((l.find? (fun e => e.cell == cell)).map (·.dots)).getD []

/-- R130, R131: an entry written as the most recently used; a full buffer loses its least recently used and sets OBSLOST. An access that only
    reads its entry, a store that faults or a BLEND.C that folds nothing, is no use of it: R130 does not say (DESIGN CHOICE, log 70). -/
def Strand.observe (t : Strand) (cell : Nat) (dots : List Word) : Strand :=
  let rest := t.obs.filter (fun e => e.cell != cell)
  if rest.length < 1024 then { t with obs := { cell, dots } :: rest }
  else { t with obs := { cell, dots } :: rest.take 1023, astat := t.astat ||| 2 }

/-- R131, R134: a load of an accord cell by a context. -/
def accordLoaded (s : State) (u : SlotRef) (pa : Nat) : State :=
  let c := s.cellAt pa
  let t := s.strand u
  let t := if c.sibs.length > 1 then { t with astat := t.astat ||| 1 } else t
  s.setStrand u (t.observe pa c.dots)

/-! ### Stash mappings (R122, R123) -/

/-- The mapping of a unit's stash that covers a scratchpad offset, and the line's index in it. -/
def stashAt (t : Strand) (off : Nat) : Option (StashMap × Nat) :=
  (t.stash.find? (fun m => m.off ≤ off && off < m.off + 128 * m.lines.length)).map (fun m => (m, (off - m.off) / 128))

/-- The mapping with a change to one line's record. -/
def Strand.setStash (t : Strand) (m : StashMap) : Strand := { t with stash := t.stash.map (fun x => if x.off = m.off then m else x) }

/-- The unit of a core whose mapping covers an offset. -/
def stashOwner (s : State) (core off : Nat) : Option (SlotRef × StashMap × Nat) :=
  let f := fun (slot : Nat) =>
    let u : SlotRef := { core, slot }
    (stashAt (s.strand u) off).map (fun p => (u, p))
  match f 0 with
  | some x => some x
  | none => f 1

/-- R123: a mapped line not yet filled is fetched from its home; the line is then clean. One fetched from an uncorrectable line is bad: a load
    of it takes LOAD_FAULT (R18, log 56). -/
def stashFill (s : State) (core off : Nat) : State :=
  match stashOwner s core off with
  | none => s
  | some (u, m, i) =>
    if setHas m.filled i then s
    else
      let line := m.lines.getD i 0
      let s := homeTouch s line .cached
      let data := Memory.readBytes s.mem (line * 128) 128
      let at0 := (Place.scratch s.modId core (m.off + 128 * i)).loc s.modId
      let s := { s with mem := Memory.writeBytes s.mem at0 data }
      let bad := if setHas s.poison line then setAdd m.bad i else m.bad
      s.setStrand u ((s.strand u).setStash { m with filled := setAdd m.filled i, bad })

/-- R18, R123: a write of n bytes of the scratchpad makes a mapped line dirty; one of the whole line leaves it good. -/
def stashDirty (s : State) (core off n : Nat) : State :=
  match stashOwner s core off with
  | none => s
  | some (u, m, i) =>
    let bad := if off % 128 = 0 ∧ n = 128 then setDel m.bad i else m.bad
    s.setStrand u ((s.strand u).setStash { m with dirty := setAdd m.dirty i, bad })

/-- R18: a scratchpad offset lies in a mapped line that holds the bytes of an uncorrectable line. -/
def stashBad (s : State) (core off : Nat) : Bool :=
  match stashOwner s core off with
  | none => false
  | some (_, m, i) => setHas m.bad i

/-- R18, R38, R124: a dirty line of a mapping written back to its home; a bad one leaves its home line poisoned. -/
def stashBack (s : State) (u : SlotRef) (m : StashMap) (i : Nat) : State :=
  let line := m.lines.getD i 0
  let data := Memory.readBytes s.mem ((Place.scratch s.modId u.core (m.off + 128 * i)).loc s.modId) 128
  let s := homePut s (line * 128) data .cached
  if setHas m.bad i then { s with poison := setAdd s.poison line } else s

/-- R38, R124: the home lines of the dirty lines among some of a mapping that the host holds: the write-back waits for them. -/
def StashMap.held (s : State) (m : StashMap) (is : List Nat) : List Nat :=
  heldLines s ((is.filter (fun i => setHas m.dirty i)).map (fun i => m.lines.getD i 0))

/-- R124: every dirty line of a mapping among some indices written back; the mapping then holds them clean. -/
def stashWriteBack (s : State) (u : SlotRef) (m : StashMap) (is : List Nat) : State :=
  let s := (is.filter (fun i => setHas m.dirty i)).foldl (fun s i => stashBack s u m i) s
  s.setStrand u ((s.strand u).setStash { m with dirty := m.dirty.filter (fun i => !is.contains i) })

/-- R124: a mapping unmapped with write-back, its object back to LEASE. -/
def stashUnmap (s : State) (u : SlotRef) (m : StashMap) : State :=
  let s := stashWriteBack s u m m.dirty
  let t := s.strand u
  let s := s.setStrand u { t with stash := t.stash.filter (fun x => x.off != m.off) }
  match mapGet s.objs m.obj with
  | some o => { s with objs := mapSet s.objs m.obj { o with mode := .lease } }
  | none => s

/-- R214: an object that a STASHMAP has switched and not yet mapped goes back to LEASE. -/
def dropPendingStash (s : State) (u : SlotRef) : State :=
  let held := (s.strand u).stash.map (·.obj)
  { s with objs := s.objs.map (fun p => if p.2.mode = .stashed u.core u.slot ∧ !held.contains p.1 then (p.1, { p.2 with mode := .lease }) else p) }

/-- R124: every mapping of a unit unmapped. -/
def stashUnmapAll (s : State) (u : SlotRef) : State := dropPendingStash ((s.strand u).stash.foldl (fun s m => stashUnmap s u m) s) u

/-! ### Loads and writes of plain memory -/

/-- Reads bytes at the home, the channel controller or the port, without a lease: what every agent but an L1 sees (R145). -/
def readHome (s : State) (p : Place) (n : Nat) (use : L2Use) : State × List Byte :=
  match p with
  | .scratch m c o =>
    let s := if m = s.modId then stashFill s c o else s
    (s, Memory.readBytes s.mem (p.loc s.modId) n)
  | .slice m c o =>
    let s := stashFill (stashFill s c o) c (o + 128)
    let loc := (Place.scratch m c o).loc s.modId
    (s, Memory.readBytes s.mem loc 4 ++ Memory.readBytes s.mem (loc + 128) 4)
  | .host a => (hostLoad s a n, Memory.readBytes s.mem (p.loc s.modId) n)
  | .device m a =>
    if m ≠ s.modId then (detectUe s (lineOf (p.loc s.modId)), Memory.readBytes s.mem (p.loc s.modId) n)
    else
      let s := homeTouch s (a / 128) use
      if use = .bypass then (s, ((s.dramLine (a / 128)).drop (a % 128)).take n)
      else match s.objOfLine (a / 128) with
      | some (i, o) =>
        (match stashedAt s i o (a / 128) with
          | some (core, off) => (s, Memory.readBytes s.mem ((Place.scratch m core (off + a % 128)).loc m) n)
          | none => (s, Memory.readBytes s.mem a n))
      | none => (s, Memory.readBytes s.mem a n)

/-- R28: the module a place belongs to. -/
def Place.module : Place → Option Nat
  | .device m _ => some m
  | .scratch m _ _ => some m
  | .slice m _ _ => some m
  | .host _ => none

/-- R28: the route to a place crosses a down port. -/
def unreachable (s : State) (p : Place) : Bool :=
  match p.module with
  | some m => routeDown s m (lineOf (p.loc s.modId))
  | none => false

/-- R18: the bytes of a place come from an uncorrectable line. R18 keeps the mark with the line in DRAM and says of no copy that it hides the
    mark: a load that finds the line in the L2 takes the fault too, and a dirty line written back, which is no access, clears nothing
    (DESIGN CHOICE, log 56). -/
def poisoned (s : State) (p : Place) : Bool :=
  match landing s p with
  | .device m a => setHas s.poison (lineOf ((Place.device m a).loc s.modId))
  | .scratch m c o => m == s.modId && stashBad s c o
  | .slice _ c o => stashBad s c o || stashBad s c (o + 128)
  | .host _ => false

/-- R38, R164: a read of a place waits at the home: it lies in a result row whose full bit is clear, or a write to its line that came before
    waits there for the host. -/
def rowWaits (s : State) (p : Place) : Bool :=
  match p with
  | .device _ _ => s.rowClear.contains (p.loc s.modId / 1024) || s.homeWrites.any (fun w => w.pa / 128 == lineOf (p.loc s.modId))
  | _ => false

/-- R295: CACHE has no effect at a place: an accord cell or a result row. -/
def cacheExempt (s : State) (p : Place) : Bool :=
  match p with
  | .device m a => (s.accordAt p).isSome || (m == s.modId && inResultRow s a)
  | _ => true

/-- R40, R115, R118: the line may be held in an L1, with the object that leases it. -/
def leaseable (s : State) (g : Target) : Option (Option Nat × Nat) :=
  match g.place with
  | .device m a =>
    if g.nc then none
    else if m = s.modId && inResultRow s a then none
    else match s.objOfLine (lineOf (g.place.loc s.modId)) with
      | none => some (none, 2048)
      | some (i, o) => if o.mode = .lease then some (some i, o.lease) else none
  | _ => none

/-- R121: ACCESS for a line of an ACCORD or STASHED object in a non-coherent window. -/
def windowBars (s : State) (g : Target) : Bool :=
  g.window && (match g.place with
    | .device _ _ => (match s.objOfLine (lineOf (g.place.loc s.modId)) with
      | some (_, o) => o.mode != .lease
      | none => false)
    | _ => false)

/-- R145, R150: one load of n bytes by a unit, after `resolve`. Only a context's own accesses are observed (R131). -/
def loadAt (s : State) (a : Agent) (g : Target) (n : Nat) (o : Ord) : State × Ans :=
  let p := g.place
  let loc := p.loc s.modId
  if windowBars s g then (s, .fault Cause.access)
  else
    let line := lineOf loc
    let useL1 := o.strength == 0 && !o.ar
    let k := s.core a.who.core
    let copy := if useL1 && (leaseable s g).isSome then l1Copy k.l1 line s.now else none
    match copy with
    | some x => (s, .val (natOfBytes ((x.data.drop (loc % 128)).take n)))
    | none =>
      if unreachable s p then (s, .fault Cause.loadFault)
      else if farBarred s a.ctx p n then (s, .fault Cause.access)
      else
        if rowWaits s p then (s, .wait)
        else
          let (s, bs) := readHome s p n (o.l2Use g.nc (cacheExempt s p))
          if poisoned s p then (s, .fault Cause.loadFault)
          else
            let s := match s.accordAt p with
              | some (pa, _) => accordLoaded s a.who (pa / 8 * 8)
              | none => s
            let s :=
              if useL1 && !o.noL1 then
                match leaseable s g with
                | none => s
                | some (obj, lease) =>
                  let m := (p.module).getD 0
                  let e := s.now + lease
                  let key := leaseKey obj m s.modId line
                  let data := Memory.readBytes s.mem (line * 128) 128
                  let k := s.core a.who.core
                  if g.window then s.setCore a.who.core { k with l1 := l1Fill k.l1 { line, data, expiry := none, passed := false } }
                  else
                    let s := { s with expiry := mapSet s.expiry key (max e (s.expiryOf key)) }
                    s.setCore a.who.core { k with l1 := l1Fill k.l1 { line, data, expiry := some e, passed := false } }
              else s
            (s, .val (natOfBytes bs))

/-- R119: the write's acknowledgment, kept while it is due later; and LATEST_ACK for the save (R169). -/
def addAck (s : State) (u : SlotRef) (g : Target) : State :=
  match g.place with
  | .device m _ =>
    if g.window then s
    else
      let line := lineOf (g.place.loc s.modId)
      let obj := (s.objOfLine line).map (·.1)
      let due := s.expiryOf (leaseKey obj m s.modId line)
      if due ≤ s.now then s
      else
        let t := s.strand u
        s.setStrand u { t with acks := { due, line } :: t.acks.filter (fun x => x.due > s.now) }
  | .host _ => if s.host.mode = 2 then s.setStrand u { s.strand u with hostStores := true } else s
  | .scratch _ _ _ | .slice _ _ _ => s

/-- R118, R151, R154, R295: a store writes its own core's valid L1 copy, unless CACHE keeps it out; the core's loads then pass the copy by
    until it expires. -/
def writeOwnL1 (s : State) (u : SlotRef) (p : Place) (bs : List Byte) (o : Ord) : State :=
  let k := s.core u.core
  let loc := p.loc s.modId
  let line := lineOf loc
  match (match p with
    | .device _ _ => l1Copy k.l1 line s.now
    | _ => none) with
  | some x =>
    let y := if o.noL1 then { x with passed := true } else { x with data := patchBytes x.data (loc % 128) bs }
    s.setCore u.core { k with l1 := l1Fill k.l1 y }
  | none => s

/-- R109: the loop the port applies after any change of TARGET or COUNT: COUNT and GEN after it. -/
def syncLoop (target count gen : Nat) : Nat × Nat :=
  if target = 0 then (count, gen) else (count % target, (gen + count / target) % 2 ^ 32)

/-- R109: a copy's bytes counted into the sync word whose first byte is at a location. -/
def syncCount (m : List Host.Cell) (loc bytes : Nat) : List Host.Cell :=
  let target := natOfBytes (Memory.readBytes m loc 4)
  let count := natOfBytes (Memory.readBytes m (loc + 4) 4)
  let gen := natOfBytes (Memory.readBytes m (loc + 8) 4)
  let (c, g) := syncLoop target (min (count + bytes) (2 ^ 32 - 1)) gen
  Memory.writeBytes (Memory.writeBytes m (loc + 4) (bytesOfNat 4 c)) (loc + 8) (bytesOfNat 4 g)

/-- Bytes written at the home, the channel controller or the port: every effect of the write there but accord siblings. -/
def writeHome (s : State) (p : Place) (bs : List Byte) (use : L2Use) : State :=
  match p with
  | .scratch m c o =>
    let s := if m = s.modId then stashDirty (stashFill s c o) c o bs.length else s
    { s with mem := Memory.writeBytes s.mem (p.loc s.modId) bs }
  | .slice m c o =>
    let s := stashDirty (stashFill (stashDirty (stashFill s c o) c o 4) c (o + 128)) c (o + 128) 4
    let loc := (Place.scratch m c o).loc s.modId
    { s with mem := Memory.writeBytes (Memory.writeBytes s.mem loc (bs.take 4)) (loc + 128) (bs.drop 4) }
  | .host a => { hostStore s a bs.length with mem := Memory.writeBytes s.mem (p.loc s.modId) bs }
  | .device m a =>
    if m ≠ s.modId then
      let line := lineOf (p.loc s.modId)
      let s := if a % 128 = 0 ∧ bs.length = 128 then eccWrite s line else detectUe s line
      { s with mem := Memory.writeBytes s.mem (p.loc s.modId) bs }
    else
      match s.objOfLine (a / 128) with
      | some (i, o) =>
        (match if use = .bypass then none else stashedAt s i o (a / 128) with
          | some (core, off) =>
            let s := stashDirty s core (off + a % 128) bs.length
            { s with mem := Memory.writeBytes s.mem ((Place.scratch m core (off + a % 128)).loc m) bs }
          | none => homePut s a bs use)
      | none => homePut s a bs use

/-- How one store ends; it waits while the host holds its line (R38). -/
inductive Put
  | done
  | fault (cause : Nat)
  | wait
  deriving DecidableEq, Repr

/-- R135, R136: a store of a whole cell by an agent that carries dots. -/
def storeCell (s : State) (pa : Nat) (o : Obj) (v : Word) (carried : List Word) (agent : Nat) : State × AccordRes :=
  let (c, r) := accordStore (s.cellAt pa) o.defop (poolFree s pa) v carried agent
  match r with
  | .ok d a => (setCell s pa c, .ok d a)
  | .bad cause => ({ s with cells := if c.frozen then mapSet s.cells pa c else s.cells }, .bad cause)

/-- R28, R106: a store's error kept for the first FENCE or release that waits for it. -/
def deferErr (s : State) (u : SlotRef) (cause : Nat) (va : Word) : State :=
  let t := s.strand u
  s.setStrand u { t with storeErrs := t.storeErrs ++ [{ cause, va }] }

/-- R135: a write of a unit folded a cell by its default operator: ASTAT.AUTOBL. -/
def noteAuto (s : State) (u : SlotRef) (auto : Bool) : State :=
  if auto then
    let t := s.strand u
    s.setStrand u { t with astat := t.astat ||| 4 }
  else s

/-- R131, R135: a unit's store of a whole cell that its home has answered. -/
def storeAccord (s : State) (u : SlotRef) (pa : Nat) (o : Obj) (v : Word) : State × Put :=
  let t := s.strand u
  let (s, r) := storeCell s pa o v (obsDots t.obs pa) (agentBits s (agentNumber u))
  match r with
  | .ok d auto => (noteAuto (s.setStrand u ((s.strand u).observe pa [d])) u auto, .done)
  | .bad c => (s, .fault c)

/-- R295: CACHE as it acts on a target: it has no effect on an accord cell, a result row, or a page with NC = 1. -/
def Ord.on (o : Ord) (s : State) (g : Target) : Ord := if g.nc || cacheExempt s g.place then { o with cache := 0 } else o

/-- R28, R38, R106, R121: what a store meets before it acts at a place; `act` is what it does there. A store behind a down port retires and its
    error is deferred, a store of another module's accord cell with it: R28 and R136 pull apart there (DESIGN CHOICE, log 72). -/
def storeGate (s : State) (a : Agent) (g : Target) (n : Nat) (va : Word) (act : State → State × Put) : State × Put :=
  let p := g.place
  if windowBars s g then (s, .fault Cause.access)
  else if unreachable s p then (deferErr s a.who Cause.storeFault va, .done)
  else if farBarred s a.ctx p n then (deferErr s a.who Cause.access va, .done)
  else
    match hostWait s p n with
    | some s => (s, .wait)
    | none => act s

/-- R145: the bytes of a store to plain memory written where they perform. -/
def storePlain (s : State) (a : Agent) (g : Target) (bs : List Byte) (o : Ord) : State × Put :=
  let p := g.place
  let s' := writeOwnL1 s a.who p bs (o.on s g)
  (addAck (writeHome s' p bs (o.l2Use g.nc (cacheExempt s p))) a.who g, .done)

/-- R135, R145: one store of n bytes by a unit, after `resolve`. -/
def storeAt (s : State) (a : Agent) (g : Target) (n : Nat) (v : Word) (va : Word) (o : Ord) : State × Put :=
  match s.accordAt g.place with
  | some (pa, ob) => if n ≠ 8 then (s, .fault Cause.access) else storeGate s a g n va (fun s => storeAccord s a.who pa ob v)
  | none => storeGate s a g n va (fun s => storePlain s a g (bytesOfNat n v.toNat) o)

/-! ### Atomic operations (R41, R141, R323) -/

/-- R323: f(old, y) on n-byte values; none when a CAS writes nothing. -/
def amoNew (f : AmoFn) (n : Nat) (old y cmp : Nat) : Option Nat :=
  let w := 8 * n
  let sg := sextNat w
  match f with
  | .add => some ((old + y) % 2 ^ w)
  | .and => some (old &&& y)
  | .or => some (old ||| y)
  | .xor => some (old ^^^ y)
  | .min => some (if sg y < sg old then y else old)
  | .max => some (if sg old < sg y then y else old)
  | .minu => some (if y < old then y else old)
  | .maxu => some (if old < y then y else old)
  | .swap => some y
  | .cas => if old = cmp then some y else none

/-- R141: cells folded and the sequences needed: the cells ready to be acted on, or the cause. -/
def foldCell (c : AccCell) (defop agent : Nat) : AccCell :=
  if c.sibs.length ≤ 1 then c
  else { c with sibs := [{ val := blend (defop - 1) (c.sibs.map (·.val)) 0, dot := dotOf agent (c.ctr + 1) }], ctr := c.ctr + 1 }

/-- R141: sequences an operation needs on a cell; the write is counted when `writes` holds of the value it acts on. -/
def seqsNeeded (c : AccCell) (defop agent : Nat) (writes : Word → Bool) : Nat :=
  (if c.sibs.length > 1 then 1 else 0) + (if writes (foldCell c defop agent).primary then 1 else 0)

/-- A new value written to a folded cell. -/
def putValue (c : AccCell) (agent : Nat) (v : Word) : AccCell :=
  { c with sibs := [{ val := v, dot := dotOf agent (c.ctr + 1) }], ctr := c.ctr + 1 }

/-- R141: an AMO on one accord cell: the state, and the old value or the cause. -/
def accordAmo (s : State) (pa : Nat) (o : Obj) (f : AmoFn) (y cmp : Nat) (agent : Nat) : State × Except Nat Word :=
  let c := s.cellAt pa
  let writes := fun (v : Word) => (amoNew f 8 v.toNat y cmp).isSome
  let many := c.sibs.length > 1
  if c.frozen then (s, .error Cause.accordFrozen)
  else if many && o.defop = 0 then (s, .error Cause.accordSiblings)
  else if c.ctr + seqsNeeded c o.defop agent writes > maxSeq then
    ({ s with cells := mapSet s.cells pa { c with frozen := true } }, .error Cause.accordFrozen)
  else
    let c' := foldCell c o.defop agent
    let old := c'.primary
    match amoNew f 8 old.toNat y cmp with
    | none => (if many then setCell s pa c' else s, .ok old)
    | some v => (setCell s pa (putValue c' agent (BitVec.ofNat 64 v)), .ok old)

/-- R41: the operation has a PCIe AtomicOp form. -/
def atomicForm : AmoFn → Bool
  | .add | .swap | .cas => true
  | _ => false

/-- R41: ACCESS for an atomic on host memory. -/
def hostAtomicBarred (s : State) (p : Place) (form : Bool) : Bool :=
  match p with
  | .host ha => if form then !s.host.atomicEnable || s.host.atomicRefused.contains ha else s.host.mode == 2
  | _ => false

/-- R40, R41: the host-line cache around an atomic of n bytes on host memory. -/
def hostAtomic (s : State) (ha n : Nat) (form : Bool) : State :=
  if s.host.mode ≠ 1 then s
  else if form then
    let h := ha / 128 * 2
    { s with hostLines := setHostLine (setHostLine s.hostLines h none) (h + 1) none }
  else hostStore s ha n

/-- R18, R28, R106, R164: what an atomic meets at the home before it acts: a fault, a wait, or nothing. Of a host line it reads nothing here:
    `hostAtomic` says what becomes of the line (R41). -/
def atomicMeets (s : State) (a : Agent) (g : Target) (n : Nat) : State × Option Ans :=
  let p := g.place
  if unreachable s p then (s, some (.fault Cause.loadFault))
  else if farBarred s a.ctx p n then (s, some (.fault Cause.access))
  else if rowWaits s p then (s, some .wait)
  else
    match hostWait s p n with
    | some s => (s, some .wait)
    | none =>
      let s := match p with
        | .host _ => s
        | _ => (readHome s p n (if g.nc then .bypass else .cached)).1
      (s, if poisoned s p then some (.fault Cause.loadFault) else none)

/-- The new bytes of an atomic on plain memory, written where it performs. -/
def atomicPut (s : State) (a : Agent) (g : Target) (bs : List Byte) : State :=
  let p := g.place
  let s := writeOwnL1 s a.who p bs .weak
  let s := match p with
    | .host _ => { s with mem := Memory.writeBytes s.mem (p.loc s.modId) bs }
    | _ => writeHome s p bs (if g.nc then .bypass else .cached)
  addAck s a.who g

/-- R141, R145, R155, R323: one AMO or CAS of n bytes by a unit, after `resolve`: the old value. -/
def amoAt (s : State) (a : Agent) (g : Target) (f : AmoFn) (n : Nat) (y cmp : Word) : State × Ans :=
  let p := g.place
  let cell := s.accordAt p
  if windowBars s g || (cell.isSome && n != 8) then (s, .fault Cause.access)
  else if hostAtomicBarred s p (atomicForm f) then (s, .fault Cause.access)
  else
    match atomicMeets s a g n with
    | (s, some x) => (s, x)
    | (s, none) =>
      match cell with
      | some (pa, ob) =>
        let many := (s.cellAt pa).sibs.length > 1
        let (s, r) := accordAmo s pa ob f y.toNat cmp.toNat (agentBits s (agentNumber a.who))
        (match r with
          | .ok old =>
            (noteAuto (s.setStrand a.who ((s.strand a.who).observe pa (s.cellAt pa).dots)) a.who many, .val old.toNat)
          | .error c => (s, .fault c))
      | none =>
        let old := natOfBytes (readHome s p n (if g.nc then .bypass else .cached)).2
        let s := match p with
          | .host ha => hostAtomic s ha n (atomicForm f)
          | _ => s
        match amoNew f n old (y.toNat % 2 ^ (8 * n)) (cmp.toNat % 2 ^ (8 * n)) with
        | none => (s, .val old)
        | some v => (atomicPut s a g (bytesOfNat n v), .val old)

/-- R141: one half of a CAS.Q: an accord cell with what it folds to, or a doubleword of plain memory. -/
structure QHalf where
  loc : Nat
  cell : Option AccCell
  folded : AccCell
  old : Nat
  deriving DecidableEq, Repr

/-- R141: the half at an offset. -/
def qHalf (s : State) (p : Place) (off defop agent : Nat) (bytes : List Byte) : QHalf :=
  match s.accordAt (p.add off) with
  | some (pa, _) =>
    let c := s.cellAt pa
    let f := foldCell c defop agent
    { loc := pa, cell := some c, folded := f, old := f.primary.toNat }
  | none =>
    { loc := (p.add off).loc s.modId, cell := none, folded := { sibs := [], ctr := 0, frozen := false },
      old := natOfBytes ((bytes.drop off).take 8) }

/-- R141: a half holds several siblings. -/
def QHalf.many (h : QHalf) : Bool := h.cell.any (fun c => c.sibs.length > 1)

/-- R141: a half needs folding and its object has no default operator. -/
def QHalf.stuck (h : QHalf) (defop : Nat) : Bool := h.many && defop == 0

/-- R141: a half is frozen, or needs a sequence too many; `writes` that the operation would write it. A half that needs folding with no
    default operator needs no sequence it could count. -/
def QHalf.froz (h : QHalf) (defop : Nat) (writes : Bool) : Bool :=
  h.cell.any (fun c => c.frozen || c.ctr + (if h.many && defop != 0 then 1 else 0) + (if writes then 1 else 0) > maxSeq)

/-- R141: a half after the operation: the new value, or the fold it caused. -/
def QHalf.put (s : State) (h : QHalf) (use : L2Use) (hit : Bool) (agent v : Nat) : State :=
  match h.cell with
  | some _ =>
    if hit then setCell s h.loc (putValue h.folded agent (BitVec.ofNat 64 v)) else if h.many then setCell s h.loc h.folded else s
  | none =>
    if !hit then s
    else if h.loc < 2 ^ 50 then homePut s h.loc (bytesOfNat 8 v) use
    else { s with mem := Memory.writeBytes s.mem h.loc (bytesOfNat 8 v) }

/-- R131: a unit observes the cell of a half. -/
def QHalf.observe (s : State) (u : SlotRef) (h : QHalf) : State :=
  match h.cell with
  | some _ => s.setStrand u ((s.strand u).observe h.loc (s.cellAt h.loc).dots)
  | none => s

/-- How a CAS.Q ends: its old value, the cause with the byte offset of TRAPVAL, or a wait. -/
inductive QAns
  | val (v : Nat)
  | fault (cause off : Nat)
  | wait
  deriving DecidableEq, Repr

/-- R141: CAS.Q on 16 bytes of which one or both doublewords are accord cells; a doubleword the object does not cover is
    plain memory (R115). A half with several siblings and no DEFOP stops the write, so that no half needs the write's sequence: where the other
    half stands at the top of its counter the cause is ACCORD_SIBLINGS. R141 does not say (DESIGN CHOICE, log 73). -/
def casQCells (s : State) (a : Agent) (g : Target) (o : Obj) (cmp new : Nat) : State × QAns :=
  let p := g.place
  let agent := agentBits s (agentNumber a.who)
  let use := if g.nc then L2Use.bypass else L2Use.cached
  let bytes := (readHome s p 16 use).2
  let h0 := qHalf s p 0 o.defop agent bytes
  let h1 := qHalf s p 8 o.defop agent bytes
  let old := h1.old * 2 ^ 64 + h0.old
  let hit := old = cmp
  let stuck := h0.stuck o.defop || h1.stuck o.defop
  let f0 := h0.froz o.defop (hit && !stuck); let f1 := h1.froz o.defop (hit && !stuck)
  if f0 || f1 then
    let fix := fun (s : State) (h : QHalf) (f : Bool) =>
      match h.cell with
      | some c => if f then { s with cells := mapSet s.cells h.loc { c with frozen := true } } else s
      | none => s
    (fix (fix s h0 f0) h1 f1, .fault Cause.accordFrozen (if f0 then 0 else 8))
  else if stuck then (s, .fault Cause.accordSiblings (if h0.stuck o.defop then 0 else 8))
  else
    let s := QHalf.put (QHalf.put s h0 use hit agent (new % 2 ^ 64)) h1 use hit agent (new / 2 ^ 64)
    let s := QHalf.observe (QHalf.observe s a.who h0) a.who h1
    (noteAuto s a.who (h0.many || h1.many), .val old)

/-- R141, R324: CAS.Q on 16 aligned bytes. -/
def casQAt (s : State) (a : Agent) (g : Target) (cmp new : Nat) : State × QAns :=
  let p := g.place
  if windowBars s g || hostAtomicBarred s p true then (s, .fault Cause.access 0)
  else
    match atomicMeets s a g 16 with
    | (s, some (.fault c)) => (s, .fault c 0)
    | (s, some _) => (s, .wait)
    | (s, none) =>
      match ((s.accordAt p).or (s.accordAt (p.add 8))).map (·.2) with
      | some o => casQCells s a g o cmp new
      | none =>
        let old := natOfBytes (readHome s p 16 (if g.nc then .bypass else .cached)).2
        let s := match p with
          | .host ha => hostAtomic s ha 16 true
          | _ => s
        if old ≠ cmp then (s, .val old) else (atomicPut s a g (bytesOfNat 16 new), .val old)

end Sys2Proof.Machine
end

