-- ==== Sys2Proof/Machine/Port.lean ====
section
/-! DEFINITION. Full/empty bits, waiters and sync words at the scratchpad ports (R107 to R109, R326 to R331). -/

namespace Sys2Proof.Machine

open Sys2Proof

/-- The active launch with a handle. -/
def State.launchOf (s : State) (handle : Nat) : Option Launch := s.sched.launches.find? (fun l => l.handle == handle)

/-- The active launch a resident strand belongs to. -/
def State.launchOfUnit (s : State) (t : Strand) : Option Launch := s.launchOf (t.launch.toNat % 2 ^ 32)

/-- R80: the cycles a unit of a persistent launch has waited in PQPOP are progress. -/
def popCredit (s : State) (t : Strand) : Strand :=
  match t.wait with
  | .pop _ => if ((s.launchOfUnit t).map (·.persist)).getD false then { t with wdCount := s.now } else t
  | _ => t

/-- Wakes a strand whose wait has ended: it runs, or is ready when the other slot of its core runs (R191). -/
def wake (s : State) (u : SlotRef) (w : Wait) : State :=
  let t := popCredit s (s.strand u)
  if t.st = .waiting then
    let other := s.strand { u with slot := 1 - u.slot }
    s.setStrand u { t with st := if other.st = .running && !u.isConductor then .ready else .running, wait := w }
  else s

/-- R191, R214: the other slot of a core runs when it is ready, and not halted for its write-out. -/
def runOther (s : State) (u : SlotRef) : State :=
  if u.isConductor then s
  else
    let o : SlotRef := { u with slot := 1 - u.slot }
    let t := s.strand o
    if t.st = .ready ∧ t.halted = false then s.setStrand o { t with st := .running } else s

/-- A strand that starts a wait releases the issue slot: a ready unit of its core runs (R191, R214). -/
def sleep (s : State) (u : SlotRef) (w : Wait) : State :=
  runOther (s.setStrand u { s.strand u with st := .waiting, wait := w }) u

/-- R214: a strand halted for its write-out: no convoy of it issues. A wait whose answer is on its way stays for the save to collect; any other
    is abandoned, and its register PC restarts it. -/
def haltNow (s : State) (u : SlotRef) (settled : Bool) : State :=
  let t := popCredit s (s.strand u)
  runOther (s.setStrand u { t with st := .ready, halted := true, wait := if settled then t.wait else .none, cv := .idle }) u

/-- R214: the executing strand, if it still runs, is halted at the boundary it has come to. -/
def halted (s : State) : State := if s.cur.st = .running then haltNow s s.curRef false else s

/-- R108: the full bit of the word at a scratchpad location. -/
def wordFull (s : State) (loc : Nat) : Bool := setHas s.full (loc / 4)

/-- R108: the full bit written. -/
def setFull (s : State) (loc : Nat) (f : Bool) : State :=
  { s with full := if f then setAdd s.full (loc / 4) else setDel s.full (loc / 4) }

/-- R328: the slice queue a word's waiters stand in. -/
def sliceKey (loc : Nat) : Nat := loc / 2 ^ 21 * 32 + loc / 4 % 32

/-- R328: a waiter's condition holds. -/
def waiterReady (s : State) (w : PortWait) : Bool := if w.store.isSome then !wordFull s w.loc else wordFull s w.loc

/-- R94: core and offset of a scratchpad location of this module. -/
def State.scratchAt (s : State) (loc : Nat) : Option (Nat × Nat) :=
  let x := loc - 2 ^ 52
  if 2 ^ 52 ≤ loc ∧ x / 2 ^ 32 = s.modId then some (x / 2 ^ 21 % 2048, x % 2 ^ 21) else none

/-- R123, R124: an access that the port makes to n bytes of a scratchpad for a waiter or a sync word: a mapped line is filled first, and a
    write makes it dirty. -/
def portLine (s : State) (loc n : Nat) (write : Bool) : State :=
  match s.scratchAt loc with
  | none => s
  | some (c, o) =>
    let s := stashFill s c o
    if write then stashDirty s c o n else s

/-- R330, R109: strands waiting on the GEN field of a sync word are woken to look again. -/
def wakeGen (s : State) (loc : Nat) : State :=
  (s.allStrands.filter (fun p => p.2.st == .waiting && p.2.wait == .gen loc)).foldl (fun s p => wake s p.1 .none) s

/-- R109: a store to a word of a sync word: the port applies the loop and waiters look again. -/
def syncStored (s : State) (loc : Nat) : State :=
  let w := loc / 16 * 16
  if setHas s.syncs w then wakeGen { s with mem := syncCount s.mem w 0 } w else s

/-- R109: a run of bytes written in a scratchpad: the port applies the loop to every sync word, of 16 aligned bytes, that it meets. -/
def syncSpan (s : State) (loc n : Nat) : State :=
  (((List.range ((loc % 16 + n + 15) / 16)).map (fun i => (loc / 16 + i) * 16)).filter (setHas s.syncs)).foldl (fun s w => wakeGen { s with mem := syncCount s.mem w 0 } w) s

/-- R109, R123: what a write of n bytes to a place brings about at the port where it lands, beyond its bytes. -/
def storedAt (s : State) (p : Place) (n : Nat) : State :=
  match landing s p with
  | .scratch m c o => syncSpan s ((Place.scratch m c o).loc s.modId) n
  | .slice m c o =>
    let loc := (Place.scratch m c o).loc s.modId
    syncSpan (syncSpan s loc 4) (loc + 128) 4
  | _ => s

/-- Bytes written where they perform by an agent other than a strand's own store: the effects there, and those on a sync word. -/
def portWrite (s : State) (p : Place) (bs : List Byte) (use : L2Use) : State := storedAt (writeHome s p bs use) p bs.length

/-- R328: one waiter served at the port. -/
def serveWaiter (s : State) (w : PortWait) : State :=
  let s := portLine { s with portQueue := s.portQueue.erase w } w.loc 4 w.store.isSome
  match w.store with
  | some v => syncStored (setFull { s with mem := Memory.writeBytes s.mem w.loc (bytesOfNat 4 v.toNat) } w.loc true) w.loc
  | none =>
    let v := natOfBytes (Memory.readBytes s.mem w.loc 4)
    wake (if w.toEmpty then setFull s w.loc false else s) w.who (.portDone (BitVec.ofNat 32 v))

/-- R328: the waiters of a slice served after a change, oldest first among the 32 places of its queue. -/
def servePort : Nat → State → Nat → State
  | 0, s, _ => s
  | k + 1, s, key =>
    match (((s.portQueue.filter (fun w => sliceKey w.loc == key)).take 32).find? (waiterReady s)) with
    | some w => servePort k (serveWaiter s w) key
    | none => s

/-- R328: after a change of a word's bit. -/
def portChanged (s : State) (loc : Nat) : State := servePort (s.portQueue.length + 1) s (sliceKey loc)

/-- R326, R327: LD.F or LD.FE arrives at the port: the word, FE_DEADLINE, or a wait. -/
def feLoad (s : State) (u : SlotRef) (loc : Nat) (toEmpty : Bool) (deadline : Option Nat) (va : Word) (scope : Nat) : State × Ans :=
  if wordFull s loc then
    let v := natOfBytes (Memory.readBytes s.mem loc 4)
    (if toEmpty then portChanged (setFull s loc false) loc else s, .val v)
  else
    match deadline with
    | some d =>
      if s.now ≥ d then (s, .fault Cause.feDeadline)
      else
        let w : PortWait := { loc, who := u, store := none, toEmpty, deadline, va, scope }
        (({ s with portQueue := s.portQueue ++ [w] }).post (d - s.now) (.feDeadline u), .wait)
    | none =>
      ({ s with portQueue := s.portQueue ++ [{ loc, who := u, store := none, toEmpty, deadline, va, scope }] }, .wait)

/-- R326, R328: ST.E arrives at the port: it performs, or it waits there and its strand goes on. -/
def feStoreEmpty (s : State) (u : SlotRef) (loc : Nat) (v : BitVec 32) (va : Word) (scope : Nat) : State :=
  if wordFull s loc then
    { s with portQueue := s.portQueue ++ [{ loc, who := u, store := some v, toEmpty := false, deadline := none, va, scope }] }
  else portChanged (syncStored (setFull { s with mem := Memory.writeBytes s.mem loc (bytesOfNat 4 v.toNat) } loc true) loc) loc

/-- R326: ST.F performs on arrival. -/
def feStoreFull (s : State) (loc : Nat) (v : BitVec 32) : State :=
  portChanged (syncStored (setFull { s with mem := Memory.writeBytes s.mem loc (bytesOfNat 4 v.toNat) } loc true) loc) loc

/-- R326: FESET and FECLR. -/
def feBit (s : State) (loc : Nat) (f : Bool) : State := portChanged (setFull s loc f) loc

/-- R331: SYNCW in one step at the port. -/
def syncArm (s : State) (loc : Nat) (v : Word) : State :=
  let m := Memory.writeBytes s.mem loc (bytesOfNat 4 v.toNat)
  let m := Memory.writeBytes m (loc + 4) (bytesOfNat 4 0)
  wakeGen { s with mem := Memory.writeBytes m (loc + 12) (bytesOfNat 4 (v.toNat / 2 ^ 32)) } loc

/-- R109: a copy counts bytes into a sync word; true when its CTL bars it (BAD_SYNC). -/
def syncBarred (s : State) (loc : Nat) : Bool := natOfBytes (Memory.readBytes s.mem (loc + 12) 4) / 8 != 0

/-- R109: bytes counted by a copy sector, and the waiters on GEN. -/
def syncAdd (s : State) (loc bytes : Nat) : State :=
  let s := portLine s loc 16 true
  wakeGen { s with mem := syncCount s.mem loc bytes } loc

/-- A record becomes known as a sync word: a SYNCW, a WAITG or a copy names it (log 13). -/
def nameSync (s : State) (loc : Nat) : State := { s with syncs := setAdd s.syncs loc }

/-- R163, R328: an ST.E of a unit still waits at a port: it has not performed. -/
def storesQueued (s : State) (u : SlotRef) : Bool := s.portQueue.any (fun w => w.who == u && w.store.isSome)

/-- R328: the ST.E stores that a unit leaves behind when it leaves its slot are no longer waited for. -/
def leaveStores (s : State) (u : SlotRef) : State :=
  { s with portQueue := s.portQueue.map (fun w => if w.who = u ∧ w.store.isSome then { w with who := { core := 255, slot := 0 } } else w) }

/-- R327, R328: waiters leave the queues of their slices, whose next places others take. -/
def unqueue (s : State) (leaves : PortWait → Bool) : State :=
  let gone := s.portQueue.filter leaves
  let s := { s with portQueue := s.portQueue.filter (fun w => !leaves w) }
  gone.foldl (fun s w => portChanged s w.loc) s

/-- R328: the waits of a strand leave their queues (pre-emption, cancel). -/
def leavePort (s : State) (u : SlotRef) : State :=
  unqueue { s with popQueue := s.popQueue.filter (fun p => p.2 != u) } (fun w => w.who == u && w.store.isNone)

/-- R106, R328: a reservation is freed: the ST.E stores queued there are discarded, and the loads queued there wait on. -/
def freeScratch (s : State) (core base size : Nat) : State :=
  let lo := (Place.scratch s.modId core base).loc s.modId
  unqueue { s with syncs := s.syncs.filter (fun w => w < lo || lo + size ≤ w) } (fun w => w.store.isSome && lo ≤ w.loc && w.loc < lo + size)

/-- R106: a reservation as its unit first finds it: every byte zero, every word empty. -/
def zeroScratch (s : State) (core base size : Nat) : State :=
  let lo := (Place.scratch s.modId core base).loc s.modId
  { s with full := s.full.filter (fun i => i < lo / 4 || (lo + size) / 4 ≤ i), mem := Memory.clear s.mem lo (lo + size),
           lateSyncs := s.lateSyncs.filter (fun x => x.loc < lo || lo + size ≤ x.loc) }

end Sys2Proof.Machine
end

