-- ==== Sys2Proof/Machine/Copies.lean ====
section
/-! DEFINITION. The copy sequencer: sectors, their translation and completion, parking, flacon slots and sync words (R204 to R207, R220, R343 to R346). -/

namespace Sys2Proof.Machine

open Sys2Proof

/-! ### Runs of bytes -/

/-- R28: the route to some line of a run crosses a down port. -/
def spanDown (s : State) (p : Place) (n : Nat) : Bool := (piecesOf (p.loc s.modId) n).any (fun x => unreachable s (p.add x.1))

/-- R164: some line of a run lies in a result row whose full bit is clear. -/
def spanRows (s : State) (p : Place) (n : Nat) : Bool := (piecesOf (p.loc s.modId) n).any (fun x => rowWaits s (p.add x.1))

/-- R111: how an engine's access uses the L2. -/
def Target.use (g : Target) : L2Use := if g.nc then .bypass else .cached

/-- Bytes of a run read at their homes, line by line; none when a line is uncorrectable. -/
def readSpan (s : State) (p : Place) (n : Nat) (use : L2Use) : State × Option (List Byte) :=
  (piecesOf (p.loc s.modId) n).foldl (fun (s, r) (off, k) =>
    match r with
    | none => (s, none)
    | some bs =>
      let q := p.add off
      let (s, x) := readHome s q k use
      (s, if poisoned s q then none else some (bs ++ x))) (s, some [])

/-- R142: a run of bytes covers some accord cell in part. -/
def partCell (s : State) (p : Place) (n : Nat) : Bool :=
  let bad := fun (off : Nat) => (s.accordAt (p.add off)).isSome
  let loc := p.loc s.modId
  n ≠ 0 && ((loc % 8 ≠ 0 && bad 0) || ((loc + n) % 8 ≠ 0 && bad (n - 1)))

/-- Who a run of bytes is written for (R127, R135, R142): the agent bits of its dots, and the unit whose ASTAT tells of a fold. -/
structure Writer where
  agent : Nat
  unit : Option SlotRef
  deriving DecidableEq, Repr

/-- A unit's engines write for it. -/
def State.writerOf (s : State) (u : SlotRef) : Writer := { agent := agentBits s (agentNumber u), unit := some u }

/-- The doublewords of a piece that are accord cells, written as stores that carry the empty set; the cause of the first that faults (R142). -/
def writeCells (s : State) (p : Place) (w : Writer) (use : L2Use) : List (List Byte) → Nat → State × Option Nat
  | [], _ => (s, none)
  | x :: xs, off =>
    match s.accordAt (p.add off) with
    | none => writeCells (writeHome s (p.add off) x use) p w use xs (off + 8)
    | some (pa, o) =>
      match storeCell s pa o (BitVec.ofNat 64 (natOfBytes x)) [] w.agent with
      | (s, .ok _ auto) =>
        writeCells (match w.unit with
          | some u => noteAuto s u auto
          | none => s) p w use xs (off + 8)
      | (s, .bad c) => (s, some c)

/-- Bytes cut into pieces of eight; `fuel` bounds them. -/
def chunks8 : Nat → List Byte → List (List Byte)
  | 0, _ => []
  | k + 1, bs => if bs.isEmpty then [] else bs.take 8 :: chunks8 k (bs.drop 8)

/-- The lines a run meets hold an ACCORD object. -/
def accordLine (s : State) (p : Place) : Bool :=
  match p with
  | .device _ _ => (match s.objOfLine (lineOf (p.loc s.modId)) with
    | some (_, o) => o.mode == .accord
    | none => false)
  | _ => false

/-- R18: some line that a run covers in part is uncorrectable: the read half of the write has met it. -/
def partUe (s : State) (p : Place) (n : Nat) : Bool := (piecesOf (p.loc s.modId) n).any (fun x => x.2 < 128 && poisoned s (p.add x.1))

/-- Bytes of a run written at their homes line by line; accord cells as R142 says, sync words as R109 does. -/
def writeSpan (s : State) (p : Place) (bs : List Byte) (w : Writer) (use : L2Use) : State × Option Nat :=
  (piecesOf (p.loc s.modId) bs.length).foldl (fun (s, r) (off, k) =>
    match r with
    | some c => (s, some c)
    | none =>
      let q := p.add off
      let x := (bs.drop off).take k
      if accordLine s q then
        -- bytes outside a cell up to the first doubleword, then by doublewords
        let lead := min k ((8 - (q.loc s.modId) % 8) % 8)
        let s := if lead = 0 then s else writeHome s q (x.take lead) use
        writeCells s (q.add lead) w use (chunks8 (k / 8 + 1) (x.drop lead)) 0
      else (portWrite s q x use, none)) (s, none)

/-- What a unit's stash does to memory as a load sees it: a dirty line stands for its home line, a line not yet filled has its
    home's bytes (R123). -/
def stashView (m : List Host.Cell) (modId core : Nat) (x : StashMap) : List Host.Cell :=
  (List.range x.lines.length).foldl (fun m i =>
    let home := x.lines.getD i 0 * 128
    let here := (Place.scratch modId core (x.off + 128 * i)).loc modId
    if setHas x.dirty i then Memory.writeBytes m home (Memory.readBytes m here 128)
    else if setHas x.filled i then m
    else Memory.writeBytes m here (Memory.readBytes m home 128)) m

/-- R38: memory with the writes performed that wait at their homes for the host. -/
def settledMem (s : State) : List Host.Cell := s.homeWrites.foldl (fun m w => Memory.writeBytes m w.pa w.bytes) s.mem

/-- R154, R162: memory as every load would find it now: what a stream set or a copy started now returns of it (log 53). -/
def snapshot (s : State) : List Host.Cell :=
  s.allStrands.foldl (fun m p => p.2.stash.foldl (fun m x => stashView m s.modId p.1.core x) m) (settledMem s)

/-- Bytes at a place as an image of memory has them, and of what DRAM held where the L2 differed. -/
def foundBytes (mem : List Host.Cell) (stale : List (Nat × List Byte)) (own : Nat) (p : Place) (n : Nat) (use : L2Use) : List Byte :=
  let loc := p.loc own
  let fromDram : Option (List Byte) := match p with
    | .device m _ => if m = own ∧ use = .bypass then mapGet stale (loc / 128) else none
    | _ => none
  match fromDram with
  | some d => (d.drop (loc % 128)).take n
  | none => Memory.readBytes mem loc n

/-- R154, R162, R164: n bytes of a copy's source that have been read at their homes: those its CPGO found, but those of a result row that was not
    full then. -/
def Copy.found (c : Copy) (own : Nat) (p : Place) (now : List Byte) (use : L2Use) : List Byte :=
  (piecesOf (p.loc own) now.length).flatMap (fun x =>
    if c.rows.contains (((p.add x.1).loc own) / 1024) then (now.drop x.1).take x.2 else foundBytes c.mem c.stale own (p.add x.1) x.2 use)

/-! ### Where a copy stands (R204, R206, R343) -/

/-- The copy under a number of a core. -/
def State.copyAt (s : State) (core n : Nat) : Option Copy := ((s.core core).copies[n]?).getD none

/-- A core's copy number set. -/
def State.setCopy (s : State) (core n : Nat) (c : Option Copy) : State :=
  let k := s.core core
  s.setCore core { k with copies := k.copies.setIfInBounds n c }

/-- The sum of indices times strides. -/
def affine (levels : List CopyLevel) (idx : List Nat) (f : CopyLevel → Int) : Int :=
  (levels.zip idx).foldl (fun x p => x + (p.2 : Int) * f p.1) 0

/-- R207: a slot's own-scratchpad address. -/
def Flacon.slotAddr (f : Flacon) (k : Nat) : Word := f.base + BitVec.ofNat 64 (f.size * k)

/-- R343: source, destination and bytes of the current sector. -/
def sectorOf (c : Copy) (slotBase : Word) : Word × Word × Nat :=
  let src := c.src + BitVec.ofInt 64 (affine c.levels c.cursor (·.sstride)) + BitVec.ofNat 64 c.off
  let dst := slotBase + c.dst + BitVec.ofInt 64 (affine c.levels c.cursor (·.dstride)) + BitVec.ofNat 64 c.off
  (src, dst, min (c.bytes - c.off) (min (4096 - src.toNat % 4096) (4096 - dst.toNat % 4096)))

/-- The loop indices after one transfer, level 0 fastest; none after the last. -/
def nextIndex : List CopyLevel → List Nat → Option (List Nat)
  | l :: ls, i :: is =>
    if i + 1 < l.count then some ((i + 1) :: is)
    else (nextIndex ls is).map (0 :: ·)
  | _, _ => none

/-- R343: a copy of no bytes. -/
def Copy.empty (c : Copy) : Bool := c.levels.any (fun l => l.count == 0)

/-- A flacon of a strand replaced. -/
def Strand.setFlacon (t : Strand) (f : Nat) (x : Flacon) : Strand := { t with flacons := t.flacons.setIfInBounds f x }

/-- A slot of a flacon replaced. -/
def Flacon.setSlot (x : Flacon) (k : Nat) (y : FlSlot) : Flacon := { x with slots := x.slots.set k y }

/-- R207: the copy's slot changed. -/
def changeSlot (s : State) (c : Copy) (g : FlSlot → FlSlot) : State :=
  match c.flac, c.slot with
  | some f, some k =>
    let t := s.strand c.owner
    let x := (t.flacons[f]?).getD .reset
    (match x.slots[k]? with
      | some y => s.setStrand c.owner (t.setFlacon f (x.setSlot k (g y)))
      | none => s)
  | _, _ => s

/-- R207: every arrival bit of a slot. -/
def allArrived (size : Nat) : Nat := 2 ^ size - 1

/-- R204: a copy number is free again: a copy that the other slot's context brought back under it goes on. -/
def admitCopy (s : State) (core n : Nat) (u : SlotRef) : State :=
  let t := s.strand u
  match (s.copyAt core n).isNone, t.waitCopies.find? (fun p => p.1 == n) with
  | true, some (_, c) =>
    let s := (s.setStrand u { t with waitCopies := t.waitCopies.filter (fun p => p.1 != n) }).setCopy core n (some c)
    if c.st = .parked then s else s.post 1 (.copySectorTranslated core n)
  | _, _ => s

/-- R204: every copy of a context leaves its number. -/
def clearCopies (s : State) (u : SlotRef) : State :=
  if u.isConductor then s
  else
    let k := s.core u.core
    let s := s.setCore u.core { k with copies := k.copies.map (fun c => match c with
      | some x => if x.owner = u then none else some x
      | none => none) }
    (List.range 4).foldl (fun s n => admitCopy s u.core n { u with slot := 1 - u.slot }) s

/-- R205: some copy of a context is parked. -/
def someParked (s : State) (core : Nat) (u : SlotRef) : Bool :=
  (s.strand u).waitCopies.any (fun p => p.2.st == .parked) || (List.range 4).any (fun i => match s.copyAt core i with
    | some x => x.owner == u && x.st == .parked
    | none => false)

/-- R207, R346: the end of a copy beside its number: its slot, its status, and PARK. -/
def copyEnded (s : State) (core n : Nat) (c : Copy) (status : Nat) : State :=
  let size := match c.flac with
    | some f => (((s.strand c.owner).flacons[f]?).getD .reset).size
    | none => 0
  let s := changeSlot s c (fun y => if status = 0 then { y with st := .full, arrived := allArrived size } else { y with st := .full, err := true })
  let t := s.strand c.owner
  s.setStrand c.owner { t with copyEnds := t.copyEnds.setIfInBounds n { sect := c.sect, status },
                               status := if c.st = .parked ∧ !someParked s core c.owner then t.status &&& ~~~(0x10 : Word) else t.status }

/-- R207, R346: a copy ends with a status. -/
def endCopy (s : State) (core n : Nat) (c : Copy) (status : Nat) : State :=
  admitCopy (copyEnded (s.setCopy core n none) core n c status) core n { c.owner with slot := 1 - c.owner.slot }

/-- R207: a copy with FLAC takes the tail slot; none when it waits. -/
def takeSlot (s : State) (c : Copy) : Option (State × Copy) :=
  match c.flac, c.slot with
  | some f, none =>
    let t := s.strand c.owner
    let x := (t.flacons[f]?).getD .reset
    (match x.slots[x.tail]? with
      | some y =>
        if y.st = .empty then
          let x' := { x.setSlot x.tail { st := .filling, err := false, arrived := 0 } with tail := (x.tail + 1) % x.slots.length }
          some (s.setStrand c.owner (t.setFlacon f x'), { c with slot := some x.tail, st := .running })
        else none
      | none => none)
  | _, _ => some (s, { c with st := .running })

/-- R205, R220: a translation fault parks a copy; the strand takes it at its next convoy boundary. -/
def parkCopy (s : State) (core n : Nat) (c : Copy) (cause : Nat) (va : Word) : State :=
  let s := s.setCopy core n (some { c with st := .parked })
  let t := s.strand c.owner
  let s := s.setStrand c.owner { t with status := t.status ||| 0x10, pending := match t.pending with | some p => some p | none => some (cause, va) }
  if t.st = .waiting then wake (leavePort s c.owner) c.owner .none else s

/-- R119: when the writes of a run are acknowledged. -/
def ackDue (s : State) (g : Target) (n : Nat) : Nat :=
  match g.place with
  | .device m _ =>
    if g.window then 0
    else
      let loc := g.place.loc s.modId
      (piecesOf loc n).foldl (fun d p =>
        let line := (loc + p.1) / 128
        let obj := (s.objOfLine line).map (·.1)
        max d (s.expiryOf (leaseKey obj m s.modId line))) 0
  | _ => 0

/-- R106, R109: where a copy's sync word stands; ACCESS when the owner may not reach it. -/
def syncPlace (s : State) (c : Copy) : Except Nat (Option Place) :=
  if c.sync = 0 then .ok none
  else
    let a := s.agentOf c.owner
    match resolve s a .store none c.sync 16 16 with
    | (_, .ok g) => if farBarred s a.ctx g.place 16 then .error Cause.access else .ok (some g.place)
    | (_, .error e) => .error e

/-- R42, R109, R161: a sector counted into a sync word: at once, or when what its GEN releases at CTL.SCOPE has been acknowledged and, at
    SYSTEM scope in the fallback, the zero-length read behind the unit's host stores has been answered; never before an earlier sector's count. -/
def countSync (s : State) (core n : Nat) (c : Copy) (loc bytes : Nat) : State :=
  let scope := natOfBytes (Memory.readBytes s.mem (loc + 12) 4) % 8
  let before := s.lateSyncs.filter (fun x => x.loc == loc)
  let due := before.foldl (fun d x => max d x.due) (if scope = 0 then 0 else c.acked)
  let read := if scope = 5 ∧ s.host.mode = 2 then some c.owner else none
  if due ≤ s.now && before.isEmpty && read.isNone then syncAdd s loc bytes
  else
    let late : LateSync := { due, loc, bytes, read }
    ({ s with lateSyncs := s.lateSyncs ++ [late] }).post (due - s.now) (.copySectorComplete core n)

/-- R161: the counts among some that have become due made, each behind those of its word before it. -/
def settleList (s : State) : List LateSync → List LateSync → State
  | [], kept => { s with lateSyncs := kept }
  | x :: l, kept =>
    if x.due ≤ s.now ∧ x.read = none ∧ !kept.any (fun y => y.loc == x.loc) then settleList (syncAdd s x.loc x.bytes) l kept
    else settleList s l (kept ++ [x])

/-- R161: the counts that have become due. -/
def settleSyncs (s : State) : State := settleList s s.lateSyncs []

/-- R28, R106: a copy's sector as it begins to write. -/
def beginSector (s : State) (core n : Nat) (c : Copy) (k acked : Nat) : State :=
  let wait := k / 64 + 1
  (s.setCopy core n (some { c with begun := some k, endAt := s.now + wait, acked })).post wait (.copySectorComplete core n)

/-- R38, R164: a sector that cannot go on yet is tried again. -/
def holdSector (s : State) (core n : Nat) (c : Copy) : State := (s.setCopy core n (some c)).post 64 (.copySectorTranslated core n)

/-- R42: a unit's engine stored to host memory. -/
def noteHostStore (s : State) (u : SlotRef) (p : Place) : State :=
  match p with
  | .host _ => if s.host.mode = 2 then s.setStrand u { s.strand u with hostStores := true } else s
  | _ => s

/-- R119: a unit keeps the acknowledgment of a run its engine wrote. -/
def noteAck (s : State) (u : SlotRef) (line due : Nat) : State :=
  if due ≤ s.now then s
  else
    let t := s.strand u
    s.setStrand u { t with acks := { due, line } :: t.acks }

/-- R345: the bytes of a sector written at their destination. -/
def putSector (s : State) (core n : Nat) (c : Copy) (dst : Target) (k : Nat) (bs : List Byte) : State :=
  let due := ackDue s dst k
  let (s, r) := writeSpan s dst.place bs (s.writerOf c.owner) dst.use
  match r with
  | some cause => endCopy s core n c cause
  | none =>
    if partUe s dst.place k then endCopy s core n c 32
    else
    let loc := dst.place.loc s.modId
    let s := (piecesOf loc k).foldl (fun s p => writeOwnL1 s c.owner (dst.place.add p.1) ((bs.drop p.1).take p.2) .weak) s
    beginSector (noteHostStore (noteAck s c.owner (loc / 128) due) c.owner dst.place) core n c k due

/-- R345: a sector whose source and destination have translated: its bytes move, the copy ends, or it waits for the host or a
    bank command. -/
def moveSector (s : State) (core n : Nat) (c : Copy) (src dst : Target) (dstVa : Word) (k : Nat) : State :=
  let ctx := (s.agentOf c.owner).ctx
  if windowBars s src || windowBars s dst || partCell s dst.place k || farBarred s ctx src.place k || farBarred s ctx dst.place k then
    endCopy s core n c 7
  else
    match syncPlace s c with
    | .error _ => endCopy s core n c 7
    | .ok _ =>
      if spanDown s src.place k then endCopy s core n c 32
      else if spanRows s src.place k then holdSector s core n c
      else
        match hostWait s dst.place k with
        | some s => holdSector s core n c
        | none =>
          match readSpan s src.place k src.use with
          | (s, none) => endCopy s core n c 32
          | (s, some now) =>
            let bs := c.found s.modId src.place now src.use
            if spanDown s dst.place k then beginSector (deferErr s c.owner Cause.storeFault dstVa) core n c k 0
            else putSector s core n c dst k bs

/-- R205: the copy under a number takes its slot, or its next sector is translated and begins to write. -/
def copySector (s : State) (core n : Nat) : State :=
  match s.copyAt core n with
  | none => s
  | some c =>
    if c.st = .parked ∨ c.begun.isSome then s
    else
      match takeSlot s c with
      | none => s.setCopy core n (some { c with st := .waitSlot })
      | some (s, c) =>
        let s := s.setCopy core n (some c)
        if c.empty then endCopy s core n c 0
        else
          let a := s.agentOf c.owner
          let fl := match c.flac with
            | some f => some (((s.strand c.owner).flacons[f]?).getD .reset)
            | none => none
          let base : Word := match fl, c.slot with
            | some f, some i => f.slotAddr i
            | _, _ => 0
          let (src, dst, k) := sectorOf c base
          match resolve s a .load none src k 1 with
          | (s, .error e) => if e = Cause.loadFault then parkCopy s core n c e src else endCopy s core n c 7
          | (s, .ok gs) =>
            match resolve s a .store none dst k 1 with
            | (s, .error e) => if e = Cause.storeFault then parkCopy s core n c e dst else endCopy s core n c 7
            | (s, .ok gd) =>
              let outside := match fl with
                | some f => dst.toNat < base.toNat || base.toNat + f.size < dst.toNat + k
                | none => false
              if outside then endCopy s core n c 7 else moveSector s core n c gs gd dst k

/-- R205: a sector completes: the sync word and the flacon see it, and the cursor moves on. -/
def copySectorDone (s : State) (core n : Nat) : State :=
  match s.copyAt core n with
  | none => s
  | some c =>
    match c.begun with
    | none => s
    | some k =>
      let c := { c with begun := none }
      match syncPlace s c with
      | .error _ => endCopy s core n c 7
      | .ok p =>
        let s := match p with
          | some q => portLine s (q.loc s.modId) 16 false
          | none => s
        let barred := match p with
          | some q => syncBarred s (q.loc s.modId)
          | none => false
        if barred then endCopy s core n c 34
        else
          let s := match p with
            | some q => countSync s core n c (q.loc s.modId) k
            | none => s
          let s := match c.flac, c.slot with
            | some f, some i =>
              let fl := ((s.strand c.owner).flacons[f]?).getD .reset
              let (_, dst, _) := sectorOf c (fl.slotAddr i)
              changeSlot s c (fun y => { y with arrived := y.arrived ||| ((2 ^ k - 1) <<< (dst - fl.slotAddr i).toNat) })
            | _, _ => s
          let c := { c with sect := c.sect + 1 }
          let more := if c.off + k < c.bytes then some { c with off := c.off + k }
            else (nextIndex c.levels c.cursor).map (fun i => { c with cursor := i, off := 0 })
          match more with
          | none => endCopy s core n c 0
          | some c => (s.setCopy core n (some c)).post 0 (.copySectorTranslated core n)

/-- COPY_SECTOR_COMPLETE's time has come for the copy under a number. -/
def sectorDue (s : State) (core n : Nat) : State :=
  match s.copyAt core n with
  | some c => if c.endAt ≤ s.now then copySectorDone s core n else s
  | none => s

/-- R206: the sectors of a unit's copies that have begun writing are completed. -/
def settleSectors (s : State) (u : SlotRef) : State :=
  (List.range 4).foldl (fun s n =>
    match s.copyAt u.core n with
    | some c => if c.owner = u ∧ !u.isConductor then copySectorDone s u.core n else s
    | none => s) s

end Sys2Proof.Machine
end

