-- ==== Sys2Proof/Machine/Scheduler.lean ====
section
/-! DEFINITION. Jobs, phases, launches, gangs, contracts, the end of a unit, cancels, and the save and restore of contexts (R59 to R92, R191, R193, R214 to R219, R386). -/

namespace Sys2Proof.Machine

open Sys2Proof

/-! ### Records the part reads for itself -/

/-- The scheduler reading in a job's context. R101 gives each cluster a TLB and says of none that it serves the scheduler: the model gives
    the scheduler one of its own, under core number 255 (DESIGN CHOICE, log 59). -/
def schedAgent (ctx : Nat) : Agent := { who := { core := 255, slot := 0 }, ctx, sup := ctx == 0 }

/-- How a read of a record fails: a fault at an address, or a wait for a result row (R164). -/
inductive FetchErr
  | fault (cause : Nat) (va : Word)
  | wait
  deriving DecidableEq, Repr

/-- Bytes of a record read in a context as strong-relaxed loads, 64 at a time; `fuel` bounds the pieces. Such reads record no observation (R131).
    The scheduler's reads are no core's loads and wait for no row (R164). -/
def fetchBytes (s : State) (a : Agent) : Nat → Word → Nat → State × Except FetchErr (List Byte)
  | 0, _, _ => (s, .ok [])
  | k + 1, va, n =>
    if n = 0 then (s, .ok [])
    else
      let here := min n (64 - va.toNat % 64)
      match resolve s a .load none va here 1 with
      | (s, .error c) => (s, .error (.fault c va))
      | (s, .ok g) =>
        if windowBars s g || farBarred s a.ctx g.place here then (s, .error (.fault Cause.access va))
        else if unreachable s g.place then (s, .error (.fault Cause.loadFault va))
        else if a.who.core ≠ 255 && rowWaits s g.place then (s, .error .wait)
        else
          let (s, bs) := readHome s g.place here g.use
          if poisoned s g.place then (s, .error (.fault Cause.loadFault va))
          else
            match fetchBytes s a k (va + BitVec.ofNat 64 here) (n - here) with
            | (s, .ok rest) => (s, .ok (bs ++ rest))
            | (s, .error e) => (s, .error e)

/-- A record of n bytes read in a context. -/
def fetchRecord (s : State) (a : Agent) (va : Word) (n : Nat) : State × Except FetchErr (List Byte) :=
  fetchBytes s a (n / 64 + 2) va n

/-- The field of n bytes at an offset of a record. -/
def fieldAt (r : List Byte) (off n : Nat) : Nat := natOfBytes ((r.drop off).take n)

/-- Bytes of a record from lo up to below hi are all 0. -/
def zeroAt (r : List Byte) (lo hi : Nat) : Bool := ((r.drop lo).take (hi - lo)).all (· == 0)

/-! ### Finding jobs, launches and units -/

/-- The active job with an index. -/
def State.jobOf (s : State) (id : Nat) : Option Job := s.sched.jobs.find? (fun j => j.id == id)

/-- R79: the job's level is complete: its last phase has ended, or it has been cancelled between phases. What is left is to tell of it (R46). -/
def Job.ended (j : Job) : Bool := !j.live && (j.jobCancel || j.phases ≤ j.phase)

/-- The state with a launch replaced. -/
def State.setLaunch (s : State) (l : Launch) : State :=
  { s with sched := { s.sched with launches := s.sched.launches.map (fun x => if x.handle = l.handle then l else x) } }

/-- The state with a job replaced. -/
def State.setJob (s : State) (j : Job) : State :=
  { s with sched := { s.sched with jobs := s.sched.jobs.map (fun x => if x.id = j.id then j else x) } }

/-- The admitted contract with an id (R83). -/
def State.contractOf (s : State) (id : Nat) : Option Contract := s.sched.contracts.find? (fun c => c.id == id)

/-- The state with a contract replaced. -/
def State.setContract (s : State) (c : Contract) : State :=
  { s with sched := { s.sched with contracts := s.sched.contracts.map (fun x => if x.id = c.id then c else x) } }

/-- R69: units of a launch. -/
def Launch.units (l : Launch) : Nat := l.gangs * (l.width + if l.cond then 1 else 0)

/-- Units of one gang. -/
def Launch.perGang (l : Launch) : Nat := l.width + if l.cond then 1 else 0

/-- R70: the unit id in STRAND. -/
def Strand.unitId (t : Strand) : Nat := t.strandId.toNat % 2 ^ 20

/-- JOBTAG of a launch's job. -/
def State.tagOf (s : State) (l : Launch) : Word := ((s.jobOf l.job).map (·.tag)).getD 0

/-! ### Contracts that run (R84, R86, R90, R91) -/

/-- R86: of the running releases of a partition, the one with the earliest deadline, the lower id first. -/
def earliest (s : State) (mask : BitVec 16) : Option Contract :=
  let rel := s.sched.contracts.filter (fun c => c.clusters == mask && c.running.isSome)
  rel.foldl (fun best c =>
    match best with
    | none => some c
    | some b =>
      let d := fun (x : Contract) => (x.running.map (·.deadline)).getD 0
      if d c < d b || (d c == d b && c.id < b.id) then some c else some b) none

/-- R84: partitions, as the masks of the admitted contracts. -/
def partitionOf (s : State) (cluster : Nat) : Option (BitVec 16) :=
  (s.sched.contracts.find? (fun c => c.clusters.getLsbD cluster)).map (·.clusters)

/-- R90: the stacks of a partition: those of every contract of its mask. -/
def partitionStacks (s : State) (mask : BitVec 16) : Byte :=
  (s.sched.contracts.filter (fun c => c.clusters == mask)).foldl (fun b c => b ||| c.stackMask) 0

/-- R86: a contract's release runs in its partition: it has started and no other pre-empts it. -/
def inForce (s : State) (c : Contract) : Bool := (earliest s c.clusters).any (fun e => e.id == c.id)

/-- R90: the stacks closed to commands from outside the releases that run: from its start, those of each release with a bank budget. -/
def closeStacks (s : State) : State :=
  { s with closed := (s.sched.contracts.filter (fun c => c.bankbud > 0 && inForce s c)).foldl (fun b c => b ||| partitionStacks s c.clusters) 0 }

/-- R91: a release's partition time so far. -/
def Release.time (r : Release) (now : Nat) : Nat := r.used + (match r.since with | some t => now - t | none => 0)

/-! ### Launches and phases -/

/-- R69: a refused launch posts LAUNCH_REFUSED. -/
def postRefused (s : State) (src aux : Nat) (tag : Word) : State := postEvent s 5 src aux tag

/-- How a launch parameter block is taken (R69). -/
inductive Taken
  | refused (aux : Nat)
  | empty (handle : Nat)
  | placed (handle : Nat)
  deriving DecidableEq, Repr

/-- R69, R89: the checks of a block read in whole, LAUNCH_RANGE ones. R89 gives its check of a contract's shape no place among R69's: it is
    judged with these, before LAYOUT (DESIGN CHOICE, log 75). The alignment of an entry address is not among them: a unit that starts at
    one that is not aligned takes its first fetch's MISALIGN (R93). -/
def lpbRange (s : State) (r : List Byte) (j : Job) : Bool :=
  let shape := fieldAt r 0x14 2
  let w := shape % 16
  let cond := natBit shape 4
  let u := fieldAt r 0x10 4 * (w + if cond then 1 else 0)
  let scratch := fieldAt r 0x18 4
  let flags := fieldAt r 0x1D 1
  let badShape := match j.contract with
    | none => false
    | some id => (match s.contractOf id with
      | some c => shape ≠ c.shape.toNat || fieldAt r 0x10 4 > c.gangs
      | none => false)
  shape / 32 ≠ 0 || flags / 8 ≠ 0 || !zeroAt r 0x2C 64 || w == 0 || w > 8
    || scratch % 4096 ≠ 0 || scratch > 0x100000
    || fieldAt r 0x1C 1 > 15 || fieldAt r 0x1E 2 ≠ (j.contract.getD 0xFFFF) || (cond == (fieldAt r 0x20 8 == 0)) || u ≥ 2 ^ 20 || badShape

/-- R70: the first handle from one up that no active launch has; `fuel` bounds the search. -/
def freeHandle (s : State) : Nat → Nat → Nat
  | 0, h => h
  | k + 1, h => if (s.launchOf h).isSome then freeHandle s k ((h + 1) % 2 ^ 32) else h

/-- R69: the scheduler takes a block for a node or a device launch of a job. -/
def takeLaunch (s : State) (a : Agent) (j : Job) (node : Option Nat) (lpb : Word) (src : Nat) : State × Taken :=
  let refuse := fun (s : State) (aux : Nat) => (postRefused s src aux j.tag, Taken.refused aux)
  if lpb.toNat % 64 ≠ 0 then refuse s 1
  else
    match fetchRecord s a lpb 64 with
    | (s, .error _) => refuse s 1
    | (s, .ok r) =>
      if lpbRange s r j then refuse s 1
      else if fieldAt r 0x16 2 ≠ s.pkg.layoutGen.toNat then refuse s 2
      else
        let shape := fieldAt r 0x14 2
        let flags := fieldAt r 0x1D 1
        let h := freeHandle s (s.sched.launches.length + 1) s.sched.nextHandle
        let p := fieldAt r 8 8
        let l : Launch :=
          { handle := h, job := j.id, node, entry := BitVec.ofNat 64 (fieldAt r 0 8), param := if p = 0 then j.param else BitVec.ofNat 64 p,
            gangs := fieldAt r 0x10 4, width := shape % 16, cond := natBit shape 4, scratch := fieldAt r 0x18 4, prio := fieldAt r 0x1C 1,
            persist := natBit flags 0, canmode := natBit flags 1, wdscope := natBit flags 2, contract := j.contract,
            centry := BitVec.ofNat 64 (fieldAt r 0x20 8), wdog := fieldAt r 0x28 4, finished := 0, doneUnits := [], triggered := [], bad := false,
            fired := false, cancelled := false, complete := false }
        let s := { s with sched := { s.sched with nextHandle := (h + 1) % 2 ^ 32 } }
        if l.units = 0 then (s, .empty h)
        else
          let waits : List GangWait := (List.range l.gangs).map (fun g => { handle := h, gang := g, fails := 0, due := s.now, back := [], gone := [] })
          ({ s with sched := { s.sched with launches := s.sched.launches ++ [l], gangs := s.sched.gangs ++ waits } }.post 0 .gangPlace, .placed h)

/-- A list with one element replaced. -/
def setNth {α : Type} : List α → Nat → α → List α
  | [], _, _ => []
  | _ :: l, 0, y => y :: l
  | x :: l, i + 1, y => x :: setNth l i y

/-- R64: a node's successors decremented once. -/
def fireNode (j : Job) (i : Nat) : Job :=
  match j.runs[i]? with
  | none => j
  | some r =>
    if r.fired then j
    else
      let succs := ((j.nodes[i]?).map (·.succs)).getD []
      let runs := setNth j.runs i { r with fired := true }
      { j with runs := succs.foldl (fun rs k => match rs[k]? with | some x => setNth rs k { x with pending := x.pending - 1 } | none => rs) runs }

/-- R64: a node ends; DONE fires it. -/
def endNode (j : Job) (i : Nat) (cancelled : Bool) : Job :=
  let j := if cancelled then { j with anyCancelled := true } else fireNode j i
  match j.runs[i]? with
  | none => j
  | some r => { j with runs := setNth j.runs i { r with st := if cancelled then .cancelled else .done } }

/-- R64: some predecessor completed CANCELLED without having fired. -/
def deadPred (j : Job) (i : Nat) : Bool :=
  (List.range i).any (fun p =>
    (match j.runs[p]? with | some r => r.st == .cancelled && !r.fired | none => false)
      && ((((j.nodes[p]?).map (·.succs)).getD []).contains i))

/-- R64: one node, in ascending index: marked CANCELLED, launched when its count is zero, or left. -/
def visitNode (s : State) (job i : Nat) : State :=
  match s.jobOf job with
  | none => s
  | some j =>
    match j.runs[i]? with
    | some r =>
      if r.st ≠ .waiting then s
      else if j.phaseCancel || j.jobCancel || deadPred j i then s.setJob (endNode j i true)
      else if r.pending ≠ 0 then s
      else
        let lpb := ((j.nodes[i]?).map (·.lpb)).getD 0
        let (s, t) := takeLaunch s (schedAgent j.ctx) j (some i) lpb 0xFFFF
        let j := (s.jobOf job).getD j
        (match t with
          | .refused _ => s.setJob (endNode j i true)
          | .empty _ => s.setJob (endNode j i false)
          | .placed _ => s.setJob { j with runs := setNth j.runs i { r with st := .launched } })
    | none => s

/-- R64: every node visited in ascending index; each edge points to a higher one (R63). -/
def advance (s : State) (job : Nat) : State :=
  let n := ((s.jobOf job).map (·.runs.length)).getD 0
  (List.range n).foldl (fun s i => visitNode s job i) s

/-- R91: the partition time of the release in force goes on, once it has been dispatched. It is judged after the cycle in which it reaches C: a
    release whose last unit halts in that cycle is DONE. -/
def runClock (s : State) (c : Contract) (r : Release) : State :=
  if r.since.isSome then s
  else (s.setContract { c with running := some { r with since := some s.now, dispatched := true } }).post (c.budget - min r.used c.budget + 1) (.budgetOverrun c.id)

/-- R86, R91: the release that another had pre-empted is in force again. -/
def resumeRelease (s : State) (mask : BitVec 16) : State :=
  match earliest s mask with
  | none => s
  | some c => (match c.running with
    | some r => if r.dispatched then runClock s c r else s
    | none => s)

/-- R89, R90: the release that drove a phase ends. -/
def endRelease (s : State) (j : Job) : State :=
  match j.contract.bind s.contractOf with
  | none => s
  | some c => (resumeRelease (closeStacks (s.setContract { c with running := none })) c.clusters).post 0 .gangPlace

/-- R61, R64: a phase instantiated: counts set, nodes with NPRED 0 launched. -/
def instantiate (s : State) (job : Nat) : State :=
  match s.jobOf job with
  | none => s
  | some j =>
    let runs := j.nodes.map (fun n => { pending := n.npred, fired := false, st := .waiting : NodeRun })
    advance (s.setJob { j with live := true, runs, phaseCancel := false, devPending := 0 }) job

/-- R64: a phase is complete. -/
def phaseOver (j : Job) : Bool := j.live && j.devPending == 0 && j.runs.all (fun r => r.st == .done || r.st == .cancelled)

/-- R61, R64: while the live phase of a job is complete, PHASE_DONE is posted and the next phase or the
    job's completion follows; `fuel` bounds the phases that end within one step, and JOB_COMPLETE goes on with the rest. -/
def settle : Nat → State → Nat → State
  | 0, s, job => if (s.jobOf job).any phaseOver then s.post 0 (.jobComplete job) else s
  | k + 1, s, job =>
    match s.jobOf job with
    | none => s
    | some j =>
      if !phaseOver j then s
      else
        let s := if j.notifyPhase then postEvent s 2 0xFFFF j.phase j.tag else s
        let s := endRelease s j
        let j := { j with live := false }
        if j.jobCancel || j.phase + 1 ≥ j.phases then (s.setJob { j with phase := j.phases }).post 0 (.jobComplete job)
        else
          let s := s.setJob { j with phase := j.phase + 1 }
          if j.contract.isSome then s else settle k (instantiate s job) job

/-- Phases that end without a running unit within one step. The rest end in later steps. -/
def settleFuel : Nat := 64

/-- R64: nodes advance and the phase is judged. -/
def settleJob (s : State) (job : Nat) : State := settle settleFuel (advance s job) job

/-- R59, R60, R78: a launch completes once its units have finished and its bank commands have ended. -/
def checkLaunch (s : State) (handle : Nat) : State :=
  match s.launchOf handle with
  | none => s
  | some l =>
    if l.finished < l.units || s.cmds.any (fun c => c.handle == handle && c.st != .complete) then s
    else
      let bad := l.bad || l.cancelled
      let s := { s with sched := { s.sched with launches := s.sched.launches.filter (fun x => x.handle != handle) } }
      match s.jobOf l.job with
      | none => s
      | some j =>
        let j := match l.node with
          | some i => endNode (if l.fired then fireNode j i else j) i bad
          | none => { j with devPending := j.devPending - 1, anyCancelled := j.anyCancelled || bad }
        settleJob (s.setJob j) l.job

/-- R66: a launch's trigger fires when every unit has executed TRIGGER or ended DONE. A unit that ended CANCELLED after its TRIGGER has
    executed it. -/
def checkTrigger (s : State) (handle : Nat) : State :=
  match s.launchOf handle with
  | none => s
  | some l =>
    match l.node with
    | none => s
    | some i =>
      if l.fired || l.triggered.isEmpty || (List.range l.units).any (fun u => !l.triggered.contains u && !l.doneUnits.contains u) then s
      else
        let s := s.setLaunch { l with fired := true }
        match s.jobOf l.job with
        | none => s
        | some j => settleJob (s.setJob (fireNode j i)) l.job

/-- R59, R60: a unit of a launch counted as finished. A unit that ends CANCELLED before its TRIGGER
    keeps the trigger from firing (R66). -/
def countUnit (s : State) (handle unit : Nat) (done : Bool) : State :=
  match s.launchOf handle with
  | none => s
  | some l =>
    let l := { l with finished := l.finished + 1, doneUnits := if done then unit :: l.doneUnits else l.doneUnits, bad := l.bad || !done }
    checkLaunch (checkTrigger (s.setLaunch l) handle) handle

/-! ### The end of a unit -/

/-- R218: tiles and banks of a core that a context owns lose their owner. -/
def dropOwned (k : CoreSt) (rec : Nat) : CoreSt :=
  { k with tiles := k.tiles.map (fun t => if t.owner = some rec then { t with owner := none, dirty := false } else t),
           banks := k.banks.map (fun b => if b.owner = some rec then { b with owner := none, dirty := false } else b) }

/-- R143: an agent rejoins: INC advances, its observation buffer clears (with its strand) and its core's
    L1 is invalidated. -/
def rejoin (s : State) (u : SlotRef) : State :=
  let n := agentNumber u
  let s := { s with incs := mapSet s.incs n ((mapGet s.incs n).getD 0 + 1) }
  s.setCore u.core { s.core u.core with l1 := [] }

/-- R218: the context of a record that is freed owns nothing on any core. -/
def forgetOwner (s : State) (rec : Nat) : State := { s with cores := s.cores.map (fun p => (p.1, dropOwned p.2 rec)) }

/-- R193: a record goes back to the pool. -/
def freeRec (s : State) (rec : Option Nat) : State :=
  match rec with
  | none => s
  | some r => forgetOwner { s with sched := { s.sched with records := s.sched.records.filter (fun x => x.addr != r) } } r

/-- R117, R214: an OBJDROP that a unit leaves at the homes goes on to free its descriptor. -/
def dropUntagged (objs : List (Nat × Obj)) (w : Wait) : List (Nat × Obj) :=
  match w with
  | .homes id _ => objs.filter (fun p => !(p.1 == id && p.2.lines.isEmpty))
  | _ => objs

/-- R42, R46: the writes that a unit leaves behind are its job's to make visible before it completes. -/
def leaveWrites (s : State) (t : Strand) : State :=
  match (s.launchOfUnit t).bind (fun l => s.jobOf l.job) with
  | none => s
  | some j => s.setJob { j with visible := t.acks.foldl (fun d a => max d a.due) (max j.visible t.latestAck), hostStores := j.hostStores || t.hostStores }

/-- R124, R143, R193, R386: what a unit held goes: copies, stashes, waits, reservation, record, owner tags. -/
def releaseUnit (s : State) (u : SlotRef) : State :=
  let s := clearCopies (stashUnmapAll (leavePort (settleSectors s u) u) u) u
  let t := s.strand u
  let s := if u.isConductor then s else freeScratch s u.core t.scratchBase t.scratchSize
  let s := leaveWrites (leaveStores s u) t
  let s := freeRec { s with objs := dropUntagged s.objs t.wait } t.record
  runOther (s.setStrand u .reset) u

/-- R353: the status of an epoch with one more cause: the first of the table is kept. -/
def worse (a b : Nat) : Nat := if a = 0 then b else if b = 0 then a else min a b

/-- R353: a participant's unit was cancelled after acceptance: its open epochs end CANCELLED. -/
def leaveEpochs (s : State) (launch : Word) (unit : Nat) : State :=
  { s with epochs := s.epochs.map (fun e =>
      if e.arrivals.length < e.npart ∧ e.arrivals.any (fun a => a.unit.isSome && a.launch == launch && a.unitId == unit) then { e with status := worse e.status 4 } else e) }

/-- R372: at the end of a unit its command slots are freed: a completed command leaves, one in flight leaves when it completes. -/
def freeBankSlots (s : State) (t : Strand) : State :=
  let held := t.bankSlots.toList.filterMap (·.grant)
  { s with cmds := s.cmds.filter (fun c => !(c.st == .complete && held.contains c.grant)) }

/-- R60, R386: a unit ends and is counted; an abnormal end makes its agent rejoin (R143). -/
def endUnit (s : State) (u : SlotRef) (done normal : Bool) : State :=
  let t := s.strand u
  let s := releaseUnit (if done then s else leaveEpochs s t.launch t.unitId) u
  let s := freeBankSlots s t
  let s := if normal then s else rejoin s u
  countUnit (s.post 0 .gangPlace) (t.launch.toNat % 2 ^ 32) t.unitId done

/-! ### Save and restore -/

/-- A save record's address (R193). -/
def recordAddr (s : State) (idx : Nat) : Nat := s.sched.savepool.toNat + idx * 0xD0000

/-- 8-byte words as bytes. -/
def wordsBytes (l : List Word) : List Byte := l.flatMap (fun w => bytesOfNat 8 w.toNat)

/-- R193: tile and bank validity bits as one word of a record. -/
def validWord (r : SaveRec) : Word := BitVec.ofNat 64 (r.bankValid.toNat + 2 ^ 16 * r.tileValid.toNat)

/-- R193, R214: the registers of a record in the order of the table. The pending answer is 0: an answer that the save collects has
    retired with its convoy (`collect`). -/
def recordBytes (t : Strand) (r : SaveRec) : List Byte :=
  wordsBytes t.s.toList ++
  wordsBytes [t.pc, t.vl, t.vtype, t.vstart, t.rstate, t.rsidx, t.seed, t.sbase, t.rmode, t.fflags, t.acnt, t.astat, t.schk, t.strandId, t.gang,
    t.launch, t.wdog, t.status, t.cbgen, t.cbuse, t.trapcause, t.trappc, t.trapval, t.tvec, 0,
    BitVec.ofNat 64 t.latestAck, validWord r, 0, 0, 0, 0, 0]

/-- R193: a stream's 32 bytes: its descriptor and position. The layout within the region is the model's (DESIGN CHOICE, log 14). -/
def streamBytes32 (q : Stream) : List Byte :=
  let bit := fun (b : Bool) (n : Nat) => if b then 2 ^ n else 0
  bytesOfNat 8 q.base.toNat ++ bytesOfNat 8 q.len ++ bytesOfNat 8 q.pos
    ++ bytesOfNat 8 (bit q.active 0 + bit q.blocks 1 + bit q.overEnd 2 + bit q.err 3 + 2 ^ 4 * (q.fmt % 16) + 2 ^ 8 * (q.cause % 256) + 2 ^ 16 * q.blk)

/-- R193, R206: a copy's 48-byte cursor: the loop indices, the offset and the sectors done (DESIGN CHOICE, log 14). -/
def cursorBytes (c : Option Copy) : List Byte :=
  match c with
  | none => bytesOfNat 48 0
  | some x => (List.range 6).flatMap (fun i => bytesOfNat 4 ((x.cursor[i]?).getD 0)) ++ bytesOfNat 8 x.off ++ bytesOfNat 8 x.sect
      ++ bytesOfNat 8 (1 + (if x.st = .parked then 2 else 0) + 2 ^ 8 * (x.slot.getD 0))

/-- R193, R207: a flacon's 8-byte register: base, size, count, head and tail (DESIGN CHOICE, log 14). -/
def flaconBytes (f : Flacon) : List Byte :=
  bytesOfNat 8 (f.base.toNat % 2 ^ 21 + 2 ^ 21 * (f.size % 2 ^ 17) + 2 ^ 38 * (f.slots.length % 2 ^ 7) + 2 ^ 45 * (f.head % 64) + 2 ^ 51 * (f.tail % 64))

/-- R193: the 512 bytes of streams, copy cursors and flacons. -/
def engineBytes (t : Strand) (copies : List (Nat × Copy)) : List Byte :=
  t.streams.toList.flatMap streamBytes32
    ++ (List.range 4).flatMap (fun n => cursorBytes ((copies.find? (fun p => p.1 == n)).map (·.2)))
    ++ t.flacons.toList.flatMap flaconBytes

/-- R16, R123, R193: bytes the part stores at a local device address, where its homes write them and through the L2; none at or above the
    capacity. -/
def putLocal (s : State) (pa : Nat) (bs : List Byte) : State :=
  (piecesOf pa bs.length).foldl (fun s p => if pa + p.1 + p.2 ≤ s.ceil then portWrite s (.device s.modId (pa + p.1)) ((bs.drop p.1).take p.2) .cached else s) s

/-- R17, R18: the lines of a run of local device memory that the part reads for itself and finds in DRAM. The bytes of an uncorrectable line are
    used as they stand: R18 names no outcome for these readers (DESIGN CHOICE, log 56). -/
def readRun (s : State) (pa n : Nat) : State :=
  (((List.range ((pa + n - 1) / 128 + 1 - pa / 128)).map (pa / 128 + ·)).filter (fun l =>
    (setHas s.latent l || setHas s.correctable l) && !s.l2.contains l)).foldl eccRead s

/-- R193: the always-written regions of a record, with the copies of the context. -/
def writeRecord (s : State) (t : Strand) (r : SaveRec) (copies : List (Nat × Copy)) (conductor : Bool) : State :=
  let s := putLocal s r.addr (recordBytes t r)
  if conductor then s
  else
    let s := putLocal s (r.addr + 0x200) (engineBytes t copies)
    let s := (List.range 7).foldl (fun s i => putLocal s (r.addr + 0x400 + 512 * i) (bytesOfNat 512 ((t.k[i + 1]?).getD 0).toNat)) s
    (List.range 32).foldl (fun s i => putLocal s (r.addr + 0x2000 + 256 * i) (bytesOfNat 256 ((t.v[i]?).getD 0).toNat)) s

/-- R217: the registers of a context written back in from its record; what no register holds comes with the context. -/
def readRecord (s : State) (t : Strand) (addr : Nat) (conductor : Bool) : Strand :=
  let w := fun (i : Nat) => BitVec.ofNat 64 (readLocal s (addr + 8 * i) 8)
  let t := { t with
    s := Vector.ofFn (fun i => w i.val), pc := w 32, vl := w 33, vtype := w 34, vstart := w 35, rstate := w 36, rsidx := w 37, seed := w 38,
    sbase := w 39, rmode := w 40, fflags := w 41, acnt := w 42, astat := w 43, schk := w 44, strandId := w 45, gang := w 46, launch := w 47,
    wdog := w 48, status := w 49, cbgen := w 50, cbuse := w 51, trapcause := w 52, trappc := w 53, trapval := w 54, tvec := w 55,
    pending := if (w 49).getLsbD 3 then some ((w 52).toNat, w 54) else none, latestAck := (w 57).toNat }
  if conductor then t
  else
    { t with
      k := Vector.ofFn (fun i => if i.val = 0 then (t.k[0]?).getD 0 else BitVec.ofNat 4096 (readLocal s (addr + 0x200 + 512 * i.val) 512)),
      v := Vector.ofFn (fun i => BitVec.ofNat 2048 (readLocal s (addr + 0x2000 + 256 * i.val) 256)) }

/-- The record at an address in use. -/
def State.saveRec (s : State) (rec : Nat) : Option SaveRec := s.sched.records.find? (fun r => r.addr == rec)

/-- The state with a record's validity bits replaced, in the record too. -/
def State.setRec (s : State) (r : SaveRec) : State :=
  let s := putLocal s (r.addr + 0x1D0) (bytesOfNat 8 (validWord r).toNat)
  { s with sched := { s.sched with records := s.sched.records.map (fun x => if x.addr = r.addr then r else x) } }

/-- The number of 32-bit elements of a row as bytes, row by row. -/
def tileBytes (t : Tile) : List Byte := t.rows.toList.flatMap (fun r => bytesOfNat 512 r.toNat)

/-- R193: where a record holds a tile's rows. -/
def tileAt (r : SaveRec) (n : Nat) : Nat := r.addr + 0x10000 + n * 0x10000

/-- R193: where a record holds a bank's entries. -/
def bankAt (r : SaveRec) (n : Nat) : Nat := r.addr + 0x4000 + n * 0x800

/-- R193: where a record holds a bank's valid bitmap. -/
def flagsAt (r : SaveRec) (n : Nat) : Nat := r.addr + 0x1200 + n * 32

/-- R193, R218: a tile written to a record. -/
def saveTile (s : State) (r : SaveRec) (n : Nat) (t : Tile) : State :=
  (putLocal s (tileAt r n) (tileBytes t)).setRec { r with tileValid := r.tileValid ||| BitVec.twoPow 12 n }

/-- R222: the bytes of a bank as a record holds them, INVAL for each invalid entry. -/
def bankBytes (b : Bank) : List Byte :=
  (List.range 256).flatMap (fun i => bytesOfNat 8 (if b.valid.getLsbD i then (b.entries.extractLsb' (64 * i) 64).toNat else 0x7FFF7FFF7FFF7FFF))

/-- R193, R218, R222: a bank and its valid bitmap written to a record. -/
def saveBank (s : State) (r : SaveRec) (n : Nat) (b : Bank) : State :=
  let s := putLocal s (bankAt r n) (bankBytes b)
  (putLocal s (flagsAt r n) (bytesOfNat 32 b.valid.toNat)).setRec { r with bankValid := r.bankValid ||| BitVec.twoPow 16 n }

/-- R219, R233: one bank at write-out: a dirty one in CBUSE is written, one outside CBUSE comes back all invalid; the core keeps none. -/
def leaveBank (s : State) (core rec : Nat) (cbuse : Word) (n : Nat) : State :=
  match s.saveRec rec with
  | none => s
  | some r =>
    let b := ((s.core core).banks[n]?).getD .reset
    let mine := b.owner = some rec
    let s := if !cbuse.getLsbD n then s.setRec { r with bankValid := r.bankValid &&& ~~~(BitVec.twoPow 16 n) }
      else if mine ∧ b.dirty then saveBank s r n b else s
    let k := s.core core
    if mine then s.setCore core { k with banks := k.banks.setIfInBounds n .reset } else s

/-- R219, R233: the banks of a context at write-out. -/
def saveBanks (s : State) (core rec : Nat) (cbuse : Word) : State := (List.range 16).foldl (fun s n => leaveBank s core rec cbuse n) s

/-- R219: at write-out the clean tiles of a context lose their owner, and the dirty ones are written to its record in the background, 64 cycles
    later: R219 gives no date (DESIGN CHOICE, log 84). -/
def postTiles (s : State) (core rec : Nat) : State :=
  (List.range 12).foldl (fun s n =>
    let k := s.core core
    match k.tiles[n]? with
    | some t =>
      if t.owner = some rec then
        (if t.dirty then s.post 64 (.tileWriteback core n) else s.setCore core { k with tiles := k.tiles.setIfInBounds n .reset })
      else s
    | none => s) s

/-- R214: the instruction's answer is on its way: it is collected, not abandoned. -/
def Wait.settled : Wait → Bool
  | .popDone _ _ | .portDone _ | .homes _ _ => true
  | _ => false

/-- R279: a scalar register; s0 reads as zero. -/
def Strand.reg (t : Strand) (i : Nat) : Word := if i = 0 then 0 else (t.s[i]?).getD 0

/-- R279: a write to s0 is discarded. -/
def Strand.setReg (t : Strand) (i : Nat) (v : Word) : Strand := if i = 0 then t else { t with s := t.s.setIfInBounds i v }

/-- R214, R216: the save collects the answer that an instruction waits for, and its convoy retires with it: PQPOP's entry, LD.F's word, or
    the status of an OBJDECL or OBJDROP that the homes carry out. -/
def collect (s : State) (t : Strand) : Strand :=
  let d := t.asks.1
  let go := fun (t : Strand) => { t with wait := .none, pc := t.pc + BitVec.ofNat 64 t.asks.2, wdCount := s.now }
  match t.wait with
  | .popDone p k => go ((t.setReg d p).setReg (d + 1) (k.setWidth 64))
  | .portDone v => go (t.setReg d (v.setWidth 64))
  | .homes id _ =>
    let tagged := (mapGet s.objs id).any (fun o => !o.lines.isEmpty)
    go (t.setReg d (if tagged then BitVec.ofNat 64 (id * 2 ^ 32) else 0))
  | _ => t

/-- R132, R169: what a strand's save leaves behind: the observations, and acknowledgments that become one time. -/
def forgetful (t : Strand) : Strand :=
  { t with obs := [], astat := if t.obs.isEmpty then t.astat else t.astat ||| 2, latestAck := t.acks.foldl (fun m a => max m a.due) t.latestAck, acks := [] }

/-- R132, R203, R214, R220: a strand leaves its slot: answers are collected and other waits end, observations and buffers are lost,
    acknowledgments become one time, and a fault not yet taken is recorded. -/
def quiesce (s : State) (t : Strand) : Strand :=
  let t := forgetful (collect s (popCredit s t))
  { t with st := .ready, status := if t.pending.isSome then t.status ||| 8 else t.status,
           trapcause := (t.pending.map (fun p => BitVec.ofNat 64 p.1)).getD t.trapcause, trapval := (t.pending.map (·.2)).getD t.trapval,
           streams := t.streams.map (fun q => { q with buf := [], block := [] }), prods := [], stash := [], cv := .idle, wait := .none, captured := [], zeroRead := .none, halted := false,
           wdCount := s.now - t.wdCount }

/-- R81, R218: the dirty tiles of a context written to its record at once. -/
def saveTiles (s : State) (core rec : Nat) : State :=
  (List.range 12).foldl (fun s n =>
    let k := s.core core
    match k.tiles[n]?, s.saveRec rec with
    | some t, some r =>
      if t.owner = some rec ∧ t.dirty = true then
        let s := saveTile s r n t
        s.setCore core { s.core core with tiles := (s.core core).tiles.setIfInBounds n .reset }
      else s
    | _, _ => s) s

/-- R106, R109: what a reservation holds, by offset, for the save. -/
def saveScratch (s : State) (core : Nat) (t : Strand) : List (Nat × Byte) × List Nat × List Nat × List LateSync :=
  let lo := (Place.scratch s.modId core t.scratchBase).loc s.modId
  let inside := fun (x : Nat) => lo ≤ x && x < lo + t.scratchSize
  ((s.mem.filter (fun c => inside c.1)).map (fun c => (c.1 - lo, c.2)), (s.full.filter (fun i => inside (4 * i))).map (fun i => i - lo / 4),
    (s.syncs.filter inside).map (· - lo), (s.lateSyncs.filter (fun x => inside x.loc)).map (fun x => { x with loc := x.loc - lo }))

/-- R193, R206: the copies of a context, those that wait for their number included. -/
def copiesOf (s : State) (u : SlotRef) : List (Nat × Copy) :=
  (List.range 4).filterMap (fun n => match s.copyAt u.core n with
    | some c => if c.owner = u then some (n, c) else none
    | none => none) ++ (s.strand u).waitCopies

/-- R117, R214: the homes go on with an OBJDROP whose unit leaves. -/
def homesGoOn (s : State) (t : Strand) : State :=
  match t.wait with
  | .homes id due => s.post (due - s.now) (.leaseExpiry id)
  | _ => s

/-- R106, R216, R219: the context of a slot is written out to its record and the slot is empty. -/
def writeOut (s : State) (u : SlotRef) : State :=
  let s := stashUnmapAll (leavePort (settleSectors s u) u) u
  let t0 := s.strand u
  match t0.record with
  | none => s
  | some rec =>
    let mine := if u.isConductor then [] else copiesOf s u
    let s := homesGoOn s t0
    let t := { quiesce s t0 with waitCopies := [] }
    let s := if u.isConductor then s else saveBanks s u.core rec t.cbuse
    let s := match s.saveRec rec with
      | some r => writeRecord s t r mine u.isConductor
      | none => s
    let (scratch, full, syncs, late) := saveScratch s u.core t
    let s := clearCopies s u
    let sv : Saved := { record := rec, unit := t, conductor := u.isConductor, core := u.core, copies := mine, scratch, full, syncs, late,
                        due := match t0.wait with
                          | .homes _ due => due
                          | _ => 0 }
    let s := { s with sched := { s.sched with saved := s.sched.saved ++ [sv] } }
    let s := if u.isConductor then s
      else zeroScratch (postTiles (freeScratch s u.core t.scratchBase t.scratchSize) u.core rec) u.core t.scratchBase t.scratchSize
    runOther ((leaveStores s u).setStrand u .reset) u

/-- R204, R206: a saved copy back under its number, or waiting for it while the other slot's context holds it (log 58). -/
def putCopy (s : State) (u : SlotRef) (n : Nat) (c : Copy) : State :=
  let c := { c with owner := u }
  if (s.copyAt u.core n).isNone then
    let s := s.setCopy u.core n (some c)
    if c.st = .parked then s else s.post 1 (.copySectorTranslated u.core n)
  else
    let t := s.strand u
    s.setStrand u { t with waitCopies := t.waitCopies ++ [(n, c)] }

/-- R106, R109: a saved reservation back in the scratchpad of a slot's core. -/
def loadScratch (s : State) (u : SlotRef) (sv : Saved) : State :=
  let core := u.core
  let s := zeroScratch s core sv.unit.scratchBase sv.unit.scratchSize
  let lo := (Place.scratch s.modId core sv.unit.scratchBase).loc s.modId
  let s := { s with mem := sv.scratch.foldl (fun m c => Memory.write m (lo + c.1) c.2) s.mem,
                    full := sv.full.foldl (fun f i => setAdd f (lo / 4 + i)) s.full,
                    syncs := sv.syncs.foldl (fun l w => setAdd l (lo + w)) s.syncs,
                    lateSyncs := s.lateSyncs ++ sv.late.map (fun x => { x with loc := lo + x.loc, read := x.read.map (fun _ => u) }) }
  sv.late.foldl (fun s x => s.post (x.due - s.now) (.copySectorComplete core 0)) s

/-- R151, R154: a context that comes back to a core does not find there copies older than its own writes: the core's leased copies go. -/
def dropLeased (s : State) (core : Nat) : State :=
  let k := s.core core
  s.setCore core { k with l1 := k.l1.filter (fun x => x.expiry.isNone) }

/-- R154, R217: what a STRSET or CPGO found in its unit's reservation is found there again on another core: the bytes of an image of memory from
    one location on stand where they stood from another. -/
def movedImage (mem : List Host.Cell) (src dst size : Nat) : List Host.Cell :=
  if src = dst then mem
  else
    let mine := mem.filter (fun c => src ≤ c.1 && c.1 < src + size)
    mine.foldl (fun m c => Memory.write m (c.1 - src + dst) c.2) (Memory.clear mem dst (dst + size))

/-- R154, R217: an image of memory that a saved unit's engines keep, on the core where the unit goes on. -/
def Saved.image (s : State) (sv : Saved) (core : Nat) (mem : List Host.Cell) : List Host.Cell :=
  let lo := fun (c : Nat) => (Place.scratch s.modId c sv.unit.scratchBase).loc s.modId
  movedImage mem (lo sv.core) (lo core) sv.unit.scratchSize

/-- R191, R214: a unit becomes the running one of its core, beside a ready one. One that has been asked to halt in its convoy and has not begun it
    is halted. -/
def yieldTo (s : State) (u : SlotRef) : State :=
  if u.isConductor then s
  else
    let o : SlotRef := { u with slot := 1 - u.slot }
    let t := s.strand o
    let asked := t.cv.limit.isSome
    if t.st = .running then s.setStrand o { t with st := .ready, halted := asked, cv := if asked then .idle else t.cv } else s

/-- R217: a saved context restored into a slot, where it runs. -/
def restore (s : State) (sv : Saved) (u : SlotRef) : State :=
  let s := { s with sched := { s.sched with saved := s.sched.saved.filter (fun x => x.record != sv.record) } }
  let s := dropLeased (if u.isConductor then s else loadScratch s u sv) u.core
  let s := readRun s sv.record (if sv.conductor then 0x200 else 0x4000)
  let t := readRecord s sv.unit sv.record sv.conductor
  let t := { t with streams := t.streams.map (fun (q : Stream) => if q.active then { q with mem := sv.image s u.core q.mem } else q) }
  let s := yieldTo s u
  let s := { s.setStrand u { t with st := .running, wdCount := s.now - sv.unit.wdCount } with ghosts := s.ghosts.filter (fun p => p.1 != u) }
  let s := sv.copies.foldl (fun s p => putCopy s u p.1 { p.2 with mem := sv.image s u.core p.2.mem }) s
  if t.wdog.toNat ≠ 0 then s.post (t.wdog.toNat - min sv.unit.wdCount t.wdog.toNat) (.watchdogExpiry u) else s

/-- R73: a waiting gang among those of its launch in ascending index. -/
def insertGang : List GangWait → GangWait → List GangWait
  | [], w => [w]
  | x :: l, w => if x.handle = w.handle ∧ w.gang < x.gang then w :: x :: l else x :: insertGang l w

/-- R73: units of a gang have been saved: the gang waits for a place again, with those of it that were saved before. -/
def waitAgain (s : State) (handle gang : Nat) (recs : List Nat) : State :=
  let same := fun (w : GangWait) => w.handle == handle && w.gang == gang
  let gangs := if s.sched.gangs.any same then s.sched.gangs.map (fun w => if same w then { w with back := w.back ++ recs } else w)
    else insertGang s.sched.gangs { handle, gang, fails := 0, due := s.now, back := recs, gone := [] }
  { s with sched := { s.sched with gangs } }

/-- A slot holds a unit of a gang. -/
def ofGang (handle gang : Nat) (t : Strand) : Bool := t.st != .empty && t.launch.toNat % 2 ^ 32 == handle && t.gang.toNat % 2 ^ 20 == gang

/-- R73: a gang displaced: every resident unit of it is saved and the gang waits for a place again. -/
def displace (s : State) (handle gang : Nat) : State :=
  let mine := s.allStrands.filter (fun p => ofGang handle gang p.2)
  if mine.isEmpty then s
  else (waitAgain (mine.foldl (fun s p => writeOut s p.1) s) handle gang (mine.filterMap (fun p => p.2.record))).post 0 .gangPlace

/-! ### Placing gangs -/

/-- The running slot of a core, if any. -/
def runningOn (s : State) (core : Nat) : Option SlotRef :=
  if (s.strand { core, slot := 0 }).st = .running then some { core, slot := 0 }
  else if (s.strand { core, slot := 1 }).st = .running then some { core, slot := 1 }
  else none

/-- R71, R74: a unit may be displaced by a gang of a launch. -/
def displaceable (s : State) (u : SlotRef) (l : Launch) : Bool :=
  match s.launchOfUnit (s.strand u) with
  | none => false
  | some m => m.contract.isNone && (l.contract.isSome || m.prio > l.prio)

/-- R71: a unit of a contracted release is resident on a core. -/
def contractedOn (s : State) (core : Nat) : Bool :=
  (List.range 2).any (fun slot => ((s.launchOfUnit (s.strand { core, slot })).bind (·.contract)).isSome)

/-- R71, R74: the slot a new unit of a launch would take on a core, when the core or conductor is free: that of the running unit, if it can be
    displaced; where none runs an empty slot, or that of a unit that can be displaced. Best-effort work stays off the cores that a release uses. -/
def slotFor (s : State) (core : Nat) (l : Launch) : Option SlotRef :=
  if core ≥ 128 then
    let u : SlotRef := { core, slot := 0 }
    if (s.strand u).st = .empty ∨ displaceable s u l then some u else none
  else if l.contract.isNone && contractedOn s core then none
  else
    match runningOn s core with
    | some u => if displaceable s u l then some u else none
    | none =>
      let slots : List SlotRef := [{ core, slot := 0 }, { core, slot := 1 }]
      match slots.find? (fun u => (s.strand u).st == .empty) with
      | some u => some u
      | none => slots.find? (fun u => displaceable s u l)

/-- R71, R106: the reservations resident on a core, as base and size. -/
def reservations (s : State) (core : Nat) : List (Nat × Nat) :=
  (s.allStrands.filter (fun p => p.1.core == core && p.2.st != .empty && p.2.scratchSize != 0)).map (fun p => (p.2.scratchBase, p.2.scratchSize))

/-- R74: the reservations of a core that a contracted gang finds: those of units it does not displace. -/
def firmReservations (s : State) (core : Nat) (l : Launch) (leaving : SlotRef) (all : Bool) : List (Nat × Nat) :=
  (s.allStrands.filter (fun p => p.1.core == core && p.2.st != .empty && p.2.scratchSize != 0
    && !(displaceable s p.1 l && (all || p.1 == leaving)))).map (fun p => (p.2.scratchBase, p.2.scratchSize))

/-- A range lies apart from every reservation. -/
def roomAt (rs : List (Nat × Nat)) (base size : Nat) : Bool :=
  base + size ≤ 0x200000 && rs.all (fun r => base + size ≤ r.1 || r.1 + r.2 ≤ base)

/-- R70, R106: the base for a new reservation. R70 leaves the placer the choice: the lowest that fits, 0 or the end of another (DESIGN CHOICE,
    log 83). -/
def roomFor (rs : List (Nat × Nat)) (size : Nat) : Option Nat :=
  let cand := 0 :: rs.map (fun r => r.1 + r.2)
  (cand.filter (fun b => roomAt rs b size)).foldl (fun m b => match m with | none => some b | some x => some (min x b)) none

/-- A unit to be placed: its position's saved context, if it returns, or none for a new one. -/
structure Seat where
  pos : Nat
  saved : Option Saved
  deriving DecidableEq, Repr

/-- R70, R73: the core units a gang places, in ascending position, and whether it places a conductor. -/
def seatsOf (s : State) (l : Launch) (w : GangWait) : List Seat × Option Seat :=
  if w.back.isEmpty then
    (((List.range l.width).filter (fun p => !w.gone.contains p)).map (fun p => { pos := p, saved := none }),
      if l.cond && !w.gone.contains l.width then some { pos := l.width, saved := none } else none)
  else
    let mine := s.sched.saved.filter (fun v => w.back.contains v.record)
    let seats := mine.map (fun v => { pos := natBits v.unit.strandId.toNat 23 20, saved := some v : Seat })
    let core := seats.filter (fun x => match x.saved with | some v => !v.conductor | none => true)
    ((List.range 8).flatMap (fun p => core.filter (fun x => x.pos == p)),
      seats.find? (fun x => match x.saved with | some v => v.conductor | none => false))

/-- R71, R106: the base of a seat's reservation beside some others: that of a returning unit is its own. -/
def seatBase (rs : List (Nat × Nat)) (l : Launch) (x : Seat) : Option Nat :=
  match x.saved with
  | some v => if roomAt rs v.unit.scratchBase v.unit.scratchSize then some v.unit.scratchBase else none
  | none => roomFor rs l.scratch

/-- R71, R74: a core takes a seat: the slot and the reservation base. A best-effort gang needs room beside every reservation already
    resident; a contracted one takes the room of the best-effort units it displaces. -/
def seatOn (s : State) (l : Launch) (core : Nat) (x : Seat) : Option (SlotRef × Nat) :=
  match slotFor s core l with
  | none => none
  | some u =>
    if core ≥ 128 then some (u, 0)
    else if l.contract.isNone then (seatBase (reservations s core) l x).map (fun b => (u, b))
    else
      ((seatBase (firmReservations s core l u false) l x).or (seatBase (firmReservations s core l u true) l x)).map (fun b => (u, b))

/-- Pairs every seat with a core from one up; none when one does not fit. -/
def seatRun (s : State) (l : Launch) : Nat → List Seat → Option (List (Seat × SlotRef × Nat))
  | _, [] => some []
  | core, x :: xs =>
    match seatOn s l core x, seatRun s l (core + 1) xs with
    | some (u, b), some rest => some ((x, u, b) :: rest)
    | _, _ => none

/-- R71: the placement in a cluster, at the lowest core that works. -/
def placeIn (s : State) (l : Launch) (seats : List Seat) (cond : Option Seat) (cluster : Nat) : Option (List (Seat × SlotRef × Nat)) :=
  let tail : Option (List (Seat × SlotRef × Nat)) :=
    match cond with
    | none => some []
    | some x => (seatOn s l (128 + cluster) x).map (fun (u, b) => [(x, u, b)])
  match tail with
  | none => none
  | some t => (List.range (9 - seats.length)).findSome? (fun c => (seatRun s l (cluster * 8 + c) seats).map (· ++ t))

/-- R71, R74: the clusters of a die a gang may use, in the order its placer tries them. -/
def clustersOf (s : State) (l : Launch) (die : Nat) : List Nat :=
  let first := match (s.sched.lastCluster[die]?).getD none with
    | some c => (c + 1 - 8 * die) % 8
    | none => 0
  let rot := (List.range 8).map (fun i => 8 * die + (first + i) % 8)
  match l.contract with
  | some id => (match s.contractOf id with
    | some c => rot.filter (fun i => c.clusters.getLsbD i)
    | none => rot)
  | none => rot

/-- R70: a new unit's strand. -/
def newUnit (s : State) (l : Launch) (gang pos base idx : Nat) (cond : Bool) : Strand :=
  let j := s.jobOf l.job
  let phase := (j.map (·.phase)).getD 0
  let ctx := (j.map (·.ctx)).getD 0
  let unit := gang * l.perGang + pos
  let size := if cond then 0 else l.scratch
  let sp := if cond then 0 else 0x00FD000000000000 + base + l.scratch
  let regs := (((((Vector.replicate 32 (0 : Word)).set 1 l.param).set 2 (BitVec.ofNat 64 phase)).set 3 (BitVec.ofNat 64 unit)).set 31 (BitVec.ofNat 64 sp))
  { Strand.reset with
    st := .running, s := regs, pc := if cond then l.centry else l.entry, wdog := BitVec.ofNat 64 l.wdog,
    strandId := BitVec.ofNat 64 (unit + pos * 2 ^ 20), gang := BitVec.ofNat 64 (gang + l.width * 2 ^ 24 + if l.cond then 2 ^ 28 else 0),
    launch := BitVec.ofNat 64 (l.handle + phase * 2 ^ 32), status := if ctx = 0 then 1 else 0, ctx, record := some idx,
    scratchBase := base, scratchSize := size, wdCount := s.now }

/-- R193, R386, R390: the records of the pool that neither a unit nor a bank command in flight holds, the lowest first: a new unit is given the
    first, for R193 does not say which (DESIGN CHOICE, log 83). A record of a pool
    used before keeps the bytes it lies in. One that does not lie whole below the capacity is no record (R16, log 14). -/
def freeRecords (s : State) : List Nat :=
  let used := s.sched.records.map (·.addr) ++ (s.cmds.filter (fun c => c.st != .complete)).filterMap (·.record)
  ((List.range s.sched.savecnt.toNat).map (recordAddr s)).filter (fun a => a + 0xD0000 ≤ s.ceil && !used.any (fun b => a < b + 0xD0000 && b < a + 0xD0000))

/-- R73, R74: the units a placement of a launch displaces from a core: every one of it that may be displaced, in whichever slot, and those whose
    reservation it takes. -/
def victims (s : State) (l : Launch) (u : SlotRef) (base size : Nat) : List (SlotRef × Strand) :=
  s.allStrands.filter (fun p => p.2.st != .empty && (p.1 == u || (p.1.core == u.core && displaceable s p.1 l) || (p.1.core == u.core && !u.isConductor && size != 0 && p.2.scratchSize != 0
    && base < p.2.scratchBase + p.2.scratchSize && p.2.scratchBase < base + size)))

/-- R70, R193: a new unit made resident with a record of its own. -/
def seatNew (s : State) (l : Launch) (gang pos base : Nat) (u : SlotRef) : State :=
  match freeRecords s with
  | [] => s
  | rec :: _ =>
    let s := { s with sched := { s.sched with records := s.sched.records ++ [{ addr := rec, tileValid := 0, bankValid := 0 }] } }
    let t := newUnit s l gang pos base rec u.isConductor
    let s := if u.isConductor then s else zeroScratch s u.core t.scratchBase t.scratchSize
    let s := { s.setStrand u t with ghosts := s.ghosts.filter (fun p => p.1 != u) }
    if l.wdog ≠ 0 then s.post l.wdog (.watchdogExpiry u) else s

/-- R72, R73: one unit made resident; lower-priority work in its place is displaced with its gang. -/
def seatUnit (s : State) (l : Launch) (gang : Nat) (x : Seat × SlotRef × Nat) : State :=
  let (seat, u, base) := x
  let size := match seat.saved with
    | some v => v.unit.scratchSize
    | none => l.scratch
  let s := (victims s l u base size).foldl (fun s p => displace s (p.2.launch.toNat % 2 ^ 32) (p.2.gang.toNat % 2 ^ 20)) s
  match seat.saved with
  | some v => restore s v u
  | none => seatNew (yieldTo s u) l gang seat.pos base u

/-- R193: the pool has a record for each new unit of a placement. -/
def recordsFor (s : State) (n : Nat) : Bool := n ≤ (freeRecords s).length

/-- R216, R217: a saved context may be restored: no object operation of it, no tile write-back, and no write of its record or of its stash lines
    is outstanding. Every write that waits at a home for the host (R38) holds it back, whoever made it (log 31). -/
def recordReady (s : State) (v : Saved) : Bool :=
  v.due ≤ s.now && !s.cores.any (fun p => p.2.tiles.toList.any (fun t => t.owner == some v.record && t.dirty))
    && s.homeWrites.isEmpty

/-- R71, R72, R84: one die's placer tries a gang. A partition's cores that no contracted unit runs on take
    best-effort gangs too. -/
def tryDie (s : State) (l : Launch) (w : GangWait) (die : Nat) : Option State :=
  let (seats, cond) := seatsOf s l w
  if (cond.toList ++ seats).any (fun x => match x.saved with | some v => !recordReady s v | none => false) then none
  else if !recordsFor s (if w.back.isEmpty then l.perGang - w.gone.length else 0) then none
  else
    let fit := (clustersOf s l die).findSome? (fun c => (placeIn s l seats cond c).map (fun p => (c, p)))
    match fit with
    | none => none
    | some (c, p) =>
      let s := p.foldl (fun s x => seatUnit s l w.gang x) s
      some { s with sched := { s.sched with lastCluster := s.sched.lastCluster.setIfInBounds die (some c) } }

/-- R72: the back-off after the k-th consecutive failure. -/
def backOff (k now : Nat) : Nat :=
  let b := min (64 * 2 ^ (k - 1)) 4000
  b - now % 4096 % (b / 2 + 1)

/-- R74, R86: a gang may be offered now: its contract's release is the earliest of its partition. -/
def offered (s : State) (l : Launch) : Bool :=
  match l.contract.bind s.contractOf with
  | none => true
  | some c => (match earliest s c.clusters with | some e => e.id == c.id | none => false)

/-- The waiting gangs without one. -/
def dropGang (s : State) (w : GangWait) : State :=
  { s with sched := { s.sched with gangs := s.sched.gangs.filter (fun x => !(x.handle == w.handle && x.gang == w.gang)) } }

/-- R91: the first dispatch of a release starts its partition time. -/
def dispatchRelease (s : State) (l : Launch) : State :=
  match l.contract.bind s.contractOf with
  | some c => (match c.running with
    | some r => runClock s c r
    | none => s)
  | none => s

/-- R71, R72, R74: one gang offered to the placers: placed, or backed off. A contracted gang, which does not back off, is offered again
    in the next cycle. -/
def offerGang (s : State) (w : GangWait) : State :=
  match s.launchOf w.handle with
  | none => dropGang s w
  | some l =>
    let d := s.sched.nextDie
    let s := { s with sched := { s.sched with nextDie := 1 - d } }
    match (match tryDie s l w d with | some x => some x | none => tryDie s l w (1 - d)) with
    | some x => dispatchRelease (dropGang x w) l
    | none =>
        let k := if l.contract.isSome then 0 else w.fails + 1
        let b := if l.contract.isSome then 1 else backOff k s.now
        let w' := { w with fails := k, due := s.now + b }
        let s := { s with sched := { s.sched with gangs := s.sched.gangs.map (fun (x : GangWait) => if x.handle = w.handle ∧ x.gang = w.gang then w' else x) } }
        s.post b (.placementBackoffExpiry w.handle w.gang)

/-- R73: a gang that waits is whole: none of its units is resident. -/
def wholeGang (s : State) (w : GangWait) : Bool := !s.allStrands.any (fun p => ofGang w.handle w.gang p.2)

/-- The gangs that may be tried now. R71 to R74 give an order within one launch alone: a contracted release's come first, then the others in the
    order in which they began to wait, whatever their PRIO (DESIGN CHOICE, log 76). -/
def dueGangs (s : State) : List GangWait :=
  let ok := s.sched.gangs.filter (fun w => w.due ≤ s.now && wholeGang s w && (match s.launchOf w.handle with | some l => offered s l | none => true))
  let isC := fun (w : GangWait) => match s.launchOf w.handle with | some l => l.contract.isSome | none => false
  ok.filter isC ++ ok.filter (fun w => !isC w)

/-! ### Cancels (R78, R79) -/

/-- R73: a gang's wait without a record whose unit is back in its core, or has ended: the record may be another unit's next. -/
def dropBack (s : State) (r : Nat) : State :=
  let gangs := s.sched.gangs.map (fun w => { w with back := w.back.filter (· != r) })
  let before := s.sched.gangs.filter (fun w => w.back == [r])
  { s with sched := { s.sched with gangs := gangs.filter (fun w => !before.any (fun b => b.handle == w.handle && b.gang == w.gang && w.back.isEmpty)) } }

/-- R73, R78, R372, R353: a saved unit ends CANCELLED, and its gang waits without it. -/
def endSaved (s : State) (v : Saved) (handle : Nat) : State :=
  let s := dropBack s v.record
  let s := freeRec { s with sched := { s.sched with saved := s.sched.saved.filter (fun x => x.record != v.record) } } (some v.record)
  countUnit (freeBankSlots (leaveWrites (leaveEpochs s v.unit.launch v.unit.unitId) v.unit) v.unit) handle v.unit.unitId false

/-- R78: a cancel reaches a resident unit: it acts at the unit's next convoy boundary; a wait is abandoned. -/
def cancelUnitAt (s : State) (u : SlotRef) (terminate : Bool) : State :=
  let t := s.strand u
  if t.cancel = .terminate ∨ (!terminate ∧ (t.cancel ≠ .none ∨ t.cancelTrapTaken)) then s
  else
    let s := if t.wait.settled then s else leavePort s u
    let s := s.setStrand u { s.strand u with cancel := if terminate then .terminate else .trap }
    if t.wait.settled then s else wake s u .none

/-- R78, R79: a cancel reaches one unit of a launch: running, saved, or not yet placed. False when it has finished. -/
def cancelUnit (s : State) (l : Launch) (unit : Nat) : State × Bool :=
  let mine := fun (t : Strand) => t.launch.toNat % 2 ^ 32 == l.handle && t.unitId == unit
  match s.allStrands.find? (fun p => p.2.st != .empty && mine p.2) with
  | some (u, _) => (cancelUnitAt s u l.canmode, true)
  | none =>
    match s.sched.saved.find? (fun v => mine v.unit) with
    | some v =>
      if l.canmode then (endSaved s v l.handle, true)
      else if v.unit.cancel ≠ .none ∨ v.unit.cancelTrapTaken then (s, true)
      else
        ({ s with sched := { s.sched with saved := s.sched.saved.map (fun x => if x.record = v.record then { x with unit := { x.unit with cancel := .trap } } else x) } }, true)
    | none =>
      match s.sched.gangs.find? (fun w => w.handle == l.handle && w.back.isEmpty && w.gang == unit / l.perGang && !w.gone.contains (unit % l.perGang)) with
      | some w =>
        let gone := unit % l.perGang :: w.gone
        let gangs := s.sched.gangs.map (fun x => if x = w then { w with gone } else x)
        let gangs := if gone.length = l.perGang then gangs.filter (fun x => !(x.handle == w.handle && x.gang == w.gang)) else gangs
        (countUnit { s with sched := { s.sched with gangs } } l.handle unit false, true)
      | none => (s, false)

/-- R78: units of a launch that wait for a place end CANCELLED, saved ones as running units do. -/
def cancelGangs (s : State) (l : Launch) (terminate : Bool) : State :=
  let mine := s.sched.gangs.filter (fun w => w.handle == l.handle)
  mine.foldl (fun s w =>
    if w.back.isEmpty then
      let s := dropGang s w
      ((List.range l.perGang).filter (fun p => !w.gone.contains p)).foldl (fun s p => countUnit s l.handle (w.gang * l.perGang + p) false) s
    else if terminate then
      let s := dropGang s w
      (s.sched.saved.filter (fun v => w.back.contains v.record)).foldl (fun s v => endSaved s v l.handle) s
    else
      { s with sched := { s.sched with saved := s.sched.saved.map (fun v => if w.back.contains v.record ∧ v.unit.cancel = .none ∧ !v.unit.cancelTrapTaken then { v with unit := { v.unit with cancel := .trap } } else v) } }) s

/-- R78, R79: a cancel reaches a launch. One already cancelled is left as the first cancel has it, but where a release is stopped (`force`): its
    units are then terminated whatever cancel they have met (R91, log 81). -/
def cancelLaunch (s : State) (handle : Nat) (force : Bool) : State :=
  match s.launchOf handle with
  | none => s
  | some l =>
    if l.cancelled && !force then s
    else
      let term := force || l.canmode
      let s := s.setLaunch { l with cancelled := true }
      let us := (s.allStrands.filter (fun p => p.2.st != .empty && p.2.launch.toNat % 2 ^ 32 == handle)).map (·.1)
      let s := us.foldl (fun s u => cancelUnitAt s u term) s
      checkLaunch (cancelGangs s l term) handle

/-- R78, R91: a cancel reaches the live phase of a job, or its release is stopped (`force`). -/
def cancelPhase (s : State) (job : Nat) (force : Bool) : State :=
  match s.jobOf job with
  | none => s
  | some j =>
    if (j.phaseCancel && !force) || !j.live then s
    else
      let s := s.setJob { j with phaseCancel := true, anyCancelled := true }
      let hs := (s.sched.launches.filter (fun l => l.job == job)).map (·.handle)
      settleJob (hs.foldl (fun s h => cancelLaunch s h force) s) job

/-- R78, R79: a cancel reaches a job; one held behind another of its contract never starts, and one that has ended is left as it is. -/
def cancelJob (s : State) (job : Nat) : State :=
  match s.jobOf job with
  | none =>
    (match s.sched.heldJobs.find? (fun j => j.id == job) with
      | none => s
      | some j =>
        let j := { j with jobCancel := true, anyCancelled := true }
        { s with sched := { s.sched with jobs := s.sched.jobs ++ [j], heldJobs := s.sched.heldJobs.filter (fun x => x.id != job) } }.post 0 (.jobComplete job))
  | some j =>
    if j.jobCancel || j.ended then s
    else
      let s := s.setJob { j with jobCancel := true, anyCancelled := true }
      if j.live then cancelPhase s job false else s.post 0 (.jobComplete job)

/-- R91: a release is stopped, once: every launch of its phase is cancelled as with CANMODE = 1, and OVERRUN posted. -/
def stopRelease (s : State) (id : Nat) : State :=
  match s.contractOf id with
  | none => s
  | some c =>
    match c.running with
    | none => s
    | some r =>
      if r.stopped then s
      else
      let s := s.setContract { c with overruns := c.overruns + 1, running := some { r with stopped := true } }
      match s.sched.jobs.find? (fun j => j.contract == some id && j.live) with
      | none => s
      | some j => cancelPhase (postEvent s 6 id (r.n % 2 ^ 32) j.tag) j.id true

/-- R81, R117, R210: the state of a stopped unit saved to its record with the cause it stopped for, its answers collected and its dirty tiles and
    banks with it. The homes go on with an OBJDROP of it. -/
def saveStopped (s : State) (u : SlotRef) (cause : Nat) (val pc : Word) : State :=
  let s := homesGoOn s (s.strand u)
  let t := forgetful { collect s (s.strand u) with trapcause := BitVec.ofNat 64 cause, trapval := val, trappc := pc }
  let s := { s.setStrand u t with ghosts := (u, { t with st := .trapped }) :: s.ghosts.filter (fun p => p.1 != u) }
  match t.record.bind s.saveRec with
  | some r =>
    let s := if u.isConductor then s else saveTiles (saveBanks s u.core r.addr t.cbuse) u.core r.addr
    writeRecord s t ((s.saveRec r.addr).getD r) (if u.isConductor then [] else copiesOf s u) u.isConductor
  | none => s

/-- R210: a unit stopped: its state is saved, and it ends CANCELLED without a handler. -/
def stopUnit (s : State) (u : SlotRef) (cause : Nat) (val pc : Word) : State := endUnit (saveStopped s u cause val pc) u false false

/-! ### Jobs -/

/-- R63: the reading of a graph: the nodes, BAD_RECORD (1) or FETCH_FAULT (3). -/
def readGraph (s : State) (ctx : Nat) (va : Word) : State × Except Nat (List GraphNode) :=
  let a := schedAgent ctx
  if va.toNat % 64 ≠ 0 then (s, .error 1)
  else
    match fetchRecord s a va 16 with
    | (s, .error _) => (s, .error 3)
    | (s, .ok h) =>
      let n := fieldAt h 0 2
      if n = 0 || n > 256 || !zeroAt h 2 8 then (s, .error 1)
      else
        match fetchRecord s a va (16 + 16 * n) with
        | (s, .error _) => (s, .error 3)
        | (s, .ok r) =>
          let ends := (List.range n).map (fun i => (fieldAt r (0x10 + 16 * i + 10) 2, fieldAt r (0x10 + 16 * i + 12) 4))
          if ends.any (fun p => p.1 > 255) then (s, .error 1)
          else
            -- each node's bytes, laid out so that its SOFF finds them
            let (s, got) := ends.foldl (fun (acc : State × Except Nat (List (List Byte))) p =>
              match acc with
              | (s, .error e) => (s, .error e)
              | (s, .ok l) =>
                if p.1 = 0 then (s, .ok (l ++ [[]]))
                else match fetchRecord s a (BitVec.ofNat 64 (fieldAt h 8 8 + p.2)) p.1 with
                  | (s, .error _) => (s, .error 3)
                  | (s, .ok bs) => (s, .ok (l ++ [bs]))) (s, .ok [])
            match got with
            | .error e => (s, .error e)
            | .ok ls =>
              let nodes := (List.range n).map (fun i =>
                { lpb := BitVec.ofNat 64 (fieldAt r (0x10 + 16 * i) 8), npred := fieldAt r (0x10 + 16 * i + 8) 2,
                  succs := ((ls[i]?).getD []).map (·.toNat) : GraphNode })
              let count := fun (i : Nat) => (nodes.map (fun x => (x.succs.filter (· == i)).length)).foldl (· + ·) 0
              let ok := (nodes.zipIdx).all (fun p => p.1.succs.all (fun k => p.2 < k && k < n) && p.1.npred == count p.2)
              (s, if ok then .ok nodes else .error 1)

/-- R45: the job of a record, without its graph; none for BAD_RECORD. -/
def jobOfRecord (r : List Byte) (id : Nat) : Option Job :=
  let flags := fieldAt r 0x16 2
  let ctx := fieldAt r 0x28 4
  let con := fieldAt r 0x14 2
  if fieldAt r 0x10 4 = 0 || natBit (fieldAt r 0 8) 63 || flags / 4 ≠ 0 || ctx ≥ 65536 || !zeroAt r 0x2C 64 then none
  else some
    { id, tag := BitVec.ofNat 64 (fieldAt r 0 8), nodes := [], phases := fieldAt r 0x10 4, contract := if con = 0xFFFF then none else some con,
      notify := natBit flags 0, notifyPhase := natBit flags 1, param := BitVec.ofNat 64 (fieldAt r 0x18 8),
      doneVa := BitVec.ofNat 64 (fieldAt r 0x20 8), ctx, phase := 0, live := false, runs := [], devPending := 0, phaseCancel := false,
      jobCancel := false, anyCancelled := false, visible := 0, hostStores := false }

/-- R45, R63: a popped job record read and checked: the job, or the refusal's reason and DATA. -/
def readJob (s : State) (ctxh : Nat) (va : Word) : State × Except (Nat × Word) Job :=
  match fetchRecord s (schedAgent ctxh) va 64 with
  | (s, .error _) => (s, .error (3, va))
  | (s, .ok r) =>
    let tag := BitVec.ofNat 64 (fieldAt r 0 8)
    match jobOfRecord r s.sched.nextJob with
    | none => (s, .error (1, tag))
    | some j =>
      if (match j.contract with | some c => (s.contractOf c).isNone | none => false) then (s, .error (2, tag))
      else
        match readGraph s j.ctx (BitVec.ofNat 64 (fieldAt r 8 8)) with
        | (s, .error e) => (s, .error (e, tag))
        | (s, .ok nodes) => ({ s with sched := { s.sched with nextJob := s.sched.nextJob + 1 } }, .ok { j with nodes })

/-- R61: a job taken: phase 0 starts, or the job waits for its contract's release or for the job before it. -/
def startJob (s : State) (j : Job) : State :=
  match j.contract with
  | none => settleJob (instantiate { s with sched := { s.sched with jobs := s.sched.jobs ++ [j] } } j.id) j.id
  | some c =>
    if s.sched.jobs.any (fun x => x.contract == some c) then { s with sched := { s.sched with heldJobs := s.sched.heldJobs ++ [j] } }
    else { s with sched := { s.sched with jobs := s.sched.jobs ++ [j] } }

/-- A number put into an ascending list. -/
def insertAsc : List Nat → Nat → List Nat
  | [], x => [x]
  | y :: l, x => if x ≤ y then x :: y :: l else y :: insertAsc l x

/-- R76: the entries of a queue that a pop may return, in key order of the eighth smallest. -/
def popWindow (q : List PqEntry) : List PqEntry :=
  let keys := (q.map (fun e => e.key.toNat)).foldl insertAsc []
  match keys[7]? with
  | none => q
  | some k => q.filter (fun e => e.key.toNat ≤ k)

/-- R76: one entry popped from a queue; which of the window's is open (log 3). -/
def popEntry (s : State) (q : Nat) : Option (State × PqEntry) :=
  let l := (s.sched.queues[q]?).getD []
  match popWindow l with
  | [] => none
  | [e] => some ({ s with sched := { s.sched with queues := s.sched.queues.setIfInBounds q (l.erase e) } }, e)
  | e :: es =>
    let i := s.freeNat 1 % (es.length + 1)
    let x := ((e :: es)[i]?).getD e
    some ({ s.tick with sched := { s.sched with queues := s.sched.queues.setIfInBounds q (l.erase x) } }, x)

/-- R76: a push into a queue; a waiting pop is served at once. False when the queue is full. -/
def pushEntry (s : State) (q : Nat) (e : PqEntry) : State × Bool :=
  let l := (s.sched.queues[q]?).getD []
  if l.length ≥ 65536 then (s, false)
  else
    match s.popQueue.find? (fun p => p.1 == q) with
    | some (_, u) =>
      (wake { s with popQueue := s.popQueue.filter (fun p => p.2 != u) } u (.popDone e.payload e.key), true)
    | none => ({ s with sched := { s.sched with queues := s.sched.queues.setIfInBounds q (l ++ [e]) } }, true)

end Sys2Proof.Machine
end

