-- ==== Sys2Proof/Machine/Hazard.lean ====
section
/-! DEFINITION. Which scalar registers an instruction reads and writes, the fixed latencies of R198, and the STALL_UNDER check. -/

namespace Sys2Proof.Machine

open Sys2Proof

/-- R299: a configuration request takes the length in s[A]: it is valid and its LM is 0. -/
def takesLength (req : Nat) : Bool := req / 256 == 0 && natBits req 7 6 == 0 && !(10 ≤ req % 16 && req % 16 ≤ 14)

/-- The scalar registers an instruction of a strand reads, by its definition. -/
def scalarReads (t : Strand) (v : View) : List Nat :=
  let a := v.a; let b := v.b; let d := v.d
  match v.major with
  | 0x00 => if Check.usesB 0 v.fn then [a, b] else [a]
  | 0x01 => if v.fn < 6 then [a] else if v.fn = 6 then [a, b] else [a, b, d]
  | 0x09 => []
  | 0x0A => []
  | 0x12 => []
  | 0x14 => if v.fn < 7 then [a, b] else [a, b, d]
  | 0x16 => [a, b]
  | 0x17 => if v.fn = 10 then [a, b, b + 1, d, d + 1] else if v.fn = 9 then [a, b, d] else [a, b]
  | 0x18 => if v.fn < 2 then [a, b] else if v.fn < 4 then [a, d] else [a]
  | 0x19 => if v.fn = 0 then [] else if v.fn = 1 then [a, b] else [a, d]
  | 0x1A => if v.fn < 2 then [a, b] else [a]
  | 0x20 => if v.fn = 1 ∨ v.fn = 5 then [a, b] else [a]
  | 0x21 => [a]
  | 0x22 => if v.fn = 0 then [a] else []
  | 0x23 => if v.fn = 0 then [a, b, d] else if v.fn = 1 then [a] else []
  | 0x24 => if v.fn = 0 then [a, b] else []
  | 0x25 => if v.fn = 1 then [a] else [a, b]
  | 0x26 => [a, b]
  | 0x27 => [a]
  | 0x28 => if Check.opb v = 1 then [b] else []
  | 0x29 => if Check.opb v = 1 then [b] else []
  | 0x2A => if Check.opb v = 1 then [b] else []
  | 0x2B => if v.fn = 1 ∧ Check.opb v = 1 then [b] else []
  | 0x2C => []
  | 0x2D => if 1 ≤ v.fn ∧ v.fn ≤ 3 then [b] else if v.fn = 7 then [a] else if v.fn = 8 then [b] else []
  | 0x2E => []
  | 0x2F =>
    (if takesLength (if v.fn = 1 then v.lit else t.reg b).toNat then [a] else []) ++ (if v.fn = 1 then [] else [b])
  | 0x30 => if v.fn = 3 then [a, b] else if v.fn = 4 ∨ v.fn = 5 then [b] else []
  | 0x31 => if v.fn = 0 then [a] else if v.fn < 3 then [b] else []
  | 0x32 => if v.fn < 2 then [a, b] else if v.fn = 2 then [b] else if v.fn = 3 then [a] else [b]
  | 0x34 => if v.fn < 3 then [a, b, d] else if v.fn = 6 then [a, b] else if v.fn = 5 then [] else [a]
  | 0x3C => if v.fn = 5 ∨ v.fn = 6 ∨ v.fn = 8 ∨ v.fn = 9 then [a] else if v.fn = 7 ∨ v.fn = 10 then [a, b] else []
  | 0x3D => if v.fn = 0 ∨ v.fn = 2 then [a] else if v.fn = 3 then [a, b] else []
  | m => if 0x0C ≤ m ∧ m ≤ 0x11 then [a, b] else [a]

/-- The latency of a fixed-latency producer (R198); none for every other instruction. -/
def fixedLatency (v : View) : Option Nat :=
  if v.major = 0 then
    if (16 ≤ v.fn ∧ v.fn ≤ 18) ∨ v.fn = 28 ∨ v.fn = 29 then some 3
    else if 19 ≤ v.fn ∧ v.fn ≤ 22 then none
    else some 1
  else if v.major ≤ 0x0A ∨ v.major = 0x12 ∨ v.major = 0x13 then some 1
  else none

/-- The scalar registers an instruction writes. -/
def scalarWrites (v : View) : List Nat :=
  let d := v.d
  match v.major with
  | 0x14 => if v.fn < 7 then [d] else []
  | 0x16 => []
  | 0x17 => if v.fn = 10 then [d, d + 1] else [d]
  | 0x18 => if v.fn < 2 then [d] else []
  | 0x19 => if v.fn = 1 then [d] else []
  | 0x1A => if v.fn < 3 then [d] else []
  | 0x22 => if v.fn = 2 then [d] else []
  | 0x23 => if v.fn = 2 then [d] else []
  | 0x24 => [d]
  | 0x25 => if v.fn < 2 then [d] else []
  | 0x2C => if v.fn = 5 ∨ v.fn = 6 then [d] else []
  | 0x2D => if v.fn = 8 then [d] else []
  | 0x2F => [d]
  | 0x31 => if v.fn = 2 then [d] else []
  | 0x32 => if v.fn = 3 ∨ v.fn = 4 then [d] else []
  | 0x34 => if v.fn = 3 ∨ v.fn = 4 ∨ v.fn = 6 then [d] else []
  | 0x3C => if v.fn = 4 ∨ v.fn = 6 ∨ v.fn = 8 ∨ v.fn = 9 then [d] else []
  | 0x3D => if v.fn = 4 then [d, d + 1] else if v.fn = 0 ∨ v.fn = 2 ∨ v.fn = 3 ∨ v.fn = 5 then [d] else []
  | m => if m ≤ 0x0A ∨ m = 0x12 ∨ m = 0x13 ∨ m = 0x15 then [d] else []

/-- R198: what is left of the latency of the producers a convoy reads; the largest is L minus the distance. -/
def stallUnder (prods : List Producer) (reads : List Nat) : Nat :=
  (prods.filter (fun p => reads.contains p.reg && p.reg != 0)).foldl (fun m p => max m p.left) 0

/-- R198: the producers after a convoy of one instruction, or several, has issued. -/
def nextProds (prods : List Producer) (stall : Nat) (writes : List Nat) (mine : Option Producer) : List Producer :=
  let old := (prods.filter (fun p => !writes.contains p.reg)) ++ (match mine with | some p => [p] | none => [])
  (old.map (fun p => { p with left := p.left - (1 + stall) })).filter (fun p => p.left != 0)

/-- R198: the producer an instruction is. -/
def producerOf (v : View) : Option Producer := (fixedLatency v).map (fun l => { reg := v.d, left := l })

end Sys2Proof.Machine
end

