-- ==== Sys2Proof/Machine/Ops.lean ====
section
/-! DEFINITION. Registers, taking an exception and returning from one, how the effect of an instruction becomes a step, and the checks before it (R192, R209 to R213, R249, R263, R270, R279, R301). -/

namespace Sys2Proof

/-- R301, R336, R354: the instruction sets VSTART to 0 when it completes. HISTO, SCALEPICK and the solitary
    vector instructions are not said to. -/
def View.clearsVstart (v : View) : Bool := Check.classOf v.major v.fn == .chainable && !Check.isRowCompanion v.major v.fn

/-- R260: the first word of an instruction, for TRAPVAL.WORD (R270). -/
def View.word0 (v : View) : Word32 :=
  let f := fun (x : Nat) => BitVec.ofNat 5 x
  let hd : BitVec 12 := BitVec.ofNat 6 v.major ++ v.hd.stall ++ BitVec.ofBool v.hd.c ++ BitVec.ofNat 2 v.len
  if Check.isRForm v.major then f v.b ++ f v.a ++ f v.d ++ f v.fn ++ hd
  else if v.major = 6 then (0 : BitVec 2) ++ BitVec.ofNat 2 v.fn ++ v.imm.setWidth 6 ++ f v.a ++ f v.d ++ hd
  else if v.major = 0x0A ∨ v.major = 0x12 then v.off ++ f v.d ++ hd
  else if (0x0C ≤ v.major ∧ v.major ≤ 0x11) ∨ v.major = 0x16 then v.imm ++ f v.b ++ f v.a ++ hd
  else v.imm ++ f v.a ++ f v.d ++ hd

end Sys2Proof

namespace Sys2Proof.Machine

open Sys2Proof

/-- What a meaning answers. -/
abbrev Res := Host.Outcome State Fault Refusal

/-- R301: a mask register; k0 reads as all ones. -/
def Strand.kreg (t : Strand) (i : Nat) : KReg := if i = 0 then BitVec.allOnes 4096 else (t.k[i]?).getD 0

/-- R299: k0 is never written. -/
def Strand.setK (t : Strand) (i : Nat) (v : KReg) : Strand := if i = 0 then t else { t with k := t.k.setIfInBounds i v }

/-- R298: VTYPE's fields. -/
def Strand.vtypeBad (t : Strand) : Bool := t.vtype.getLsbD 8
/-- R298: ET in VTYPE. -/
def Strand.vtypeEt (t : Strand) : Nat := natBits t.vtype.toNat 3 0
/-- R298: LMUL in VTYPE. -/
def Strand.vtypeLmul (t : Strand) : Nat := natBits t.vtype.toNat 5 4

/-- The executing strand with a scalar register written. -/
def State.setReg (s : State) (i : Nat) (v : Word) : State := { s with cur := s.cur.setReg i v }

/-- How an instruction's effect ends. A trap may name the element that becomes VSTART. `retireTrap`
    retires the convoy and then traps (TRAP, R385). -/
inductive Eff
  | ok (s : State)
  | jump (s : State) (target : Word)
  | trap (s : State) (cause : Nat) (val : Word) (elem : Option Nat)
  | retireTrap (s : State) (cause : Nat) (val : Word)
  | wait (s : State) (w : Wait)
  | ends (s : State)
  deriving DecidableEq, Repr

/-- R38, R124: a write-back goes on once the host holds none of the home lines it writes. -/
def writeBackThen (s : State) (held : List Nat) (k : State → Eff) : Eff := if held.isEmpty then k s else .wait (askHost s held) .hardware

/-- R210: taking a trap: the handler is entered, or the unit is stopped. -/
def trapEntry (s : State) (cause : Nat) (val pc : Word) : State :=
  let s := dropPendingStash s s.curRef
  let t := s.cur
  if t.status.getLsbD 2 || t.tvec == 0 then stopUnit s s.curRef cause val pc
  else
    { s with cur := { t with trapcause := BitVec.ofNat 64 cause, trapval := val, trappc := pc, status := t.status ||| 4, pc := t.tvec,
                             cv := .idle, prods := [], captured := [], zeroRead := .none } }

/-- R206, R213: the parked copies of a context go on from their cursors. -/
def resumeCopies (s : State) (u : SlotRef) : State :=
  let k := s.core u.core
  let parked := (List.range 4).filter (fun n => match k.copies[n]? with
    | some (some c) => c.owner == u && c.st == .parked
    | _ => false)
  let copies := k.copies.map (fun c => match c with
    | some x => if x.owner = u ∧ x.st = .parked then some { x with st := .running } else some x
    | none => none)
  let t := s.strand u
  let held := t.waitCopies.map (fun p => if p.2.st = .parked then (p.1, { p.2 with st := .running }) else p)
  parked.foldl (fun s n => s.post 1 (.copySectorTranslated u.core n)) ((s.setCore u.core { k with copies }).setStrand u { t with waitCopies := held })

/-- R213: return from a trap: INTRAP cleared, parked copies resumed, PC := TRAPPC with bits [1:0] cleared (R385). -/
def trapReturn (s : State) : State × Word :=
  let t := s.cur
  let target := t.trappc &&& ~~~(3 : Word)
  let park := t.status.getLsbD 4
  let s := { s with cur := { t with status := t.status &&& ~~~(if park then (0x14 : Word) else 4) } }
  (if park then resumeCopies s s.curRef else s, target)

/-- R303: pops held for a convoy become final at its retirement. -/
def commitPops (t : Strand) : Strand :=
  t.cv.pops.foldl (fun t p => { t with streams := t.streams.setIfInBounds p.1 p.2 }) t

/-- R194, R316, R318, R363: the scalar registers that a convoy's members have results for are written at its retirement. -/
def commitWrites (t : Strand) : Strand := t.cv.writes.foldl (fun t p => t.setReg p.1 p.2) t

/-! ### Groups and elements -/

/-- The bits of n registers from a register up, the first lowest. -/
def readGroup (t : Strand) (r : Nat) : Nat → Nat
  | 0 => 0
  | n + 1 => ((t.v[r]?).getD 0).toNat + (readGroup t (r + 1) n) * 2 ^ 2048

/-- n registers written from a bit string. -/
def writeGroup (t : Strand) (r : Nat) : Nat → Nat → Strand
  | 0, _ => t
  | n + 1, x => writeGroup { t with v := t.v.setIfInBounds r (BitVec.ofNat 2048 x) } (r + 1) n (x / 2 ^ 2048)

/-- Element i of width w of a bit string. -/
def elemOf (g w i : Nat) : Nat := (g >>> (w * i)) % 2 ^ w

/-- A bit string from elements of a width, the first lowest. -/
def packElems (w : Nat) : List Nat → Nat
  | [] => 0
  | x :: xs => x % 2 ^ w + 2 ^ w * packElems w xs

/-- R254, R363: the counts added to the old ones, saturating. -/
def histMerge (old counts : Nat) : Nat :=
  packElems 32 ((List.range 64).map (fun b => min (elemOf old 32 b + elemOf counts 64 b) (2 ^ 32 - 1)))

/-- R363: the histograms that a convoy's members have counted are written at its retirement. -/
def commitCounts (t : Strand) : Strand := t.cv.counts.foldl (fun t p => writeGroup t p.1 1 (histMerge (readGroup t p.1 1) p.2)) t

/-- R197, R249, R301: the convoy of the executing strand retires: SBASE advances, pops commit, VSTART is
    0 after vector work, and the strand goes on at `next`. -/
def retire (s : State) (next : Word) (vec : Bool) (prods : List Producer) : State :=
  let t := commitCounts (commitWrites (commitPops s.cur))
  { s with cur := { t with pc := next, sbase := t.sbase + BitVec.ofNat 64 t.cv.srBase, vstart := if vec then 0 else t.vstart,
                           prods, cv := .idle, wait := .none, captured := [], zeroRead := .none, wdCount := s.now } }

/-- R198: the producers after an instruction that is a convoy of its own. -/
def prodsAfter (t : Strand) (v : View) : List Producer := nextProds t.prods v.hd.stall.toNat (scalarWrites v) (producerOf v)

/-- R194, R316, R318: a member's result for a scalar register, written when its convoy retires. -/
def State.holdReg (s : State) (d : Nat) (x : Word) : State := { s with cur := { s.cur with cv := { s.cur.cv with writes := s.cur.cv.writes ++ [(d, x)] } } }

/-- R214: an instruction that waits leaves word of what its answer would complete. -/
def State.asking (s : State) (v : View) : State := { s with cur := { s.cur with asks := (v.d, v.bytes) } }

/-- The address after an instruction. -/
def nextPc (s : State) (v : View) : Word := s.cur.pc + BitVec.ofNat 64 v.bytes

/-- R136: the accord cells that an access has frozen. -/
def frozenSince (s0 s : State) : List Nat := (s.cells.filter (fun p => p.2.frozen && !(s0.cellAt p.1).frozen)).map (·.1)

/-- R197, R212: a member's trap at an element: it counts below the element at which the convoy stops already. -/
def memberTrap (s0 s : State) (c : Nat) (x : Word) (e : Nat) : State :=
  if s0.cur.cv.limit.any (· ≤ e) then s
  else { s with cur := { s.cur with cv := { s.cur.cv with trap := some (c, x, e), limit := some e, froze := frozenSince s0 s } } }

/-- How an effect becomes a step. Alone in its convoy, an instruction retires, jumps, traps or waits; as a
    member of a longer one it hands its trap or wait to the convoy (R197, R212). -/
def finish (v : View) (s0 : State) (e : Eff) : Res :=
  if s0.cur.cv.multi then
    match e with
    | .ok s => .next s
    | .jump s _ => .next s
    | .trap s c x el => .next (memberTrap s0 s c x (el.getD s0.cur.vstart.toNat))
    | .retireTrap s _ _ => .next s
    | .wait s w => .next { s with cur := { s.cur with wait := w } }
    | .ends s => .next s
  else
    let prods := prodsAfter s0.cur v
    match e with
    | .ok s => .next (retire s (nextPc s0 v) v.clearsVstart prods)
    | .jump s target => .next (retire s target false prods)
    | .trap s c x el =>
      let s := match el with
        | some i => { s with cur := { s.cur with vstart := BitVec.ofNat 64 i } }
        | none => s
      .next (trapEntry s c x s0.cur.pc)
    | .retireTrap s c x => .next (trapEntry (retire s (nextPc s0 v) false prods) c x (nextPc s0 v))
    | .wait s w => .next (if w = .hardware then s.asking v else sleep (s.asking v) s.curRef w)
    | .ends s => .next s

/-- R270: TRAPVAL of an ILLEGAL trap. -/
def illegalVal (reason member : Nat) (word : Word32) : Word :=
  BitVec.ofNat 64 (reason * 2 ^ 36 + member * 2 ^ 32 + word.toNat)

/-- R263, R355: the base forms that run under VTYPE. -/
def baseTyped (v : View) : Bool := !v.ext && Check.isTyped v.major

/-- R355: ACCZ, ACCLD and PWLSET name no element type; VTYPE's LMUL alone is judged for them. -/
def untypedBase (v : View) : Bool := (v.major == 0x30 && (v.fn == 2 || v.fn == 3)) || (v.major == 0x31 && v.fn == 3)

/-- R263, R355: VTYPE holds no valid configuration, or the instruction does not accept its types or grouping. -/
def baseBad (t : Strand) (v : View) : Bool :=
  let majors := v.major == 0x30 || v.major == 0x31
  (majors && t.vtypeLmul != 0)
  || (!untypedBase v && (t.vtypeBad || !Check.typesOk (Check.baseView v t.vtypeEt t.vtypeLmul)))

/-- R192, R263, R270: the reason an instruction traps as ILLEGAL on this agent, if it does. -/
def illegalReason (conductor : Bool) (t : Strand) (v : View) : Option Nat :=
  if !Check.agentRuns conductor v.major then some 9
  else match Check.memberReason v with
    | some r => some r
    | none => if baseTyped v && baseBad t v then some 8 else none

/-- R263: the extended words an instruction runs with. -/
def effective (t : Strand) (v : View) : View := if baseTyped v && !untypedBase v then Check.baseView v t.vtypeEt t.vtypeLmul else v

/-- R198, R270: the checks before an instruction, its effect, and the step they make. -/
def guarded (v0 : Option View) (s : State) (op : View → State → Eff) : Res :=
  match v0 with
  | none => .next s
  | some v =>
    match illegalReason s.curRef.isConductor s.cur v with
    | some r => finish v s (.trap s Cause.illegal (illegalVal r s.cur.cv.member v.word0) none)
    | none =>
      let under := if s.cur.schk.getLsbD 0 && !s.cur.cv.multi then stallUnder s.cur.prods (scalarReads s.cur v) else 0
      if under ≠ 0 then finish v s (.trap s Cause.stallUnder (BitVec.ofNat 64 under) none)
      else finish v s (op (effective s.cur v) s)

/-- A rule that only computes a scalar register from the executing strand. -/
def regOp (f : Strand → View → Word) (v : View) (s : State) : Eff := .ok (s.setReg v.d (f s.cur v))

/-- A word from a truth value. -/
def boolWord (b : Bool) : Word := if b then 1 else 0

/-! ### Control and status registers (R388 to R390) -/

/-- R389: the CSRs of the module, which only a supervisor may access. -/
def csrSupervisor (n : Nat) : Bool := n ≥ 0x800

/-- R223, R232, R389: the value a CSR reads. -/
def csrRead (s : State) (n : Nat) : Word :=
  let t := s.cur
  match n with
  | 0x000 => t.vl
  | 0x001 => t.vtype
  | 0x002 => t.vstart
  | 0x003 => 256
  | 0x004 => t.rstate
  | 0x005 => t.rsidx
  | 0x008 => t.seed
  | 0x009 => t.sbase
  | 0x00A => t.rmode
  | 0x00B => t.fflags
  | 0x010 => t.acnt
  | 0x011 => t.astat
  | 0x012 => t.cbgen
  | 0x013 => t.cbuse
  | 0x018 => t.schk
  | 0x020 => t.strandId
  | 0x021 => t.gang
  | 0x022 => t.launch
  | 0x023 => s.gtime
  | 0x024 => t.wdog
  | 0x028 => t.status
  | 0x029 => t.trapcause
  | 0x02A => t.trappc
  | 0x02B => t.trapval
  | 0x02C => t.tvec
  | 0x800 => s.sched.ctxtab
  | 0x801 => s.sched.objtab
  | 0x802 => s.sched.savepool
  | 0x803 => s.sched.savecnt
  | 0xC00 => 0
  | _ =>
    if 0x30 ≤ n ∧ n ≤ 0x3F then BitVec.ofNat 64 (readLocal s (descAddr s t.ctx + 0x80 + 8 * (n - 0x30)) 8) &&& ncwBits
    else if 0x814 ≤ n ∧ n ≤ 0x82F then (s.sched.pqown[n - 0x810]?).getD 0
    else 0

/-- A value with some of its bits replaced. -/
def maskedWrite (old new : Word) (mask : Word) : Word := (old &&& ~~~mask) ||| (new &&& mask)

/-- R223, R242, R243, R298 to R390: a write of a CSR. Read-only CSRs and fixed fields ignore it. -/
def csrWrite (s : State) (n : Nat) (x : Word) : State :=
  let t := s.cur
  let k := fun (t : Strand) => { s with cur := t }
  match n with
  | 0x002 => k { t with vstart := x }
  | 0x004 => k { t with rstate := x &&& 0xFFFFFFFF }
  | 0x005 => k { t with rsidx := x &&& 0x1FFF }
  | 0x008 => k { t with seed := x }
  | 0x009 => k { t with sbase := x }
  | 0x00A => k { t with rmode := if x &&& 7 = 6 ∨ x &&& 7 = 7 then x &&& 0xF0 else x &&& 0xF7 }
  | 0x00B => k { t with fflags := Flags.writable x }
  | 0x010 => k { t with acnt := x &&& 7 }
  | 0x011 => k { t with astat := x &&& 7 }
  | 0x013 => k { t with cbuse := x &&& 0xFFFFFFFF }
  | 0x018 => k { t with schk := x &&& 1 }
  | 0x028 => k { t with status := maskedWrite t.status x 4 }
  | 0x029 => k { t with trapcause := x &&& 0xFF }
  | 0x02A => k { t with trappc := x }
  | 0x02B => k { t with trapval := x }
  | 0x02C => k { t with tvec := x &&& ~~~(3 : Word) }
  | 0x800 => { s with sched := { s.sched with ctxtab := x &&& ~~~(0xFFFFFF : Word) } }
  | 0x801 => if s.objs.isEmpty then { s with sched := { s.sched with objtab := x &&& ~~~(0xFFFFFF : Word) } } else s
  | 0x802 => { s with sched := { s.sched with savepool := x &&& ~~~(0xFFFFF : Word) } }
  | 0x803 => if x.toNat ≤ 65536 then { s with sched := { s.sched with savecnt := x } } else s
  | _ =>
    if 0x814 ≤ n ∧ n ≤ 0x82F then { s with sched := { s.sched with pqown := s.sched.pqown.setIfInBounds (n - 0x810) (x &&& 0x1FFFF) } }
    else s

end Sys2Proof.Machine
end

