-- ==== Sys2Proof/Machine/MemScalar.lean ====
section
/-! DEFINITION. Scalar loads and stores, atomics, full/empty, fence, sync-word and accord instructions: majors 0x14 to 0x1A (R293 to R295, R322 to R332). -/

namespace Sys2Proof.Machine

open Sys2Proof

/-- The ordering fields of an instruction (R149, R322). -/
def ordOf (v : View) : Ord := { strength := v.w2.strength.toNat, ar := v.w2.ar, scope := v.w2.scope.toNat, cache := v.w2.cache.toNat }

/-- R119, R149, R169: acknowledgments of earlier writes of a strand, which are complete with them at a scope above CORE, are due. -/
def acksPending (s : State) (t : Strand) (scope : Nat) : Bool := scope ≥ 1 && (t.acks.any (fun a => a.due > s.now) || t.latestAck > s.now)

/-- R149, R169: earlier writes of a strand are not yet complete at a scope. -/
def writesPending (s : State) (t : Strand) (scope : Nat) : Bool := acksPending s t scope || (scope == 5 && t.hostStores && s.host.mode == 2)

/-- R42, R149: a release or a fence at SYSTEM scope in the PCIe fallback has not had the answer to its zero-length read. -/
def readPending (s : State) (scope : Nat) : Bool := scope == 5 && s.host.mode == 2 && s.cur.zeroRead != .answered

/-- R28, R42, R106, R149: before a release or a fence performs: a store's error is reported, or it waits for acknowledgments, then for the
    zero-length read that it makes of the host in the fallback, or it goes on. -/
def afterWrites (s : State) (scope : Nat) (k : State → Eff) : Eff :=
  match s.cur.storeErrs with
  | e :: rest => .trap { s with cur := { s.cur with storeErrs := rest } } e.cause e.va none
  | [] =>
    if acksPending s s.cur scope then .wait s .hardware
    else if readPending s scope then .wait { s with cur := { s.cur with zeroRead := .sent } } .hardware
    else k s

/-- R149: an access that is a release waits first. -/
def ordered (o : Ord) (s : State) (k : State → Eff) : Eff := if o.isRelease then afterWrites s o.scope k else k s

/-- R294: one scalar load of n bytes: its value goes to `k`. -/
def loadThen (s : State) (ea : Word) (n : Nat) (o : Ord) (k : State → Nat → Eff) : Eff :=
  match resolve s s.me .load none ea n n with
  | (s, .error c) => .trap s c ea none
  | (s, .ok g) =>
    match loadAt s s.me g n o with
    | (s, .val x) => k s x
    | (s, .fault c) => .trap s c ea none
    | (s, .wait) => .wait s .hardware

/-- R28: the errors of a store made in pieces, reported as one: the first that its pieces met after those kept before. -/
def oneError (s : State) (before : List StoreErr) : State :=
  { s with cur := { s.cur with storeErrs := before ++ (s.cur.storeErrs.drop before.length).take 1 } }

/-- R4: doublewords at rising addresses put together line by line: for each line where they begin, their bytes, and which of them is the
    first. -/
def byLine (own : Nat) : List (Target × List Byte × Nat) → List (Target × List Byte × Nat)
  | [] => []
  | x :: l =>
    match byLine own l with
    | [] => [x]
    | y :: r =>
      if y.1.place = x.1.place.add x.2.1.length ∧ lineOf (y.1.place.loc own) = lineOf (x.1.place.loc own) then (x.1, x.2.1 ++ y.2.1, x.2.2) :: r
      else x :: y :: r

/-- R28, R38: one weak store of several doublewords of plain memory from an address, whose places have been resolved and none of whose lines the
    host holds: its bytes, line by line, then what they bring about at the ports. -/
def storePieces (s : State) (gs : List Target) (vals : List Word) (va : Word) : State × Option Nat :=
  let before := s.cur.storeErrs
  let runs := byLine s.modId ((gs.zip vals).zipIdx.map (fun x => (x.1.1, bytesOfNat 8 x.1.2.toNat, x.2)))
  let (s, r) := runs.foldl (fun (s, r) x =>
    match r with
    | some c => (s, some c)
    | none =>
      match storeGate s s.me x.1 x.2.1.length (va + BitVec.ofNat 64 (8 * x.2.2)) (fun s => storePlain s s.me x.1 x.2.1 .weak) with
      | (s, .fault c) => (s, some c)
      | (s, _) => (s, none)) (s, none)
  (oneError (runs.foldl (fun s x => storedAt s x.1.place x.2.1.length) s) before, r)

/-- R38: some line of a store's pieces is held by the host: BISnpInv is sent for all of them. -/
def piecesHeld (s : State) (gs : List Target) : Option State :=
  match gs.flatMap (fun g => heldLines s (g.place.lines s.modId 8)) with
  | [] => none
  | ls => some (askHost s ls)

/-- R294: one scalar store of n bytes. -/
def storeScalar (s : State) (ea : Word) (n : Nat) (x : Word) (o : Ord) : Eff :=
  match resolve s s.me .store none ea n n with
  | (s, .error c) => .trap s c ea none
  | (s, .ok g) =>
    ordered o s (fun s =>
      match storeAt s s.me g n x ea o with
      | (s, .done) => .ok (storedAt s g.place n)
      | (s, .fault c) => .trap s c ea none
      | (s, .wait) => .wait s .hardware)

/-- R293: the address of MEM. -/
def memAddr (t : Strand) (v : View) : Word := t.reg v.a + t.reg v.b + v.w2.imm16.signExtend 64

/-- R293: a load of n bytes, sign- or zero-extended. -/
def memLoad (n : Nat) (signed : Bool) (v : View) (s : State) : Eff :=
  loadThen s (memAddr s.cur v) n (ordOf v) (fun s x =>
    .ok (s.setReg v.d (if signed then BitVec.ofInt 64 (sextNat (8 * n) x) else BitVec.ofNat 64 x)))

/-- R293: a store of the n low bytes of s[D]. -/
def memStore (n : Nat) (v : View) (s : State) : Eff := storeScalar s (memAddr s.cur v) n (s.cur.reg v.d) (ordOf v)

/-- R293: LDD.I. -/
def loadImm (v : View) (s : State) : Eff :=
  loadThen s (s.cur.reg v.a + (v.imm.signExtend 64 <<< 3)) 8 .weak (fun s x => .ok (s.setReg v.d (BitVec.ofNat 64 x)))

/-- R293: STD.I. -/
def storeImm (v : View) (s : State) : Eff := storeScalar s (s.cur.reg v.a + (v.imm.signExtend 64 <<< 3)) 8 (s.cur.reg v.b) .weak

/-- R323, R325: an AMO or CAS. -/
def amoOp (f : AmoFn) (v : View) (s : State) : Eff :=
  let n := if natBit v.imm16 0 then 4 else 8
  let t := s.cur
  let ea := t.reg v.a
  match resolve s s.me .amo none ea n n with
  | (s, .error c) => .trap s c ea none
  | (s, .ok g) =>
    ordered (ordOf v) s (fun s =>
      match amoAt s s.me g f n (t.reg v.b) (t.reg v.d) with
      | (s, .val x) => .ok ((storedAt s g.place n).setReg v.d (BitVec.ofInt 64 (sextNat (8 * n) x)))
      | (s, .fault c) => .trap s c ea none
      | (s, .wait) => .wait s .hardware)

/-- R324: CAS.Q. -/
def casQOp (v : View) (s : State) : Eff :=
  let t := s.cur
  let ea := t.reg v.a
  let pair := fun (i : Nat) => (t.reg (i + 1)).toNat * 2 ^ 64 + (t.reg i).toNat
  match resolve s s.me .amo none ea 16 16 with
  | (s, .error c) => .trap s c ea none
  | (s, .ok g) =>
    ordered (ordOf v) s (fun s =>
      match casQAt s s.me g (pair v.d) (pair v.b) with
      | (s, .val x) => .ok (((storedAt s g.place 16).setReg v.d (BitVec.ofNat 64 x)).setReg (v.d + 1) (BitVec.ofNat 64 (x / 2 ^ 64)))
      | (s, .fault c o) => .trap s c (ea + BitVec.ofNat 64 o) none
      | (s, .wait) => .wait s .hardware)

/-! ### Full/empty bits and sync words -/

/-- R326: an address in one of the two scratchpad windows that carry full/empty bits. -/
def inScratchWindows (ea : Word) : Bool :=
  let x := ea.toNat
  (0x00FD000000000000 ≤ x && x < 0x00FD000000200000) || (0x00FE000000000000 ≤ x && x < 2 ^ 56)

/-- R149: what goes on behind a release at a scope; with no scope it is no release. -/
def releaseThen (s : State) (scope : Option Nat) (k : State → Eff) : Eff :=
  match scope with
  | some c => afterWrites s c k
  | none => k s

/-- R326, R330: the location of a scratchpad word that an instruction names, with its stash line filled. An access that is a release at a scope
    waits for the strand's earlier writes first. -/
def portThen (s : State) (kind : AccessKind) (ea : Word) (align : Nat) (scope : Option Nat) (k : State → Place → Eff) : Eff :=
  if ea.toNat % align ≠ 0 then .trap s Cause.misalign ea none
  else if !inScratchWindows ea then .trap s Cause.access ea none
  else
    match resolve s s.me kind none ea align align with
    | (s, .error c) => .trap s c ea none
    | (s, .ok g) =>
      releaseThen s scope (fun s =>
        if unreachable s g.place then
          (match kind with
            | .load => .trap s Cause.loadFault ea none
            | _ => .ok (deferErr s s.curRef Cause.storeFault ea))
        else if farBarred s s.cur.ctx g.place align then
          (match kind with
            | .load => .trap s Cause.access ea none
            | _ => .ok (deferErr s s.curRef Cause.access ea))
        else
          match g.place with
          | .scratch m c o =>
            let s := if m = s.modId then stashFill s c o else s
            let s := if m = s.modId && kind != .load then stashDirty s c o align else s
            if kind = .load ∧ poisoned s g.place = true then .trap s Cause.loadFault ea none else k s g.place
          | _ => .trap s Cause.access ea none)

/-- R326: the address of a full/empty instruction. -/
def feAddr (t : Strand) (v : View) : Word := t.reg v.a + v.w2.imm16.signExtend 64

/-- R326, R327: LD.F and LD.FE. -/
def feLoadOp (toEmpty : Bool) (v : View) (s : State) : Eff :=
  let ea := feAddr s.cur v
  match s.cur.wait with
  | .portDone x => .ok (s.setReg v.d (x.setWidth 64))
  | .portDeadline => .trap { s with cur := { s.cur with wait := .none } } Cause.feDeadline ea none
  | _ =>
    portThen s .load ea 4 none (fun s p =>
      let loc := p.loc s.modId
      let deadline := if v.b = 0 then none else some (s.cur.reg v.b).toNat
      match feLoad s s.curRef loc toEmpty deadline ea v.w2.scope.toNat with
      | (s, .val x) => .ok (s.setReg v.d (BitVec.ofNat 64 x))
      | (s, .fault c) => .trap s c ea none
      | (s, .wait) => .wait s (.port loc))

/-- R326, R328: ST.E and ST.F. -/
def feStoreOp (whenEmpty : Bool) (v : View) (s : State) : Eff :=
  let ea := feAddr s.cur v
  let x := (s.cur.reg v.d).setWidth 32
  portThen s .store ea 4 (some v.w2.scope.toNat) (fun s p =>
    let loc := p.loc s.modId
    .ok (if whenEmpty then feStoreEmpty s s.curRef loc x ea v.w2.scope.toNat else feStoreFull s loc x))

/-- R326: FESET and FECLR. -/
def feBitOp (full : Bool) (v : View) (s : State) : Eff :=
  portThen s .store (feAddr s.cur v) 4 none (fun s p => .ok (feBit s (p.loc s.modId) full))

/-- R152, R329: FENCE. The base form is kind 15 at DEVICE scope (3). -/
def fenceOp (v : View) (s : State) : Eff :=
  let kind := if v.ext then v.imm16 % 16 else 15
  let scope := if v.ext then v.w2.scope.toNat else 3
  if kind / 4 = 0 then .ok s else afterWrites s scope .ok

/-- R330: WAITG. -/
def waitGenOp (v : View) (s : State) : Eff :=
  portThen s .load (feAddr s.cur v) 16 none (fun s p =>
    let loc := p.loc s.modId
    let gen := natOfBytes (Memory.readBytes s.mem (loc + 8) 4)
    if gen ≠ (s.cur.reg v.b).toNat % 2 ^ 32 then .ok (s.setReg v.d (BitVec.ofNat 64 gen))
    else .wait (nameSync s loc) (.gen loc))

/-- R331: SYNCW. -/
def syncOp (v : View) (s : State) : Eff :=
  let x := s.cur.reg v.d
  portThen s .store (feAddr s.cur v) 16 none (fun s p => let loc := p.loc s.modId; .ok (syncArm (nameSync s loc) loc x))

/-! ### Accord instructions (R332) -/

/-- R332: BLEND and BLEND.C. Behind a down port and on a poisoned line it takes a precise LOAD_FAULT, as R18 and R28 have it for the AMOs: they
    name no outcome for it (DESIGN CHOICE, log 74). -/
def blendOp (cond : Bool) (v : View) (s : State) : Eff :=
  let ea := s.cur.reg v.a
  let x := s.cur.reg v.b
  match resolve s s.me .store none ea 8 8 with
  | (s, .error c) => .trap s c ea none
  | (s, .ok g) =>
    ordered (ordOf v) s (fun s =>
      match s.accordAt g.place with
      | none => .trap s Cause.access ea none
      | some (pa, _) =>
        if g.window then .trap s Cause.access ea none
        else
          match atomicMeets s s.me g 8 with
          | (s, some (.fault c)) => .trap s c ea none
          | (s, some _) => .wait s .hardware
          | (s, none) =>
            let t := s.cur
            let (c, r) := accordBlend (s.cellAt pa) (v.imm16 % 16) x (agentBits s (agentNumber s.curRef)) cond (obsDots t.obs pa)
            match r with
            | .error e => .trap { s with cells := if c.frozen then mapSet s.cells pa c else s.cells } e ea none
            | .ok (y, some d) =>
              let s := setCell s pa c
              .ok ({ s with cur := s.cur.observe pa [d] }.setReg v.d y)
            | .ok (y, none) => .ok (s.setReg v.d y))

/-- R332: LDC.A. -/
def loadCount (v : View) (s : State) : Eff :=
  let ea := s.cur.reg v.a
  match resolve s s.me .load none ea 8 8 with
  | (s, .error c) => .trap s c ea none
  | (s, .ok g) =>
    let n := match s.accordAt g.place with
      | some (pa, _) => (s.cellAt pa).sibs.length
      | none => 0
    match loadAt s s.me g 8 (ordOf v) with
    | (s, .val x) => .ok ({ s with cur := { s.cur with acnt := BitVec.ofNat 64 n } }.setReg v.d (BitVec.ofNat 64 x))
    | (s, .fault c) => .trap s c ea none
    | (s, .wait) => .wait s .hardware

/-- R132, R332: OBSCLR. -/
def obsClear (v : View) (s : State) : Eff :=
  let lost := fun (t : Strand) => { t with astat := t.astat ||| 2 }
  if v.a = 0 then
    .ok (if s.cur.obs.isEmpty then s else { s with cur := lost { s.cur with obs := [] } })
  else
    let ea := s.cur.reg v.a
    match resolve s s.me .load none ea 8 8 with
    | (s, .error c) => .trap s c ea none
    | (s, .ok g) =>
      match s.accordAt g.place with
      | none => .ok s
      | some (pa, _) =>
        if (obsDots s.cur.obs pa).isEmpty then .ok s
        else .ok { s with cur := lost { s.cur with obs := s.cur.obs.filter (fun e => e.cell != pa) } }

/-- LD_B (R293): load a sign-extended byte, weak. -/
def execLdB (r : RF) (s : State) : Res := guarded (some (r.view 20 0)) s (memLoad 1 true)

/-- LD_B_X (R295): extended LD.B with displacement, strength, scope and cache hint. -/
def execLdBX (x : XF) (s : State) : Res := guarded (some (x.view 20 0)) s (memLoad 1 true)

/-- ST_B (R293): store a byte, sent at retirement. -/
def execStB (r : RF) (s : State) : Res := guarded (some (r.view 20 7)) s (memStore 1)

/-- ST_B_X (R295): extended ST.B. -/
def execStBX (x : XF) (s : State) : Res := guarded (some (x.view 20 7)) s (memStore 1)

/-- LDU_B (R293): load a zero-extended byte. -/
def execLduB (r : RF) (s : State) : Res := guarded (some (r.view 20 4)) s (memLoad 1 false)

/-- LDU_B_X (R295): extended LDU.B. -/
def execLduBX (x : XF) (s : State) : Res := guarded (some (x.view 20 4)) s (memLoad 1 false)

/-- LD_H (R293): load a sign-extended halfword. -/
def execLdH (r : RF) (s : State) : Res := guarded (some (r.view 20 1)) s (memLoad 2 true)

/-- LD_H_X (R295): extended LD.H. -/
def execLdHX (x : XF) (s : State) : Res := guarded (some (x.view 20 1)) s (memLoad 2 true)

/-- ST_H (R293): store a halfword. -/
def execStH (r : RF) (s : State) : Res := guarded (some (r.view 20 8)) s (memStore 2)

/-- ST_H_X (R295): extended ST.H. -/
def execStHX (x : XF) (s : State) : Res := guarded (some (x.view 20 8)) s (memStore 2)

/-- LDU_H (R293): load a zero-extended halfword. -/
def execLduH (r : RF) (s : State) : Res := guarded (some (r.view 20 5)) s (memLoad 2 false)

/-- LDU_H_X (R295): extended LDU.H. -/
def execLduHX (x : XF) (s : State) : Res := guarded (some (x.view 20 5)) s (memLoad 2 false)

/-- LD_W (R293): load a sign-extended word. -/
def execLdW (r : RF) (s : State) : Res := guarded (some (r.view 20 2)) s (memLoad 4 true)

/-- LD_W_X (R295): extended LD.W. -/
def execLdWX (x : XF) (s : State) : Res := guarded (some (x.view 20 2)) s (memLoad 4 true)

/-- ST_W (R293): store a word. -/
def execStW (r : RF) (s : State) : Res := guarded (some (r.view 20 9)) s (memStore 4)

/-- ST_W_X (R295): extended ST.W. -/
def execStWX (x : XF) (s : State) : Res := guarded (some (x.view 20 9)) s (memStore 4)

/-- LDU_W (R293): load a zero-extended word. -/
def execLduW (r : RF) (s : State) : Res := guarded (some (r.view 20 6)) s (memLoad 4 false)

/-- LDU_W_X (R295): extended LDU.W. -/
def execLduWX (x : XF) (s : State) : Res := guarded (some (x.view 20 6)) s (memLoad 4 false)

/-- LD_D (R293): load a doubleword. -/
def execLdD (r : RF) (s : State) : Res := guarded (some (r.view 20 3)) s (memLoad 8 true)

/-- LD_D_X (R295): extended LD.D, including acquire and strong-relaxed loads. -/
def execLdDX (x : XF) (s : State) : Res := guarded (some (x.view 20 3)) s (memLoad 8 true)

/-- ST_D (R293): store a doubleword; an accord store retires on the home's answer. -/
def execStD (r : RF) (s : State) : Res := guarded (some (r.view 20 10)) s (memStore 8)

/-- ST_D_X (R295): extended ST.D, including release stores. -/
def execStDX (x : XF) (s : State) : Res := guarded (some (x.view 20 10)) s (memStore 8)

/-- LDD_I (R293): load a doubleword at s[A] + imm × 8. -/
def execLddI (i : IF) (s : State) : Res := guarded (some (i.view 21)) s loadImm

/-- STD_I (R293): store s[B] at s[A] + off × 8. -/
def execStdI (b : BF) (s : State) : Res := guarded (some (b.view 22)) s storeImm

/-- AMOADD (R323): atomic add at the home, returning the old value (8-byte base form). -/
def execAmoadd (r : RF) (s : State) : Res := guarded (some (r.view 23 0)) s (amoOp .add)

/-- AMOADD_X (R323): extended AMOADD with width and strength. -/
def execAmoaddX (x : XF) (s : State) : Res := guarded (some (x.view 23 0)) s (amoOp .add)

/-- AMOAND (R323): atomic and. -/
def execAmoand (r : RF) (s : State) : Res := guarded (some (r.view 23 1)) s (amoOp .and)

/-- AMOAND_X (R323): extended AMOAND. -/
def execAmoandX (x : XF) (s : State) : Res := guarded (some (x.view 23 1)) s (amoOp .and)

/-- AMOOR (R323): atomic or. -/
def execAmoor (r : RF) (s : State) : Res := guarded (some (r.view 23 2)) s (amoOp .or)

/-- AMOOR_X (R323): extended AMOOR. -/
def execAmoorX (x : XF) (s : State) : Res := guarded (some (x.view 23 2)) s (amoOp .or)

/-- AMOXOR (R323): atomic exclusive or. -/
def execAmoxor (r : RF) (s : State) : Res := guarded (some (r.view 23 3)) s (amoOp .xor)

/-- AMOXOR_X (R323): extended AMOXOR. -/
def execAmoxorX (x : XF) (s : State) : Res := guarded (some (x.view 23 3)) s (amoOp .xor)

/-- AMOMIN (R323): atomic signed minimum. -/
def execAmomin (r : RF) (s : State) : Res := guarded (some (r.view 23 4)) s (amoOp .min)

/-- AMOMIN_X (R323): extended AMOMIN. -/
def execAmominX (x : XF) (s : State) : Res := guarded (some (x.view 23 4)) s (amoOp .min)

/-- AMOMAX (R323): atomic signed maximum. -/
def execAmomax (r : RF) (s : State) : Res := guarded (some (r.view 23 5)) s (amoOp .max)

/-- AMOMAX_X (R323): extended AMOMAX. -/
def execAmomaxX (x : XF) (s : State) : Res := guarded (some (x.view 23 5)) s (amoOp .max)

/-- AMOMINU (R323): atomic unsigned minimum. -/
def execAmominu (r : RF) (s : State) : Res := guarded (some (r.view 23 6)) s (amoOp .minu)

/-- AMOMINU_X (R323): extended AMOMINU. -/
def execAmominuX (x : XF) (s : State) : Res := guarded (some (x.view 23 6)) s (amoOp .minu)

/-- AMOMAXU (R323): atomic unsigned maximum. -/
def execAmomaxu (r : RF) (s : State) : Res := guarded (some (r.view 23 7)) s (amoOp .maxu)

/-- AMOMAXU_X (R323): extended AMOMAXU. -/
def execAmomaxuX (x : XF) (s : State) : Res := guarded (some (x.view 23 7)) s (amoOp .maxu)

/-- AMOSWAP (R323): atomic swap. -/
def execAmoswap (r : RF) (s : State) : Res := guarded (some (r.view 23 8)) s (amoOp .swap)

/-- AMOSWAP_X (R323): extended AMOSWAP. -/
def execAmoswapX (x : XF) (s : State) : Res := guarded (some (x.view 23 8)) s (amoOp .swap)

/-- CAS (R323): compare and swap; a failed compare writes nothing. -/
def execCas (r : RF) (s : State) : Res := guarded (some (r.view 23 9)) s (amoOp .cas)

/-- CAS_X (R323): extended CAS. -/
def execCasX (x : XF) (s : State) : Res := guarded (some (x.view 23 9)) s (amoOp .cas)

/-- CAS_Q (R324): 16-byte compare and swap on register pairs. -/
def execCasQ (r : RF) (s : State) : Res := guarded (some (r.view 23 10)) s casQOp

/-- CAS_Q_X (R324): extended CAS.Q, including acquire-release at SYSTEM scope. -/
def execCasQX (x : XF) (s : State) : Res := guarded (some (x.view 23 10)) s casQOp

/-- LD_F (R326): wait for full, then load the word; an acquire. -/
def execLdF (r : RF) (s : State) : Res := guarded (some (r.view 24 0)) s (feLoadOp false)

/-- LD_F_X (R326): extended LD.F with displacement and scope. -/
def execLdFX (x : XF) (s : State) : Res := guarded (some (x.view 24 0)) s (feLoadOp false)

/-- LD_FE (R326): wait for full, load the word and set it empty. -/
def execLdFe (r : RF) (s : State) : Res := guarded (some (r.view 24 1)) s (feLoadOp true)

/-- LD_FE_X (R326): extended LD.FE. -/
def execLdFeX (x : XF) (s : State) : Res := guarded (some (x.view 24 1)) s (feLoadOp true)

/-- ST_E (R328): wait for empty, store and set full; a release. -/
def execStE (r : RF) (s : State) : Res := guarded (some (r.view 24 2)) s (feStoreOp true)

/-- ST_E_X (R328): extended ST.E. -/
def execStEX (x : XF) (s : State) : Res := guarded (some (x.view 24 2)) s (feStoreOp true)

/-- ST_F (R326): store and set full. -/
def execStF (r : RF) (s : State) : Res := guarded (some (r.view 24 3)) s (feStoreOp false)

/-- ST_F_X (R326): extended ST.F. -/
def execStFX (x : XF) (s : State) : Res := guarded (some (x.view 24 3)) s (feStoreOp false)

/-- FESET (R326): set the word's bit full. -/
def execFeset (r : RF) (s : State) : Res := guarded (some (r.view 24 4)) s (feBitOp true)

/-- FESET_X (R326): extended FESET. -/
def execFesetX (x : XF) (s : State) : Res := guarded (some (x.view 24 4)) s (feBitOp true)

/-- FECLR (R326): set the word's bit empty. -/
def execFeclr (r : RF) (s : State) : Res := guarded (some (r.view 24 5)) s (feBitOp false)

/-- FECLR_X (R326): extended FECLR. -/
def execFeclrX (x : XF) (s : State) : Res := guarded (some (x.view 24 5)) s (feBitOp false)

/-- FENCE (R329): base fence: kind 15 at DEVICE scope. -/
def execFence (r : RF) (s : State) : Res := guarded (some (r.view 25 0)) s fenceOp

/-- FENCE_X (R329): fence with its kind and scope. -/
def execFenceX (x : XF) (s : State) : Res := guarded (some (x.view 25 0)) s fenceOp

/-- WAITG (R330): wait until a sync word's GEN differs from s[B]. -/
def execWaitg (r : RF) (s : State) : Res := guarded (some (r.view 25 1)) s waitGenOp

/-- WAITG_X (R330): extended WAITG with displacement. -/
def execWaitgX (x : XF) (s : State) : Res := guarded (some (x.view 25 1)) s waitGenOp

/-- SYNCW (R331): rearm a sync word's TARGET and CTL, and zero COUNT. -/
def execSyncw (r : RF) (s : State) : Res := guarded (some (r.view 25 2)) s syncOp

/-- SYNCW_X (R331): extended SYNCW. -/
def execSyncwX (x : XF) (s : State) : Res := guarded (some (x.view 25 2)) s syncOp

/-- BLEND (R332): fold every sibling of an accord cell (base form: SUM). -/
def execBlend (r : RF) (s : State) : Res := guarded (some (r.view 26 0)) s (blendOp false)

/-- BLEND_X (R332): BLEND with OPER and strength. -/
def execBlendX (x : XF) (s : State) : Res := guarded (some (x.view 26 0)) s (blendOp false)

/-- BLEND_C (R332): fold only the observed siblings. -/
def execBlendC (r : RF) (s : State) : Res := guarded (some (r.view 26 1)) s (blendOp true)

/-- BLEND_C_X (R332): extended BLEND.C. -/
def execBlendCX (x : XF) (s : State) : Res := guarded (some (x.view 26 1)) s (blendOp true)

/-- LDC_A (R332): load the primary sibling and its count into ACNT. -/
def execLdcA (r : RF) (s : State) : Res := guarded (some (r.view 26 2)) s loadCount

/-- LDC_A_X (R332): extended LDC.A. -/
def execLdcAX (x : XF) (s : State) : Res := guarded (some (x.view 26 2)) s loadCount

/-- OBSCLR (R332): clear the observation buffer, or one cell's entry. -/
def execObsclr (r : RF) (s : State) : Res := guarded (some (r.view 26 3)) s obsClear

/-- OBSCLR_X (R332): extended OBSCLR. -/
def execObsclrX (x : XF) (s : State) : Res := guarded (some (x.view 26 3)) s obsClear

end Sys2Proof.Machine
end

