-- ==== Sys2Proof/Machine/Operands.lean ====
section
/-! DEFINITION. Vector operands: register groups, masks and lengths, stream pops, codebook expansion, lazy tiles and banks, and the element loop (R188 to R190, R218, R224 to R230, R242, R248, R249, R269, R301 to R305, R341). -/

namespace Sys2Proof.Machine

open Sys2Proof

/-- The bit string with element i of width w replaced. -/
def setElem (g w i x : Nat) : Nat := g ^^^ ((elemOf g w i ^^^ (x % 2 ^ w)) <<< (w * i))

/-- R301: the mask an instruction's KM and KN select. -/
def maskOf (t : Strand) (v : View) : Nat :=
  let km := v.w1.km.toNat
  if km = 0 then 2 ^ 4096 - 1
  else
    let k := (t.kreg km).toNat
    if v.w1.kn then (2 ^ 4096 - 1) ^^^ k else k

/-- R302: VL cut to the instruction's own VLMAX. -/
def vlOf (t : Strand) (v : View) : Nat := min t.vl.toNat (Check.vlmax v)

/-- R301: VSTART as a number. -/
def startOf (t : Strand) : Nat := t.vstart.toNat

/-- R212: the elements a member may begin: below VL, and below the element a convoy stops at. -/
def endOf (t : Strand) (vl : Nat) : Nat := match t.cv.limit with | some e => min vl e | none => vl

/-- R243, R245: the rounding mode in effect. -/
def rmOf (t : Strand) (v : View) : Nat := if v.w2.rm = 6 then natBits t.rmode.toNat 2 0 else v.w2.rm.toNat

/-- R248: the random bits of element e. -/
def srBits (t : Strand) (e : Nat) : Nat := kwbits t.seed.toNat t.sbase.toNat t.cv.srBase e

/-- R249: a member that rounds with SR advances the convoy's base. -/
def srAdvance (t : Strand) (rm n : Nat) : Strand := if rm = 5 then { t with cv := { t.cv with srBase := t.cv.srBase + n } } else t

/-! ### Lazy tiles and banks (R218) -/

/-- CBUSE of the context that owns a record: resident or saved. -/
def cbuseOf (s : State) (rec : Nat) : Word :=
  match s.allStrands.find? (fun p => p.2.st != .empty && p.2.record == some rec) with
  | some p => p.2.cbuse
  | none => (match s.sched.saved.find? (fun v => v.record == rec) with
    | some v => v.unit.cbuse
    | none => 0)

/-- R218, R234: a codebook bank touched by the executing context. A bank outside its owner's USE comes back to it with every entry invalid. -/
def touchBank (s : State) (n : Nat) : State :=
  let c := s.curRef.core
  let b := ((s.core c).banks[n]?).getD .reset
  let me := s.cur.record
  if b.owner = me then s
  else
    let s := match b.owner with
      | some o =>
        (match s.saveRec o with
          | some r => if !(cbuseOf s o).getLsbD n then s.setRec { r with bankValid := r.bankValid &&& ~~~(BitVec.twoPow 16 n) } else if b.dirty then saveBank s r n b else s
          | none => s)
      | none => s
    let b' : Bank := match me.bind s.saveRec with
      | some r =>
        if r.bankValid.getLsbD n then
          { entries := BitVec.ofNat 16384 (readLocal s (bankAt r n) 2048), valid := BitVec.ofNat 256 (readLocal s (flagsAt r n) 32), owner := me, dirty := false }
        else { Bank.reset with owner := me }
      | none => { Bank.reset with owner := me }
    let s := match me.bind s.saveRec with
      | some r => if r.bankValid.getLsbD n then readRun (readRun s (bankAt r n) 2048) (flagsAt r n) 32 else s
      | none => s
    let k := s.core c
    s.setCore c { k with banks := k.banks.setIfInBounds n b' }

/-- Rows of a tile read from a record, from a row up. -/
def tileRows (s : State) (addr : Nat) : Vector (BitVec 4096) 128 := Vector.ofFn (fun i => BitVec.ofNat 4096 (readLocal s (addr + 512 * i.val) 512))

/-- R218: a tile touched by the executing context. -/
def touchTile (s : State) (n : Nat) : State :=
  let c := s.curRef.core
  let x := ((s.core c).tiles[n]?).getD .reset
  let me := s.cur.record
  if x.owner = me then s
  else
    let s := match x.owner.bind s.saveRec with
      | some r => if x.dirty then saveTile s r n x else s
      | none => s
    let x' : Tile := match me.bind s.saveRec with
      | some r => if r.tileValid.getLsbD n then { rows := tileRows s (tileAt r n), owner := me, dirty := false } else { Tile.reset with owner := me }
      | none => { Tile.reset with owner := me }
    let s := match me.bind s.saveRec with
      | some r => if r.tileValid.getLsbD n then readRun s (tileAt r n) 0x10000 else s
      | none => s
    let k := s.core c
    s.setCore c { k with tiles := k.tiles.setIfInBounds n x' }

/-- The bank of the executing core, after a touch. -/
def State.bank (s : State) (n : Nat) : Bank := ((s.core s.curRef.core).banks[n]?).getD .reset

/-- R218, R233: a bank of the executing core written, and dirty. -/
def State.setBank (s : State) (n : Nat) (b : Bank) : State :=
  let k := s.core s.curRef.core
  s.setCore s.curRef.core { k with banks := k.banks.setIfInBounds n { b with dirty := true } }

/-- The tile of the executing core, after a touch. -/
def State.tile (s : State) (n : Nat) : Tile := ((s.core s.curRef.core).tiles[n]?).getD .reset

/-- R218: a tile of the executing core written, and dirty. -/
def State.setTile (s : State) (n : Nat) (x : Tile) : State :=
  let k := s.core s.curRef.core
  s.setCore s.curRef.core { k with tiles := k.tiles.setIfInBounds n { x with dirty := true } }

/-- The 64-bit entry of a bank. -/
def Bank.entry (b : Bank) (i : Nat) : Nat := elemOf b.entries.toNat 64 i

/-! ### Stream pops (R188 to R190, R341) -/

/-- R189: one byte of the reflected CRC-32C. -/
def crcBit : Nat → Nat → Nat
  | 0, c => c
  | k + 1, c => crcBit k (if c % 2 = 1 then (c / 2) ^^^ 0x82F63B78 else c / 2)

/-- R189: CRC-32C of bytes. -/
def crc32c (bs : List Byte) : Nat := (bs.foldl (fun c b => crcBit 8 (c ^^^ b.toNat)) 0xFFFFFFFF) ^^^ 0xFFFFFFFF

/-- R188: PLEN a header requires; none when a field breaks the rules. -/
def blockPlen (h : List Byte) : Option Nat :=
  let kind := fieldAt h 2 1
  let et := fieldAt h 3 1
  let count := fieldAt h 4 4
  let nnz := fieldAt h 12 4
  if fieldAt h 0 2 ≠ 0x4B42 || count = 0 || count > 2 ^ 20 then none
  else if kind = 1 then
    if nnz ≠ 0 then none
    else if et = 0x0C then some (ceilDiv count 8 * 3)
    else if et = 0x0A ∨ et = 0x0B ∨ et = 0x0D ∨ et = 0x0E ∨ et = 0x0F then some (ceilDiv (count * (ET.ofCode et).width) 8)
    else none
  else if kind = 2 then (if et = 4 then some (ceilDiv count 32 * 4 + 2 * nnz) else none)
  else none

/-- R190: the elements of a residual block from element e up. -/
def residual (bitmap vals : Nat) (count : Nat) : Nat → Nat → Nat → List Nat
  | 0, _, _ => []
  | k + 1, e, rank =>
    if e < count ∧ bitmap.testBit e then elemOf vals 16 rank :: residual bitmap vals count k (e + 1) (rank + 1)
    else 0 :: residual bitmap vals count k (e + 1) rank

/-- Bytes at a place as a stream's STRSET found them. -/
def Stream.found (q : Stream) (own : Nat) (p : Place) (n : Nat) (use : L2Use) : List Byte := foundBytes q.mem q.stale own p n use

/-- R99, R203: n bytes of a stream from an address, 64 at a time; `fuel` bounds the pieces. The error is the faulting address. The bytes of a result
    row that is not full are those its STRSET found: R180 has core loads wait, and says nothing of a stream (DESIGN CHOICE, log 79). -/
def streamFetch (s : State) (a : Agent) (q : Stream) : Nat → Word → Nat → State × Except Word (List Byte)
  | 0, _, _ => (s, .ok [])
  | k + 1, va, n =>
    if n = 0 then (s, .ok [])
    else
      let here := min n (64 - va.toNat % 64)
      match resolve s a .load none va here 1 with
      | (s, .error _) => (s, .error va)
      | (s, .ok g) =>
        if windowBars s g || farBarred s a.ctx g.place here || unreachable s g.place then (s, .error va)
        else
          let s := (readHome s g.place here g.use).1
          if poisoned s g.place then (s, .error va)
          else
            match streamFetch s a q k (va + BitVec.ofNat 64 here) (n - here) with
            | (s, .ok rest) => (s, .ok (q.found s.modId g.place here g.use ++ rest))
            | (s, .error e) => (s, .error e)

/-- R203, R341: bytes of a stream of a unit from an offset: those buffered, then those of memory; a byte at or past
    LEN is 0. The error is the faulting address. -/
def streamBytes (s : State) (a : Agent) (q : Stream) (off n : Nat) : State × Except Word (List Byte) :=
  let have_ := min n (q.len - off)
  let head := ((q.buf.drop (off - q.pos)).take have_)
  match streamFetch s a q ((have_ - head.length) / 64 + 2) (q.base + BitVec.ofNat 64 (off + head.length)) (have_ - head.length) with
  | (s, .ok bs) => (s, .ok (head ++ bs ++ List.replicate (n - have_) 0))
  | (s, .error va) => (s, .error va)

/-- R341: a stream whose next pop starts at an offset. -/
def Stream.moveTo (q : Stream) (pos next : Nat) : Stream := { q with pos, next, buf := q.buf.drop (pos - q.pos), err := false, cause := 0 }

/-- How a pop ends: the vector and the stream after it, or a cause, TRAPVAL and the stream as it is left. -/
inductive Pop
  | vec (x : Nat) (q : Stream)
  | bad (cause : Nat) (val : Word) (q : Stream)
  deriving DecidableEq, Repr

/-- R203, R341: a stream's format conversion of one element, into a type of a width: INT4 to INT8, E4M3 to BF16. -/
def convElem (fmt w x : Nat) : Nat :=
  match fmt with
  | 1 => lowBits w (sextNat 4 (x % 16))
  | 2 => (roundNum (decodeFloat .e4m3 (x % 256)) .bf16 0 false 0).1 % 2 ^ w
  | _ => x

/-- R341: the formatting of a RAW pop. -/
def rawFormat (fmt x : Nat) : Nat :=
  match fmt with
  | 1 => packElems 8 ((List.range 256).map (fun i => convElem 1 8 (elemOf x 4 i)))
  | 2 => packElems 16 ((List.range 128).map (fun i => convElem 2 16 (elemOf x 8 i)))
  | _ => x

/-- R188: a block's header and payload, once R189's checks have passed: its elements, whether it is a residual block, and where its
    payload's non-zeros start. -/
structure Block where
  count : Nat
  plen : Nat
  isRes : Bool
  words : Nat
  bitmap : Nat
  payload : List Byte
  deriving DecidableEq, Repr

/-- R188: the fields of a block held as its header and payload. -/
def blockOf (bs : List Byte) : Block :=
  let count := fieldAt bs 4 4
  let payload := bs.drop 16
  let words := ceilDiv count 32 * 4
  { count, plen := payload.length, isRes := fieldAt bs 2 1 == 2, words, bitmap := natOfBytes (payload.take words), payload }

/-- Set bits of a number below a bound. -/
def onesBelow (x n : Nat) : Nat := (List.range n).foldl (fun k i => if x.testBit i then k + 1 else k) 0

/-- R189: the block at a stream's position read in whole and checked, as its header and payload; or a cause and its TRAPVAL. NNZ is compared with all
    the set bits of the bitmap's words, the padding past COUNT among them: R189 does not say (DESIGN CHOICE, log 78). -/
def readBlock (s : State) (a : Agent) (q : Stream) : State × Except (Nat × Word) (List Byte) :=
  let va := q.base + BitVec.ofNat 64 q.pos
  match streamBytes s a q q.pos 16 with
  | (s, .error x) => (s, .error (Cause.loadFault, x))
  | (s, .ok h) =>
    match blockPlen h with
    | none => (s, .error (Cause.streamFmt, va))
    | some plen =>
      if fieldAt h 8 4 ≠ plen then (s, .error (Cause.streamFmt, va))
      else
        match streamBytes s a q (q.pos + 16) (plen + 4) with
        | (s, .error x) => (s, .error (Cause.loadFault, x))
        | (s, .ok body) =>
          let b := blockOf (h ++ body.take plen)
          if fieldAt body plen 4 ≠ crc32c b.payload then (s, .error (Cause.streamCrc, va))
          else if b.isRes && onesBelow b.bitmap (b.words * 8) ≠ fieldAt h 12 4 then (s, .error (Cause.streamFmt, va))
          else (s, .ok (h ++ body.take plen))

/-- R190, R341: the next vector of a checked block. -/
def blockVector (b : Block) (blk : Nat) : Nat :=
  if b.isRes then packElems 16 (residual b.bitmap (natOfBytes (b.payload.drop b.words)) b.count 128 (128 * blk) (onesBelow b.bitmap (128 * blk)))
  else natOfBytes ((b.payload.drop (256 * blk)).take 256)

/-- R341: a stream after it has returned a vector of its block: within the block, or at the next one. -/
def Stream.afterBlock (q : Stream) (b : Block) : Stream :=
  let vecs := if b.isRes then ceilDiv b.count 128 else ceilDiv b.plen 256
  let after := ceilDiv (q.pos + 16 + b.plen + 4) 128 * 128
  let used := if b.isRes then b.words + 2 * onesBelow b.bitmap (128 * (q.blk + 1)) else 256 * (q.blk + 1)
  let q := { q with overEnd := q.overEnd || q.pos + 16 + b.plen + 4 > q.len }
  if q.blk + 1 < vecs then { q with blk := q.blk + 1 }.moveTo q.pos (q.pos + 16 + used)
  else { q with blk := 0, block := [] }.moveTo after after

/-- R189, R341: a stream in BLOCKS mode: `pos` is its current block, `blk` the vectors taken of it. The block is read and checked before its
    first vector, and once more after a write-out that discarded it (R203). -/
def popBlock (s : State) (a : Agent) (q : Stream) : State × Pop :=
  match (if q.block.isEmpty then readBlock s a q else (s, .ok q.block)) with
  | (s, .error (c, x)) => (s, .bad c x { q with err := true, cause := c, errVal := x })
  | (s, .ok bs) => (s, .vec (blockVector (blockOf bs) q.blk) ({ q with block := bs }.afterBlock (blockOf bs)))

/-- R341: one pop of a stream; `raw` leaves out the descriptor's conversion, which follows a codebook expansion (R203). -/
def popStream (s : State) (a : Agent) (raw : Bool) (q : Stream) : State × Pop :=
  if !q.active || q.pos ≥ q.len then (s, .vec 0 { q with overEnd := true })
  else if q.err && q.cause ≠ Cause.loadFault then (s, .bad q.cause q.errVal q)
  else if q.blocks then popBlock s a q
  else
    let n := if q.fmt = 0 then 256 else 128
    match streamBytes s a q q.pos n with
    | (s, .error x) => (s, .bad Cause.loadFault x { q with err := true, cause := Cause.loadFault, errVal := x })
    | (s, .ok bs) =>
      (s, .vec (if raw then natOfBytes bs else rawFormat q.fmt (natOfBytes bs)) ({ q with overEnd := q.overEnd || q.pos + n > q.len }.moveTo (q.pos + n) (q.pos + n)))

/-- R303: the stream as the pops of this convoy leave it. -/
def pendingStream (t : Strand) (q : Nat) : Stream :=
  match t.cv.pops.reverse.find? (fun p => p.1 == q) with
  | some p => p.2
  | none => (t.streams[q]?).getD .reset

/-- R303: n pops held for the convoy: the group's bits, and the vector that faulted with its trap, if one did. -/
def popGroup (s : State) (q : Nat) (raw : Bool) : Nat → Nat → State × Nat × Option (Nat × Nat × Word)
  | 0, _ => (s, 0, none)
  | n + 1, i =>
    match popStream s s.me raw (pendingStream s.cur q) with
    | (s, .bad c x st) =>
      let old := (s.cur.streams[q]?).getD .reset
      ({ s with cur := { s.cur with streams := s.cur.streams.setIfInBounds q { old with err := st.err, cause := st.cause, errVal := st.errVal } } }, 0, some (i, c, x))
    | (s, .vec x st) =>
      let (s, y, e) := popGroup { s with cur := { s.cur with cv := { s.cur.cv with pops := s.cur.cv.pops ++ [(q, st)] } } } q raw n (i + 1)
      (s, x + y * 2 ^ 2048, e)

/-! ### Operands -/

/-- Where an operand's elements come from: a bit string, one value for all, or indices into a bank, whose entries a stream's
    descriptor may convert (`fmt`, 0 for none). -/
inductive Src
  | bits (g w : Nat)
  | same (x : Nat)
  | coded (g bi : Nat) (bank : Bank) (n : Nat) (subst : Bool) (factor : Nat) (xt : ET) (opnd fmt : Nat)
  deriving DecidableEq, Repr

/-- R230: the substitute of a type. -/
def substitute (xt : ET) : Nat :=
  match xt with
  | .fp32 => 0x7FC00000 | .bf16 => 0x7FC0 | .fp16 => 0x7E00 | .e4m3 => 0x7F
  | _ => 0

/-- R227, R229: element e of an operand; the error is TRAPVAL of CB_INVALID. -/
def Src.elem (src : Src) (e : Nat) : Except Nat Nat :=
  match src with
  | .bits g w => .ok (elemOf g w e)
  | .same x => .ok x
  | .coded g bi bank n subst f xt opnd fmt =>
    let idx := elemOf g bi (e / f)
    if bank.valid.getLsbD idx then .ok (convElem fmt xt.width (elemOf (bank.entry idx) xt.width (e % f)))
    else if subst then .ok (substitute xt)
    else .error (opnd * 4096 + idx * 16 + n)

/-- An element trap: cause, TRAPVAL, element. -/
abbrev ElemTrap := Nat × Word × Nat

/-- R228, R303: the bits of an operand: `pops` vectors of a stream, or `count` registers. A pop's fault is that of the first element that needs its
    vector, `f` elements to each `bi` bits; it is taken at an element in [VSTART, vl) (R305, R341). -/
def fetchBits (s : State) (stream raw : Bool) (r count pops bi f vl : Nat) : State × Nat × Option ElemTrap :=
  if stream then
    let (s, g, e) := popGroup s r raw pops 0
    (s, g, e.map (fun (i, c, x) => (c, x, max (min (i * 2048 / bi * f) (vl - 1)) (startOf s.cur))))
  else (s, readGroup s.cur r count, none)

/-- The descriptor's conversion for an expanded operand from a stream. How 128 consumed bytes make one of R228's index vectors is stated
    nowhere: they are its low half, above zeros (DESIGN CHOICE, log 60). -/
def streamFmt (t : Strand) (stream : Bool) (r : Nat) : Nat :=
  if stream then (let q := pendingStream t r; if q.active && !q.blocks then q.fmt else 0) else 0

/-- R303: operand A or B of n elements of a type, expanded when its bit is set, with the fault of its pops. -/
def fetchVec (s : State) (v : View) (isB : Bool) (n : Nat) (t : ET) : State × Src × Option ElemTrap :=
  let stream := if isB then v.w2.qb else v.w2.qa
  let r := if isB then v.b else v.a
  let vl := vlOf s.cur v
  if if isB then v.w1.cb else v.w1.ca then
    let bi := (ET.ofCode (if isB then v.w1.etb else v.w1.eta).toNat).width
    let f := shapeFactor (if isB then v.w1.shb else v.w1.sha).toNat
    let bank := (if isB then v.w1.cbb else v.w1.cba).toNat
    let count := emulOf (n / f * bi)
    let fmt := streamFmt s.cur stream r
    let (s, g, e) := fetchBits (touchBank s bank) stream true r count count bi f vl
    (s, .coded g bi (s.bank bank) bank (s.cur.cbuse.getLsbD (16 + bank)) f t (if isB then 1 else 0) fmt, e)
  else
    let (s, g, e) := fetchBits s stream false r (emulOf (n * t.width)) (Check.lm v) t.width 1 vl
    (s, .bits g t.width, e)

/-- R269: operand B, from s[B] or the literal when OPB says so. -/
def fetchB (s : State) (v : View) (n : Nat) (t : ET) : State × Src × Option ElemTrap :=
  match Check.opb v with
  | 1 => (s, .same ((s.cur.reg v.b).toNat % 2 ^ t.width), none)
  | 2 => (s, .same (v.lit.toNat % 2 ^ t.width), none)
  | _ => fetchVec s v true n t

/-- The trap of the lower element, the first when they are equal (R229). -/
def lowerTrap (a b : Option ElemTrap) : Option ElemTrap :=
  match a, b with
  | none, y => y
  | x, none => x
  | some x, some y => some (if y.2.2 < x.2.2 then y else x)

/-- The elements that may begin when an operand's pop faulted. -/
def capEnd (cap : Option ElemTrap) (n : Nat) : Nat := match cap with | some (_, _, e) => min n e | none => n

/-- The operands' trap, unless the convoy stops at or before its element. -/
def capTrap (t : Strand) (vl : Nat) (cap : Option ElemTrap) : Option ElemTrap :=
  match cap with
  | some (c, x, e) => if endOf t vl ≤ e then none else some (c, x, e)
  | none => none

/-! ### The element loop (R305) -/

/-- What the loop carries: the destination's bits, the flags, and the trap that ended it. -/
structure Loop where
  g : Nat
  flags : Flags
  trap : Option ElemTrap
  deriving DecidableEq, Repr

/-- R305: elements i, i + 1, … of a destination of width w; `f i d` gives the new element. -/
def elemLoop (mask w : Nat) (f : Nat → Nat → Except (Nat × Word) (Nat × Flags)) : Nat → Nat → Loop → Loop
  | 0, _, l => l
  | k + 1, i, l =>
    if mask.testBit i then
      match f i (elemOf l.g w i) with
      | .ok (x, fl) => elemLoop mask w f k (i + 1) { l with g := setElem l.g w i x, flags := l.flags ||| fl }
      | .error (c, x) => { l with trap := some (c, x, i) }
    else elemLoop mask w f k (i + 1) l

/-- A CB_INVALID of an operand as an element's trap. -/
def cbTrap (e : Except Nat Nat) : Except (Nat × Word) Nat :=
  match e with
  | .ok x => .ok x
  | .error x => .error (Cause.cbInvalid, BitVec.ofNat 64 x)

/-- How a member ends: with the trap of an element, or well. -/
def endWith (s : State) (e : Option ElemTrap) : Eff :=
  match e with
  | some (c, x, i) => .trap s c x (some i)
  | none => .ok s

/-- R305: the loop over a destination group under a mask, its flags raised, its trap taken; `cap` is a pop's fault. -/
def runMasked (s : State) (v : View) (mask w count vl : Nat) (cap : Option ElemTrap) (f : Nat → Nat → Except (Nat × Word) (Nat × Flags)) : Eff :=
  let t := s.cur
  let i0 := startOf t
  let l := elemLoop mask w f (capEnd cap (endOf t vl) - i0) i0 { g := readGroup t v.d count, flags := 0, trap := none }
  endWith { s with cur := (writeGroup t v.d count l.g).raise l.flags } (lowerTrap l.trap (capTrap t vl cap))

/-- R301, R305: the loop under the instruction's own mask. -/
def runElems (s : State) (v : View) (w count vl : Nat) (cap : Option ElemTrap) (f : Nat → Nat → Except (Nat × Word) (Nat × Flags)) : Eff :=
  runMasked s v (maskOf s.cur v) w count vl cap f

/-- R301: an instruction acts on no element. -/
def noElems (t : Strand) (vl : Nat) : Bool := vl ≤ startOf t

/-- Elements of A and B looked up, A's fault first (R229). -/
def pairElems {α : Type} (a b : Src) (i : Nat) (k : Nat → Nat → α) : Except (Nat × Word) α :=
  match cbTrap (a.elem i) with
  | .error e => .error e
  | .ok x =>
    match cbTrap (b.elem i) with
    | .error e => .error e
    | .ok y => .ok (k x y)

/-- R305: an element-wise instruction of operands A and B of `n` elements. `f i x y d` gives the new element. -/
def elementwise (v : View) (s : State) (n : Nat) (usesB : Bool) (f : Nat → Nat → Nat → Nat → Nat × Flags) : Eff :=
  let vl := vlOf s.cur v
  let w := (Check.tD v).width
  if noElems s.cur vl then .ok s
  else
    let (s, a, ea) := fetchVec s v false n (Check.tA v)
    let (s, b, eb) := if usesB then fetchB s v n (Check.tB v) else (s, .same 0, none)
    runElems s v w (emulOf (n * w)) vl (lowerTrap ea eb) (fun i d => pairElems a b i (fun x y => f i x y d))

end Sys2Proof.Machine
end

