-- ==== Sys2Proof/Machine/VArith.lean ====
section
/-! DEFINITION. Vector integer, compare and floating-point instructions: majors 0x28 to 0x2A (R306 to R311). -/

namespace Sys2Proof.Machine

open Sys2Proof

/-- R300: UNS. -/
def unsOf (v : View) : Bool := natBit v.imm16 10

/-- The element width of the destination. -/
def widthOf (v : View) : Nat := (Check.tD v).width

/-- An integer as the low w bits. -/
def bitsOf (w : Nat) (x : Int) : Nat := lowBits w x

/-- R307: an instruction of major 0x28 without flags; `f w x y d`. -/
def vint (f : Nat → Nat → Nat → Nat → Nat) (v : View) (s : State) : Eff :=
  elementwise v s (Check.vlmax v) true (fun _ x y d => (f (widthOf v) x y d % 2 ^ widthOf v, 0))

/-- R307: VMULH. -/
def vmulhOp (v : View) (s : State) : Eff :=
  vint (fun w x y _ => if unsOf v then x * y / 2 ^ w else bitsOf w (sextNat w x * sextNat w y / (2 ^ w : Nat))) v s

/-- R307: VSADD and VSSUB; `f` is the exact sum or difference. -/
def vsat (f : Int → Int → Int) (v : View) (s : State) : Eff :=
  elementwise v s (Check.vlmax v) true (fun _ x y _ =>
    let w := widthOf v
    let rd := fun (x : Nat) => if unsOf v then (x : Int) else sextNat w x
    narrowInt (f (rd x) (rd y)) w (unsOf v) true)

/-- R307: VABS. -/
def vabsOp (v : View) (s : State) : Eff :=
  elementwise v s (Check.vlmax v) false (fun _ x _ _ =>
    let w := widthOf v
    let a : Int := (sextNat w x).natAbs
    if v.w2.sat then narrowInt a w false true else (bitsOf w a, 0))

/-- R307: Σ of the active elements below an index, whatever VSTART is. -/
def prefixSum (mask : Nat) (a : Src) : Nat → Except Nat Nat
  | 0 => .ok 0
  | n + 1 =>
    match prefixSum mask a n with
    | .error e => .error e
    | .ok z => if mask.testBit n then (match a.elem n with | .ok x => .ok (z + x) | .error e => .error e) else .ok z

/-- R307: VPSUM. Restarted above element 0, it sums an expanded A from element 0 on, and a lookup below VSTART that fails traps at the first element
    that it writes: R227 speaks only of elements from VSTART on (DESIGN CHOICE, log 86). -/
def vpsumOp (v : View) (s : State) : Eff :=
  let vl := vlOf s.cur v
  let n := Check.vlmax v
  let w := widthOf v
  if noElems s.cur vl then .ok s
  else
    let (s, a, ea) := fetchVec s v false n (Check.tA v)
    let mask := maskOf s.cur v
    runElems s v w (emulOf (n * w)) vl ea (fun i _ =>
      match cbTrap (prefixSum mask a (i + 1)) with
      | .error e => .error e
      | .ok x => .ok (x % 2 ^ w, 0))

/-- R307: shifts by y mod w. -/
def vshift (f : Nat → Nat → Nat → Nat) (v : View) (s : State) : Eff := vint (fun w x y _ => f w x (y % w)) v s

/-- R307: the one of two elements a relation picks. -/
def vpick (rel : Nat → Nat → Nat → Bool) (v : View) (s : State) : Eff := vint (fun w x y _ => if rel w x y then y else x) v s

/-! ### Compares (R308) -/

/-- R308: a compare: bit i of k[D] is `f x y`. -/
def vcompare (f : Nat → Nat → Bool × Flags) (v : View) (s : State) : Eff :=
  let vl := vlOf s.cur v
  let n := Check.vlmax v
  if noElems s.cur vl then .ok s
  else
    let (s, a, ea) := fetchVec s v false n (Check.tA v)
    let (s, b, eb) := fetchB s v n (Check.tB v)
    let t := s.cur
    let cap := lowerTrap ea eb
    let i0 := startOf t
    let l := elemLoop (maskOf t v) 1 (fun i _ => pairElems a b i (fun x y => let (r, fl) := f x y; (if r then 1 else 0, fl)))
      (capEnd cap (endOf t vl) - i0) i0 { g := (t.kreg v.d).toNat, flags := 0, trap := none }
    endWith { s with cur := (t.setK v.d (BitVec.ofNat 4096 l.g)).raise l.flags } (lowerTrap l.trap (capTrap t vl cap))

/-- R308: integer compares. -/
def vcmp (rel : Nat → Nat → Nat → Bool) (v : View) (s : State) : Eff := vcompare (fun x y => (rel (widthOf v) x y, 0)) v s

/-- R308: float compares; a NaN gives `ifNan` with flags. -/
def vfcmp (ifNan : Bool) (fl : Flags) (rel : Num → Num → Bool) (v : View) (s : State) : Eff :=
  vcompare (fun x y =>
    let a := decodeFloat (Check.tD v) x; let b := decodeFloat (Check.tD v) y
    if a.isNan || b.isNan then (ifNan, fl) else (rel a b, 0)) v s

/-! ### Floating point (R309 to R311) -/

/-- R309, R311: an effect followed by the advance of SBASE. -/
def rounding (v : View) (n : Nat) (e : Eff) : Eff :=
  match e with
  | .ok s => .ok { s with cur := srAdvance s.cur (rmOf s.cur v) n }
  | e => e

/-- R248: the random bits of element e, where the mode takes them. -/
def roundBits (t : Strand) (rm e : Nat) : Nat := if rm = 5 then srBits t e else 0

/-- R309: a rounding instruction: `f rm x y d` is the exact value with its flags. -/
def vround (usesB : Bool) (f : Nat → Num → Num → Num → Num × Flags) (v : View) (s : State) : Eff :=
  let t := s.cur
  let ty := Check.tD v
  let rm := rmOf t v
  rounding v (vlOf t v) (elementwise v s (Check.vlmax v) usesB (fun i x y d =>
    let (z, fl) := f rm (decodeFloat ty x) (decodeFloat ty y) (decodeFloat ty d)
    let (b, fl') := roundNum z ty rm v.w2.sat (roundBits t rm i)
    (b, fl ||| fl')))

/-- R311: an approximation. -/
def vapprox (fn : Approx) (v : View) (s : State) : Eff :=
  let t := s.cur
  let ty := Check.tD v
  let rm := rmOf t v
  rounding v (vlOf t v) (elementwise v s (Check.vlmax v) false (fun i x _ _ =>
    approxRound fn (decodeFloat ty x) ty rm v.w2.sat (roundBits t rm i)))

/-- R310: VFMIN and VFMAX. -/
def vminmax (max : Bool) (v : View) (s : State) : Eff :=
  elementwise v s (Check.vlmax v) true (fun _ x y _ => (minmaxBits max (Check.tD v) x y, 0))

/-- R310: VFSIGN. -/
def vsignOp (v : View) (s : State) : Eff :=
  let sb := 2 ^ (widthOf v - 1)
  elementwise v s (Check.vlmax v) true (fun _ x y _ =>
    let sx := x / sb % 2; let sy := y / sb % 2
    let sg := match natBits v.imm16 11 10 with
      | 0 => sy
      | 1 => 1 - sy
      | 2 => sx ^^^ sy
      | _ => 0
    (x % sb + sg * sb, 0))

/-- R310: VFCLASS. -/
def vclassOp (v : View) (s : State) : Eff :=
  elementwise v s (Check.vlmax v) false (fun _ x _ _ => (classify (Check.tA v) x, 0))

/-- VADD (R307): vector integer add. -/
def execVadd (r : RF) (s : State) : Res := guarded (some (r.view 40 0)) s (vint (fun _ x y _ => x + y))

/-- VADD_X (R307): extended VADD, including scalar, literal, stream and expanded operands. -/
def execVaddX (x : XLF) (s : State) : Res := guarded (some (x.view 40 0)) s (vint (fun _ x y _ => x + y))

/-- VSUB (R307): vector subtract. -/
def execVsub (r : RF) (s : State) : Res := guarded (some (r.view 40 1)) s (vint (fun w x y _ => x + 2 ^ w - y))

/-- VSUB_X (R307): extended VSUB. -/
def execVsubX (x : XLF) (s : State) : Res := guarded (some (x.view 40 1)) s (vint (fun w x y _ => x + 2 ^ w - y))

/-- VRSUB (R307): vector reverse subtract. -/
def execVrsub (r : RF) (s : State) : Res := guarded (some (r.view 40 2)) s (vint (fun w x y _ => y + 2 ^ w - x))

/-- VRSUB_X (R307): extended VRSUB. -/
def execVrsubX (x : XLF) (s : State) : Res := guarded (some (x.view 40 2)) s (vint (fun w x y _ => y + 2 ^ w - x))

/-- VMUL (R307): vector multiply, low bits. -/
def execVmul (r : RF) (s : State) : Res := guarded (some (r.view 40 3)) s (vint (fun _ x y _ => x * y))

/-- VMUL_X (R307): extended VMUL. -/
def execVmulX (x : XLF) (s : State) : Res := guarded (some (x.view 40 3)) s (vint (fun _ x y _ => x * y))

/-- VMULH (R307): vector multiply, high bits. -/
def execVmulh (r : RF) (s : State) : Res := guarded (some (r.view 40 4)) s vmulhOp

/-- VMULH_X (R307): extended VMULH. -/
def execVmulhX (x : XLF) (s : State) : Res := guarded (some (x.view 40 4)) s vmulhOp

/-- VMACC (R307): vector multiply-accumulate. -/
def execVmacc (r : RF) (s : State) : Res := guarded (some (r.view 40 5)) s (vint (fun _ x y d => d + x * y))

/-- VMACC_X (R307): extended VMACC. -/
def execVmaccX (x : XLF) (s : State) : Res := guarded (some (x.view 40 5)) s (vint (fun _ x y d => d + x * y))

/-- VAND (R307): vector and. -/
def execVand (r : RF) (s : State) : Res := guarded (some (r.view 40 6)) s (vint (fun _ x y _ => x &&& y))

/-- VAND_X (R307): extended VAND. -/
def execVandX (x : XLF) (s : State) : Res := guarded (some (x.view 40 6)) s (vint (fun _ x y _ => x &&& y))

/-- VOR (R307): vector or. -/
def execVor (r : RF) (s : State) : Res := guarded (some (r.view 40 7)) s (vint (fun _ x y _ => x ||| y))

/-- VOR_X (R307): extended VOR. -/
def execVorX (x : XLF) (s : State) : Res := guarded (some (x.view 40 7)) s (vint (fun _ x y _ => x ||| y))

/-- VXOR (R307): vector exclusive or. -/
def execVxor (r : RF) (s : State) : Res := guarded (some (r.view 40 8)) s (vint (fun _ x y _ => x ^^^ y))

/-- VXOR_X (R307): extended VXOR. -/
def execVxorX (x : XLF) (s : State) : Res := guarded (some (x.view 40 8)) s (vint (fun _ x y _ => x ^^^ y))

/-- VSLL (R307): vector shift left. -/
def execVsll (r : RF) (s : State) : Res := guarded (some (r.view 40 9)) s (vshift (fun _ x n => x * 2 ^ n))

/-- VSLL_X (R307): extended VSLL. -/
def execVsllX (x : XLF) (s : State) : Res := guarded (some (x.view 40 9)) s (vshift (fun _ x n => x * 2 ^ n))

/-- VSRL (R307): vector logical shift right. -/
def execVsrl (r : RF) (s : State) : Res := guarded (some (r.view 40 10)) s (vshift (fun _ x n => x / 2 ^ n))

/-- VSRL_X (R307): extended VSRL. -/
def execVsrlX (x : XLF) (s : State) : Res := guarded (some (x.view 40 10)) s (vshift (fun _ x n => x / 2 ^ n))

/-- VSRA (R307): vector arithmetic shift right. -/
def execVsra (r : RF) (s : State) : Res := guarded (some (r.view 40 11)) s (vshift (fun w x n => bitsOf w (sextNat w x / (2 ^ n : Nat))))

/-- VSRA_X (R307): extended VSRA. -/
def execVsraX (x : XLF) (s : State) : Res := guarded (some (x.view 40 11)) s (vshift (fun w x n => bitsOf w (sextNat w x / (2 ^ n : Nat))))

/-- VMIN (R307): vector signed minimum. -/
def execVmin (r : RF) (s : State) : Res := guarded (some (r.view 40 12)) s (vpick (fun w x y => sextNat w y < sextNat w x))

/-- VMIN_X (R307): extended VMIN. -/
def execVminX (x : XLF) (s : State) : Res := guarded (some (x.view 40 12)) s (vpick (fun w x y => sextNat w y < sextNat w x))

/-- VMAX (R307): vector signed maximum. -/
def execVmax (r : RF) (s : State) : Res := guarded (some (r.view 40 13)) s (vpick (fun w x y => sextNat w x < sextNat w y))

/-- VMAX_X (R307): extended VMAX. -/
def execVmaxX (x : XLF) (s : State) : Res := guarded (some (x.view 40 13)) s (vpick (fun w x y => sextNat w x < sextNat w y))

/-- VMINU (R307): vector unsigned minimum. -/
def execVminu (r : RF) (s : State) : Res := guarded (some (r.view 40 14)) s (vpick (fun _ x y => y < x))

/-- VMINU_X (R307): extended VMINU. -/
def execVminuX (x : XLF) (s : State) : Res := guarded (some (x.view 40 14)) s (vpick (fun _ x y => y < x))

/-- VMAXU (R307): vector unsigned maximum. -/
def execVmaxu (r : RF) (s : State) : Res := guarded (some (r.view 40 15)) s (vpick (fun _ x y => x < y))

/-- VMAXU_X (R307): extended VMAXU. -/
def execVmaxuX (x : XLF) (s : State) : Res := guarded (some (x.view 40 15)) s (vpick (fun _ x y => x < y))

/-- VSADD (R307): vector saturating add. -/
def execVsadd (r : RF) (s : State) : Res := guarded (some (r.view 40 16)) s (vsat (fun x y => x + y))

/-- VSADD_X (R307): extended VSADD. -/
def execVsaddX (x : XLF) (s : State) : Res := guarded (some (x.view 40 16)) s (vsat (fun x y => x + y))

/-- VSSUB (R307): vector saturating subtract. -/
def execVssub (r : RF) (s : State) : Res := guarded (some (r.view 40 17)) s (vsat (fun x y => x - y))

/-- VSSUB_X (R307): extended VSSUB. -/
def execVssubX (x : XLF) (s : State) : Res := guarded (some (x.view 40 17)) s (vsat (fun x y => x - y))

/-- VABS (R307): vector absolute value. -/
def execVabs (r : RF) (s : State) : Res := guarded (some (r.view 40 18)) s vabsOp

/-- VABS_X (R307): extended VABS. -/
def execVabsX (x : XLF) (s : State) : Res := guarded (some (x.view 40 18)) s vabsOp

/-- VCLMUL (R307): vector carry-less multiply, low. -/
def execVclmul (r : RF) (s : State) : Res := guarded (some (r.view 40 19)) s (vint (fun w x y _ => clmulNat w x y))

/-- VCLMUL_X (R307): extended VCLMUL. -/
def execVclmulX (x : XLF) (s : State) : Res := guarded (some (x.view 40 19)) s (vint (fun w x y _ => clmulNat w x y))

/-- VCLMULH (R307): vector carry-less multiply, high. -/
def execVclmulh (r : RF) (s : State) : Res := guarded (some (r.view 40 20)) s (vint (fun w x y _ => clmulNat w x y / 2 ^ w))

/-- VCLMULH_X (R307): extended VCLMULH. -/
def execVclmulhX (x : XLF) (s : State) : Res := guarded (some (x.view 40 20)) s (vint (fun w x y _ => clmulNat w x y / 2 ^ w))

/-- VPSUM (R307): vector prefix sum of active elements. -/
def execVpsum (r : RF) (s : State) : Res := guarded (some (r.view 40 21)) s vpsumOp

/-- VPSUM_X (R307): extended VPSUM. -/
def execVpsumX (x : XLF) (s : State) : Res := guarded (some (x.view 40 21)) s vpsumOp

/-- VCMP_EQ (R308): compare equal into a mask. -/
def execVcmpEq (r : RF) (s : State) : Res := guarded (some (r.view 41 0)) s (vcmp (fun _ x y => x == y))

/-- VCMP_EQ_X (R308): extended VCMP.EQ. -/
def execVcmpEqX (x : XLF) (s : State) : Res := guarded (some (x.view 41 0)) s (vcmp (fun _ x y => x == y))

/-- VCMP_NE (R308): compare not equal. -/
def execVcmpNe (r : RF) (s : State) : Res := guarded (some (r.view 41 1)) s (vcmp (fun _ x y => x != y))

/-- VCMP_NE_X (R308): extended VCMP.NE. -/
def execVcmpNeX (x : XLF) (s : State) : Res := guarded (some (x.view 41 1)) s (vcmp (fun _ x y => x != y))

/-- VCMP_LT (R308): signed less-than compare. -/
def execVcmpLt (r : RF) (s : State) : Res := guarded (some (r.view 41 2)) s (vcmp (fun w x y => sextNat w x < sextNat w y))

/-- VCMP_LT_X (R308): extended VCMP.LT. -/
def execVcmpLtX (x : XLF) (s : State) : Res := guarded (some (x.view 41 2)) s (vcmp (fun w x y => sextNat w x < sextNat w y))

/-- VCMP_LE (R308): signed less-or-equal compare. -/
def execVcmpLe (r : RF) (s : State) : Res := guarded (some (r.view 41 3)) s (vcmp (fun w x y => sextNat w x ≤ sextNat w y))

/-- VCMP_LE_X (R308): extended VCMP.LE. -/
def execVcmpLeX (x : XLF) (s : State) : Res := guarded (some (x.view 41 3)) s (vcmp (fun w x y => sextNat w x ≤ sextNat w y))

/-- VCMP_LTU (R308): unsigned less-than compare. -/
def execVcmpLtu (r : RF) (s : State) : Res := guarded (some (r.view 41 4)) s (vcmp (fun _ x y => x < y))

/-- VCMP_LTU_X (R308): extended VCMP.LTU. -/
def execVcmpLtuX (x : XLF) (s : State) : Res := guarded (some (x.view 41 4)) s (vcmp (fun _ x y => x < y))

/-- VCMP_LEU (R308): unsigned less-or-equal compare. -/
def execVcmpLeu (r : RF) (s : State) : Res := guarded (some (r.view 41 5)) s (vcmp (fun _ x y => x ≤ y))

/-- VCMP_LEU_X (R308): extended VCMP.LEU. -/
def execVcmpLeuX (x : XLF) (s : State) : Res := guarded (some (x.view 41 5)) s (vcmp (fun _ x y => x ≤ y))

/-- VFCMP_EQ (R308): float compare equal. -/
def execVfcmpEq (r : RF) (s : State) : Res := guarded (some (r.view 41 6)) s (vfcmp false 0 eqNum)

/-- VFCMP_EQ_X (R308): extended VFCMP.EQ. -/
def execVfcmpEqX (x : XLF) (s : State) : Res := guarded (some (x.view 41 6)) s (vfcmp false 0 eqNum)

/-- VFCMP_LT (R308): float compare less-than. -/
def execVfcmpLt (r : RF) (s : State) : Res := guarded (some (r.view 41 7)) s (vfcmp false Flags.nv ltNum)

/-- VFCMP_LT_X (R308): extended VFCMP.LT. -/
def execVfcmpLtX (x : XLF) (s : State) : Res := guarded (some (x.view 41 7)) s (vfcmp false Flags.nv ltNum)

/-- VFCMP_LE (R308): float compare less-or-equal. -/
def execVfcmpLe (r : RF) (s : State) : Res := guarded (some (r.view 41 8)) s (vfcmp false Flags.nv (fun a b => ltNum a b || eqNum a b))

/-- VFCMP_LE_X (R308): extended VFCMP.LE. -/
def execVfcmpLeX (x : XLF) (s : State) : Res := guarded (some (x.view 41 8)) s (vfcmp false Flags.nv (fun a b => ltNum a b || eqNum a b))

/-- VFCMP_UN (R308): float compare unordered. -/
def execVfcmpUn (r : RF) (s : State) : Res := guarded (some (r.view 41 9)) s (vfcmp true 0 (fun _ _ => false))

/-- VFCMP_UN_X (R308): extended VFCMP.UN. -/
def execVfcmpUnX (x : XLF) (s : State) : Res := guarded (some (x.view 41 9)) s (vfcmp true 0 (fun _ _ => false))

/-- VFADD (R309): float add, rounded once. -/
def execVfadd (r : RF) (s : State) : Res := guarded (some (r.view 42 0)) s (vround true (fun rm x y _ => sumNum rm [x, y]))

/-- VFADD_X (R309): extended VFADD. -/
def execVfaddX (x : XLF) (s : State) : Res := guarded (some (x.view 42 0)) s (vround true (fun rm x y _ => sumNum rm [x, y]))

/-- VFSUB (R309): float subtract. -/
def execVfsub (r : RF) (s : State) : Res := guarded (some (r.view 42 1)) s (vround true (fun rm x y _ => sumNum rm [x, y.negate]))

/-- VFSUB_X (R309): extended VFSUB. -/
def execVfsubX (x : XLF) (s : State) : Res := guarded (some (x.view 42 1)) s (vround true (fun rm x y _ => sumNum rm [x, y.negate]))

/-- VFMUL (R309): float multiply. -/
def execVfmul (r : RF) (s : State) : Res := guarded (some (r.view 42 2)) s (vround true (fun _ x y _ => mulNum x y))

/-- VFMUL_X (R309): extended VFMUL. -/
def execVfmulX (x : XLF) (s : State) : Res := guarded (some (x.view 42 2)) s (vround true (fun _ x y _ => mulNum x y))

/-- VFMA (R309): fused multiply-add. -/
def execVfma (r : RF) (s : State) : Res := guarded (some (r.view 42 3)) s (vround true fmaNum)

/-- VFMA_X (R309): extended VFMA. -/
def execVfmaX (x : XLF) (s : State) : Res := guarded (some (x.view 42 3)) s (vround true fmaNum)

/-- VFNMA (R309): negated fused multiply-add. -/
def execVfnma (r : RF) (s : State) : Res := guarded (some (r.view 42 4)) s (vround true (fun rm x y d => fmaNum rm x.negate y d))

/-- VFNMA_X (R309): extended VFNMA. -/
def execVfnmaX (x : XLF) (s : State) : Res := guarded (some (x.view 42 4)) s (vround true (fun rm x y d => fmaNum rm x.negate y d))

/-- VFDIV (R309): float divide. -/
def execVfdiv (r : RF) (s : State) : Res := guarded (some (r.view 42 5)) s (vround true (fun _ x y _ => divNum x y))

/-- VFDIV_X (R309): extended VFDIV. -/
def execVfdivX (x : XLF) (s : State) : Res := guarded (some (x.view 42 5)) s (vround true (fun _ x y _ => divNum x y))

/-- VFSQRT (R309): float square root. -/
def execVfsqrt (r : RF) (s : State) : Res := guarded (some (r.view 42 6)) s (vround false (fun _ x _ _ => sqrtNum x))

/-- VFSQRT_X (R309): extended VFSQRT. -/
def execVfsqrtX (x : XLF) (s : State) : Res := guarded (some (x.view 42 6)) s (vround false (fun _ x _ _ => sqrtNum x))

/-- VFMIN (R310): float minimum. -/
def execVfmin (r : RF) (s : State) : Res := guarded (some (r.view 42 7)) s (vminmax false)

/-- VFMIN_X (R310): extended VFMIN. -/
def execVfminX (x : XLF) (s : State) : Res := guarded (some (x.view 42 7)) s (vminmax false)

/-- VFMAX (R310): float maximum. -/
def execVfmax (r : RF) (s : State) : Res := guarded (some (r.view 42 8)) s (vminmax true)

/-- VFMAX_X (R310): extended VFMAX. -/
def execVfmaxX (x : XLF) (s : State) : Res := guarded (some (x.view 42 8)) s (vminmax true)

/-- VFSIGN (R310): set the sign from y under the FX mode. -/
def execVfsign (r : RF) (s : State) : Res := guarded (some (r.view 42 9)) s vsignOp

/-- VFSIGN_X (R310): extended VFSIGN. -/
def execVfsignX (x : XLF) (s : State) : Res := guarded (some (x.view 42 9)) s vsignOp

/-- VFCLASS (R310): one-hot float class. -/
def execVfclass (r : RF) (s : State) : Res := guarded (some (r.view 42 10)) s vclassOp

/-- VFCLASS_X (R310): extended VFCLASS. -/
def execVfclassX (x : XLF) (s : State) : Res := guarded (some (x.view 42 10)) s vclassOp

/-- VFRCP (R311): approximate reciprocal. -/
def execVfrcp (r : RF) (s : State) : Res := guarded (some (r.view 42 11)) s (vapprox .rcp)

/-- VFRCP_X (R311): extended VFRCP. -/
def execVfrcpX (x : XLF) (s : State) : Res := guarded (some (x.view 42 11)) s (vapprox .rcp)

/-- VFRSQ (R311): approximate reciprocal square root. -/
def execVfrsq (r : RF) (s : State) : Res := guarded (some (r.view 42 12)) s (vapprox .rsq)

/-- VFRSQ_X (R311): extended VFRSQ. -/
def execVfrsqX (x : XLF) (s : State) : Res := guarded (some (x.view 42 12)) s (vapprox .rsq)

/-- VFEXP2 (R311): approximate 2^x. -/
def execVfexp2 (r : RF) (s : State) : Res := guarded (some (r.view 42 13)) s (vapprox .exp2)

/-- VFEXP2_X (R311): extended VFEXP2. -/
def execVfexp2X (x : XLF) (s : State) : Res := guarded (some (x.view 42 13)) s (vapprox .exp2)

/-- VFLOG2 (R311): approximate log2. -/
def execVflog2 (r : RF) (s : State) : Res := guarded (some (r.view 42 14)) s (vapprox .log2)

/-- VFLOG2_X (R311): extended VFLOG2. -/
def execVflog2X (x : XLF) (s : State) : Res := guarded (some (x.view 42 14)) s (vapprox .log2)

/-- VFTANH (R311): approximate tanh. -/
def execVftanh (r : RF) (s : State) : Res := guarded (some (r.view 42 15)) s (vapprox .tanh)

/-- VFTANH_X (R311): extended VFTANH. -/
def execVftanhX (x : XLF) (s : State) : Res := guarded (some (x.view 42 15)) s (vapprox .tanh)

end Sys2Proof.Machine
end

