-- ==== Sys2Proof/Machine/VCvt.lean ====
section
/-! DEFINITION. Conversions, quantisation, packing, and CI8 companding: major 0x2B (R250 to R253, R312 to R314). -/

namespace Sys2Proof.Machine

open Sys2Proof

/-! ### CI8 (R250 to R252) -/

/-- R243, R251: the bank that holds the curve. -/
def curveBank (t : Strand) : Nat := natBits t.rmode.toNat 7 4

/-- R223: SUBST of a bank. -/
def substOf (t : Strand) (n : Nat) : Bool := t.cbuse.getLsbD (16 + n)

/-- R251: a CI8 operand reads each code through the curve bank, as FP32. -/
def curveSrc (s : State) (src : Src) : Src :=
  let n := curveBank s.cur
  match src with
  | .bits g _ => .coded g 8 (s.bank n) n (substOf s.cur n) 1 .fp32 0 0
  | x => x

/-- R252: the two words of entry 8s, the substitute when it is invalid. -/
def curveSeg (b : Bank) (i : Nat) : Nat × Nat :=
  if b.valid.getLsbD (8 * i) then (b.entry (8 * i) % 2 ^ 32, b.entry (8 * i) / 2 ^ 32) else (substitute .fp32, substitute .fp32)

/-- R252: the first of the entries an encoding looks up that is invalid. -/
def curveInvalid (b : Bank) : Option Nat := ((List.range 16).map (8 * ·)).find? (fun i => !b.valid.getLsbD i)

/-- R252: what the pseudocode leaves open of an encoding through a bank (log 3), a function of the bank as a record holds it (R222). -/
def ci8Left (b : Bank) (key : Nat) : Nat := Config.ci8Open (natOfBytes (bankBytes b)) key

/-- R252: a code and flags that the pseudocode gives no value (log 3): no breakpoint lies at or below the magnitude, or its
    exact arithmetic meets ∞ ÷ ∞. -/
def ci8Free (b : Bank) (sg key : Nat) : Nat × Flags :=
  let n := ci8Left b key
  (sg + n % 128, Flags.when (n.testBit 7) Flags.nx ||| Flags.when (n.testBit 8) Flags.sat)

/-- R252: NX where the pseudocode meets ∞ × 0. -/
def ci8OpenNx (b : Bank) (key : Nat) : Flags := Flags.when ((ci8Left b key).testBit 7) Flags.nx

/-- R252: the code of a magnitude in a segment that begins at an infinity. From −∞ up to a number or +∞, d is +∞ and u is ∞ ÷ ∞: the code is open,
    but the sum of NX's test is no magnitude. Everywhere else d is not above 0 and u is 0: where d is a NaN the sum is none, and from +∞, the
    magnitude itself, down to a number or −∞ the test multiplies ∞ by 0 and leaves NX open. -/
def ci8Infinite (b : Bank) (seg : Nat) (neg : Bool) (x1 : Num) (sg key : Nat) : Nat × Flags :=
  match neg, x1 with
  | false, .nan => (sg + 8 * seg, Flags.nx)
  | false, .inf false => (sg + 8 * seg, Flags.nx)
  | false, _ => (sg + 8 * seg, ci8OpenNx b key)
  | true, .nan => (sg + 8 * seg, Flags.nx)
  | true, .inf true => (sg + 8 * seg, Flags.nx)
  | true, _ => let (c, fl) := ci8Free b sg key; (c, fl ||| Flags.nx)

/-- R252: the code of a magnitude in a segment from a finite x0 to x1. Against an x1 that is infinite u is 0, and ∞ × 0 leaves NX open (log 3); an
    x1 that is a NaN is not above x0, and neither is its sum the magnitude. An infinite magnitude lies beyond every finite segment. -/
def ci8Segment (b : Bank) (seg : Nat) (x0 x1 a : Num) (sg rm r key : Nat) : Nat × Flags :=
  match x1, a with
  | .inf false, .inf _ => ci8Free b sg key
  | .inf _, _ => (sg + 8 * seg, ci8OpenNx b key)
  | .fin _ _ _ _, .inf _ => if ltNum x0 x1 then (sg + 127, Flags.sat ||| Flags.nx) else (sg + 8 * seg, Flags.nx)
  | .fin _ _ _ _, _ =>
    let e0 := (minExp [x0, x1, a]).getD 0
    let z0 := x0.atExp e0; let z1 := x1.atExp e0; let za := a.atExp e0
    let d := z1 - z0
    let num := (za - z0) * 8
    let den := d.toNat
    let u := if d > 0 then (roundMag rm false (num.toNat * 2 ^ 64 / den) (-64) (num.toNat * 2 ^ 64 % den != 0) r).1 else 0
    let m := min (8 * seg + u) 127
    let nx := Flags.when (z0 * 8 + d * ((m : Int) - 8 * (seg : Int)) != za * 8) Flags.nx
    (sg + m, nx ||| Flags.when (8 * seg + u > 127) Flags.sat)
  | _, _ => (sg + 8 * seg, Flags.nx)

/-- R252: ci8_encode of a value through a bank; `key` is the element, for the code the curve leaves open. -/
def ci8Encode (b : Bank) (x : Num) (rm r key : Nat) : Nat × Flags :=
  let le := fun (y a : Num) => !y.isNan && (ltNum y a || eqNum y a)
  let sg := if x.neg then 0x80 else 0
  let a := x.abs
  let last := decodeFloat .fp32 (curveSeg b 15).2
  if x.isNan then (0, Flags.nv)
  else if le last a then (sg + 127, Flags.sat)
  else
    match (List.range 16).reverse.find? (fun i => le (decodeFloat .fp32 (curveSeg b i).1) a) with
    | none => ci8Free b sg key
    | some i =>
      let x0 := decodeFloat .fp32 (curveSeg b i).1
      let x1 := decodeFloat .fp32 (curveSeg b i).2
      match x0 with
      | .inf neg => ci8Infinite b i neg x1 sg key
      | _ => ci8Segment b i x0 x1 a sg rm r key

/-- R251, R252: an encoding as an element: a lookup of an invalid entry faults unless it is substituted. -/
def ci8Elem (s : State) (x : Num) (rm r key : Nat) : Except (Nat × Word) (Nat × Flags) :=
  let n := curveBank s.cur
  let b := s.bank n
  match curveInvalid b with
  | some i => if substOf s.cur n then .ok (ci8Encode b x rm r key) else .error (Cause.cbInvalid, BitVec.ofNat 64 (i * 16 + n))
  | none => .ok (ci8Encode b x rm r key)

/-! ### VCVT (R312) -/

/-- An element as an exact value: a float, or an integer read as UNS says. -/
def numOf (t : ET) (uns : Bool) (x : Nat) : Num :=
  if t.isFloat then decodeFloat t x else Num.ofInt (if uns then (x : Int) else sextNat t.width x)

/-- R247: E5M2 57,344 (0x7B) to E4M3 under RNE with SAT = 1 raises NX beside SAT; R245, which gives SAT alone to a magnitude
    on the grid, holds for every other encoding and mode (DEDUCED, log 52). -/
def fixedE5m2 (ta td : ET) (sat : Bool) (rm x : Nat) : Bool := ta == .e5m2 && td == .e4m3 && sat && rm == 0 && x == 0x7B

/-- R312: the conversion between integer and float types; `ta` is FP32 for a decoded CI8 element, whose bits an FP32
    destination takes as they are. -/
def convert (ta td : ET) (uns sat : Bool) (rm r x : Nat) : Nat × Flags :=
  if ta == td then (x, 0)
  else if fixedE5m2 ta td sat rm x then (0x7E, Flags.sat ||| Flags.nx)
  else if td.isFloat then roundNum (numOf ta uns x) td rm sat r
  else if ta.isFloat then toInteger (decodeFloat ta x) td.width uns rm sat r
  else
    let z : Int := if uns then (x : Int) else sextNat ta.width x
    if td.width > ta.width then (bitsOf td.width z, 0) else narrowInt z td.width uns sat

/-- R309, R249: an effect of a form that rounds advances SBASE. -/
def roundingIf (c : Bool) (v : View) (n : Nat) (e : Eff) : Eff := if c then rounding v n e else e

/-- R312: VCVT. -/
def vcvtOp (v : View) (s : State) : Eff :=
  let ta := Check.tA v
  let td := Check.tD v
  let n := Check.vlmax v
  let vl := vlOf s.cur v
  if noElems s.cur vl then roundingIf (Check.rounds v) v vl (.ok s)
  else
    let same := ta == td
    let s := if !same && (ta == .ci8 || td == .ci8) then touchBank s (curveBank s.cur) else s
    let (s, a, ea) := fetchVec s v false n ta
    let decode := ta == .ci8 && !same
    let a := if decode then curveSrc s a else a
    let tx := if decode then .fp32 else ta
    let rm := rmOf s.cur v
    roundingIf (Check.rounds v) v vl (runElems s v td.width (emulOf (n * td.width)) vl ea (fun i _ =>
      match cbTrap (a.elem i) with
      | .error e => .error e
      | .ok x =>
        let r := roundBits s.cur rm i
        if same then .ok (x, 0)
        else if td == .ci8 then ci8Elem s (numOf tx (unsOf v) x) rm r (x * 16 + tx.code)
        else .ok (convert tx td (unsOf v) v.w2.sat rm r x)))

/-! ### VQNT (R313) -/

/-- R253, R313: one value under an E8 scale. A NaN scale makes no lookup in the curve (log 39). -/
def quantise (s : State) (x : Num) (scale : Nat) (td : ET) (sat : Bool) (rm r key : Nat) : Except (Nat × Word) (Nat × Flags) :=
  let y := x.scale (127 - (scale : Int))
  if scale = 255 then .ok (if td.isFloat then ((fmtOf td).nan, 0) else (0, Flags.nv))
  else if td == .ci8 then ci8Elem s y rm r key
  else if td.isFloat then .ok (roundNum y td rm sat r)
  else .ok (toInteger y td.width false rm sat r)

/-- R313: VQNT. -/
def vqntOp (v : View) (s : State) : Eff :=
  let ta := Check.tA v
  let td := Check.tD v
  let n := Check.vlmax v
  let vl := vlOf s.cur v
  if noElems s.cur vl then rounding v vl (.ok s)
  else
    let s := if td == .ci8 then touchBank s (curveBank s.cur) else s
    let (s, a, ea) := fetchVec s v false n ta
    let (s, scales, eb) :=
      if Check.opb v = 1 then (s, (s.cur.reg v.b).toNat % 256 * ((2 ^ 256 - 1) / 255), none)
      else fetchBits s v.w2.qb false v.b 1 (Check.lm v) 8 32 vl
    let rm := rmOf s.cur v
    rounding v vl (runElems s v td.width (emulOf (n * td.width)) vl (lowerTrap ea eb) (fun i _ =>
      match cbTrap (a.elem i) with
      | .error e => .error e
      | .ok x => quantise s (decodeFloat ta x) (elemOf scales 8 (i / 32)) td v.w2.sat rm (roundBits s.cur rm i) (x * 16 + ta.code)))

/-! ### VPACK and VUNPK (R314) -/

/-- R314: VPACK of one element. -/
def packElem (ta td : ET) (sat : Bool) (x : Nat) : Nat × Flags :=
  if td == .int4 then narrowInt (sextNat ta.width x) 4 false sat
  else narrowInt (x : Int) td.width true sat

/-- R314: VPACK. -/
def vpackOp (v : View) (s : State) : Eff :=
  elementwise v s (Check.vlmax v) false (fun _ x _ _ => packElem (Check.tA v) (Check.tD v) v.w2.sat x)

/-- R314: VUNPK. -/
def vunpkOp (v : View) (s : State) : Eff :=
  elementwise v s (Check.vlmax v) false (fun _ x _ _ => (if Check.tA v == .int4 then bitsOf (widthOf v) (sextNat 4 x) else x, 0))

/-- VCVT (R312): base VCVT copies bits under VTYPE. -/
def execVcvt (r : RF) (s : State) : Res := guarded (some (r.view 43 0)) s vcvtOp

/-- VCVT_X (R312): convert elements from ETA to ETD. -/
def execVcvtX (x : XF) (s : State) : Res := guarded (some (x.view 43 0)) s vcvtOp

/-- VQNT (R313): quantise under E8 block scales (extended form only). -/
def execVqnt (x : XF) (s : State) : Res := guarded (some (x.view 43 1)) s vqntOp

/-- VPACK (R314): pack integers into indices (extended form only). -/
def execVpack (x : XF) (s : State) : Res := guarded (some (x.view 43 2)) s vpackOp

/-- VUNPK (R314): unpack indices into integers (extended form only). -/
def execVunpk (x : XF) (s : State) : Res := guarded (some (x.view 43 3)) s vunpkOp

end Sys2Proof.Machine
end

