-- ==== Sys2Proof/Machine/VPerm.lean ====
section
/-! DEFINITION. Mask operations, permutations, reductions and vector configuration: majors 0x2C to 0x2F (R299, R315 to R321). -/

namespace Sys2Proof.Machine

open Sys2Proof

/-- Bits lo to hi − 1. -/
def rangeMask (lo hi : Nat) : Nat := if hi ≤ lo then 0 else 2 ^ hi - 2 ^ lo

/-- The indices below n whose bit is set, in ascending order. -/
def setBits (x : Nat) (n : Nat) : List Nat := (List.range n).filter (fun i => x.testBit i)

/-- All elements: no write mask. -/
def allElems : Nat := 2 ^ 4096 - 1

/-- R212: an instruction that has no part result writes nothing when its convoy stops at an element; a fault or a wait of its own still counts. -/
def wholeOnly (s : State) (e : Eff) : Eff :=
  match e with
  | .trap s' c x el => .trap s' c x el
  | .wait s' w => .wait s' w
  | e => if s.cur.cv.limit.isSome then .ok s else e

/-! ### Masks (R315, R316) -/

/-- Bits of a mask register replaced under a mask of bits. -/
def putMask (s : State) (d sel x : Nat) : State :=
  let old := (s.cur.kreg d).toNat
  { s with cur := s.cur.setK d (BitVec.ofNat 4096 ((old ^^^ (old &&& sel)) ||| (x &&& sel))) }

/-- R315: a logical instruction on bits VSTART to VL − 1. -/
def klogic (f : Nat → Nat → Nat) (v : View) (s : State) : Eff :=
  let t := s.cur
  .ok (putMask s v.d (rangeMask (startOf t) (endOf t (vlOf t v))) (f (t.kreg v.a).toNat (t.kreg v.b).toNat))

/-- R316: the counted bits: active below VL and set in k[A]. -/
def counted (t : Strand) (v : View) : Nat := maskOf t v &&& rangeMask 0 (vlOf t v) &&& (t.kreg v.a).toNat

/-- R316: the lowest counted bit, VL when there is none. -/
def firstSet (t : Strand) (v : View) : Nat := (setBits (counted t v) (vlOf t v)).headD (vlOf t v)

/-- R316: KPOP. -/
def kpopOp (v : View) (s : State) : Eff :=
  wholeOnly s (.ok (s.holdReg v.d (BitVec.ofNat 64 (setBits (counted s.cur v) (vlOf s.cur v)).length)))

/-- R316: KFIRST. -/
def kfirstOp (v : View) (s : State) : Eff := wholeOnly s (.ok (s.holdReg v.d (BitVec.ofNat 64 (firstSet s.cur v))))

/-- R316: KSBF, KSIF and KSOF; `f first` gives the bits. -/
def kset (f : Nat → Nat) (v : View) (s : State) : Eff :=
  let t := s.cur
  .ok (putMask s v.d (maskOf t v &&& rangeMask (startOf t) (endOf t (vlOf t v))) (f (firstSet t v)))

/-! ### Permutations (R317, R318) -/

/-- R317: src(j) of a group of n elements. -/
def srcAt (g w n j : Nat) : Nat := if j < n then elemOf g w j else 0

/-- R317: a fault of operand A's pops belongs to the first element that runs: every element may read it. -/
def crossCap (t : Strand) (e : Option ElemTrap) : Option ElemTrap := e.map (fun (c, x, _) => (c, x, startOf t))

/-- R317: operand A as a bit string, for cross-lane reads. -/
def crossA (s : State) (v : View) : State × Nat × Option ElemTrap :=
  let n := Check.vlmax v
  let (s, g, e) := fetchBits s v.w2.qa false v.a (emulOf (n * widthOf v)) (Check.lm v) (widthOf v) 1 (vlOf s.cur v)
  (s, g, crossCap s.cur e)

/-- R317: an instruction that reads A across lanes; `f t g i d` is the new element. -/
def crossLane (mask : Strand → Nat) (vl : Strand → Nat) (f : Strand → Nat → Nat → Nat → Nat) (v : View) (s : State) : Eff :=
  let w := widthOf v
  if noElems s.cur (vlOf s.cur v) then .ok s
  else
    let (s, g, ea) := crossA s v
    runMasked s v (mask s.cur) w (emulOf (Check.vlmax v * w)) (vl s.cur) ea (fun i d => .ok (f s.cur g i d % 2 ^ w, 0))

/-- R317: VPERM. -/
def vpermOp (v : View) (s : State) : Eff :=
  let w := widthOf v
  let n := Check.vlmax v
  let vl := vlOf s.cur v
  if noElems s.cur vl then .ok s
  else
    let (s, g, ea) := crossA s v
    let (s, b, eb) := fetchVec s v true n (Check.tB v)
    runElems s v w (emulOf (n * w)) vl (lowerTrap ea eb) (fun i _ =>
      match cbTrap (b.elem i) with
      | .ok j => .ok (srcAt g w n j, 0)
      | .error e => .error e)

/-- R317: VSLIDEUP. -/
def vslideupOp (v : View) (s : State) : Eff :=
  crossLane (fun t => maskOf t v) (fun t => vlOf t v) (fun t g i d =>
    let n := (t.reg v.b).toNat
    if n ≤ i then elemOf g (widthOf v) (i - n) else d) v s

/-- R317: VSLIDEDN. -/
def vslidednOp (v : View) (s : State) : Eff :=
  crossLane (fun t => maskOf t v) (fun t => vlOf t v) (fun t g i _ => srcAt g (widthOf v) (Check.vlmax v) (i + (t.reg v.b).toNat)) v s

/-- R317: VBCAST. -/
def vbcastOp (v : View) (s : State) : Eff :=
  crossLane (fun t => maskOf t v) (fun t => vlOf t v) (fun t g _ _ => srcAt g (widthOf v) (Check.vlmax v) (t.reg v.b).toNat) v s

/-- R317: the active elements below VL. -/
def activeBelow (t : Strand) (v : View) (n : Nat) : List Nat := setBits (maskOf t v) n

/-- R317: VCOMPR: VSTART counts destination elements. -/
def vcomprOp (v : View) (s : State) : Eff :=
  let l := activeBelow s.cur v (vlOf s.cur v)
  crossLane (fun _ => allElems) (fun _ => l.length) (fun _ g i _ => elemOf g (widthOf v) (l.getD i 0)) v s

/-- R317: VEXPD. -/
def vexpdOp (v : View) (s : State) : Eff :=
  crossLane (fun t => maskOf t v) (fun t => vlOf t v) (fun t g i _ => elemOf g (widthOf v) (activeBelow t v i).length) v s

/-- R317: VMERGE: an element is looked up in the operand it comes from. -/
def vmergeOp (v : View) (s : State) : Eff :=
  let w := widthOf v
  let n := Check.vlmax v
  let vl := vlOf s.cur v
  if noElems s.cur vl then .ok s
  else
    let (s, a, ea) := fetchVec s v false n (Check.tD v)
    let (s, b, eb) := fetchVec s v true n (Check.tD v)
    let mask := maskOf s.cur v
    runMasked s v allElems w (emulOf (n * w)) vl (lowerTrap ea eb) (fun i _ =>
      match cbTrap (if mask.testBit i then a.elem i else b.elem i) with
      | .ok x => .ok (x, 0)
      | .error e => .error e)

/-- R317: an instruction without a vector source; `f i` is the new element. -/
def fromIndex (mask : Nat) (f : Nat → Nat) (v : View) (s : State) : Eff :=
  let w := widthOf v
  let vl := vlOf s.cur v
  if noElems s.cur vl then .ok s
  else runMasked s v mask w (emulOf (Check.vlmax v * w)) vl none (fun i _ => .ok (f i % 2 ^ w, 0))

/-- R317: VMVSV. -/
def vmvsvOp (v : View) (s : State) : Eff := fromIndex (maskOf s.cur v) (fun _ => (s.cur.reg v.a).toNat) v s

/-- R317: VIOTA. -/
def viotaOp (v : View) (s : State) : Eff := fromIndex allElems (fun i => (activeBelow s.cur v i).length) v s

/-- R317: VID. -/
def vidOp (v : View) (s : State) : Eff := fromIndex (maskOf s.cur v) (fun i => i) v s

/-- R318: VMVVS. A CI8 code has no sign of its own and is zero-extended (log 15). -/
def vmvvsOp (v : View) (s : State) : Eff :=
  let w := widthOf v
  let (s, g, ea) := crossA s v
  match ea with
  | some (c, x, _) => .trap s c x (some (startOf s.cur))
  | none =>
    let x := srcAt g w (Check.vlmax v) (s.cur.reg v.b).toNat
    wholeOnly s (.ok (s.holdReg v.d (if (Check.tD v).isInt && !unsOf v then BitVec.ofInt 64 (sextNat w x) else BitVec.ofNat 64 x)))

/-! ### Reductions (R257, R319 to R321) -/

/-- Elements of an operand at some indices; a lookup's fault names its element. -/
def elemsAt (a : Src) : List Nat → Except ElemTrap (List Nat)
  | [] => .ok []
  | i :: is =>
    match cbTrap (a.elem i) with
    | .error (c, x) => .error (c, x, i)
    | .ok x =>
      match elemsAt a is with
      | .ok xs => .ok (x :: xs)
      | .error e => .error e

/-- R319: the operands of a reduction that goes on at element `first`: A is popped only when elements are below VL, B always; the faults of their
    pops, B's at that element. -/
def reduceOperands (s : State) (v : View) (first : Nat) : State × Src × Src × Option ElemTrap × Option ElemTrap :=
  let n := Check.vlmax v
  let s0 := { s with cur := { s.cur with vstart := BitVec.ofNat 64 first } }
  let (s1, a, ea) := if vlOf s.cur v = 0 then (s0, .same 0, none) else fetchVec s0 v false n (Check.tA v)
  let (s2, b, eb) := fetchVec s1 v true n (Check.tB v)
  ({ s2 with cur := { s2.cur with vstart := s.cur.vstart } }, a, b, ea, eb.map (fun (c, x, _) => (c, x, first)))

/-- A trap of a reduction. -/
def reduceTrap (s : State) (e : ElemTrap) : Eff := .trap s e.1 e.2.1 (some e.2.2)

/-- The trap of a lookup that failed. -/
def lookupTrap (r : Except ElemTrap (List Nat)) : Option ElemTrap :=
  match r with
  | .error e => some e
  | .ok _ => none

/-- R229, R319: the start values `bs` of B and the elements `is` of A, or the trap of the lowest element that has one, A's before B's. -/
def reduceReads (a b : Src) (ea eb : Option ElemTrap) (bs is : List Nat) : Except ElemTrap (List Nat × List Nat) :=
  let xb := elemsAt b bs
  let xa := elemsAt a is
  match lowerTrap (lowerTrap ea (lookupTrap xa)) (lowerTrap eb (lookupTrap xb)), xb, xa with
  | none, .ok y, .ok x => .ok (y, x)
  | some e, _, _ => .error e
  | none, .error e, _ => .error e
  | none, _, .error e => .error e

/-- R319: an unordered reduction; `f node x y` combines two values. -/
def vreduce (f : Nat → Nat → Nat → Nat × Flags) (v : View) (s : State) : Eff :=
  let w := widthOf v
  let vl := vlOf s.cur v
  let (s, a, b, ea, eb) := reduceOperands s v 0
  match reduceReads a b ea eb [0] (setBits (maskOf s.cur v) vl) with
  | .error e => reduceTrap s e
  | .ok (x0, xs) =>
    let (r, fl) := treeReduce f 0 (x0 ++ xs)
    let g := setElem (readGroup s.cur v.d 1) w 0 r
    wholeOnly s (.ok { s with cur := (writeGroup s.cur v.d 1 g).raise fl })

/-- R319: integer combines. -/
def vredInt (f : Nat → Nat → Nat → Nat) (v : View) (s : State) : Eff := vreduce (fun _ x y => (f (widthOf v) x y % 2 ^ widthOf v, 0)) v s

/-- R319: the larger or smaller, signed or unsigned. -/
def vredPick (max : Bool) (v : View) (s : State) : Eff :=
  vredInt (fun w x y =>
    let le := if unsOf v then x ≤ y else sextNat w x ≤ sextNat w y
    if le == max then y else x) v s

/-- R319, R248: VFREDUSUM: node n draws the bits of element n. -/
def vfredusumOp (v : View) (s : State) : Eff :=
  let t := s.cur
  let ty := Check.tD v
  let rm := rmOf t v
  rounding v (vlOf t v) (vreduce (fun n x y =>
    let (z, fl) := sumNum rm [decodeFloat ty x, decodeFloat ty y]
    let (b, fl') := roundNum z ty rm v.w2.sat (roundBits t rm n)
    (b, fl ||| fl')) v s)

/-- R321: steps of VFREDOSUM from element i: the sum, the flags, and where and why it stopped. -/
def orderedLoop (a : Src) (mask : Nat) (step : Nat → Nat → Nat → Nat × Flags) : Nat → Nat → Nat → Flags → Nat × Nat × Flags × Option ElemTrap
  | 0, i, acc, fl => (acc, i, fl, none)
  | k + 1, i, acc, fl =>
    if mask.testBit i then
      match cbTrap (a.elem i) with
      | .error (c, x) => (acc, i, fl, some (c, x, i))
      | .ok x => let (z, g) := step i acc x; orderedLoop a mask step k (i + 1) z (fl ||| g)
    else orderedLoop a mask step k (i + 1) acc fl

/-- R321: NEXT. -/
def Strand.nextOf (t : Strand) : Nat := t.rsidx.toNat % 2 ^ 13

/-- R321: the value VFREDOSUM goes on from: b[0], or ACC where one is in progress. -/
def orderedStart (t : Strand) (b : Src) (w : Nat) : Except ElemTrap (List Nat) :=
  if t.nextOf = 0 then elemsAt b [0] else .ok [t.rstate.toNat % 2 ^ w]

/-- R197, R321: a fault counts unless the convoy is left at or before its element. -/
def dueTrap (t : Strand) (e : Option ElemTrap) : Option ElemTrap := if e.any (fun x => t.cv.limit.any (· ≤ x.2.2)) then none else e

/-- R321: VFREDOSUM. A convoy that is left before it retires keeps the sum in RSTATE, whole or not: vd[0] is written at completion alone. -/
def vfredosumOp (v : View) (s : State) : Eff :=
  let ty := Check.tD v
  let w := ty.width
  let vl := vlOf s.cur v
  let rm := rmOf s.cur v
  let nx := s.cur.nextOf
  let (s, a, b, ea, eb) := reduceOperands s v nx
  let t := s.cur
  let left := t.cv.limit.isSome
  let x0 := orderedStart t b w
  match dueTrap t (lowerTrap eb (lookupTrap x0)) with
  | some e =>
    let first := if nx < vl && (maskOf t v).testBit nx then [nx] else []
    reduceTrap s ((lowerTrap (lowerTrap ea (lookupTrap (elemsAt a first))) (some e)).getD e)
  | none =>
    let acc0 := match x0 with
      | .ok l => l.headD 0
      | .error _ => t.rstate.toNat
    let (acc, i, fl, trap) := orderedLoop a (maskOf t v) (fun i acc x =>
      let (z, fl) := sumNum rm [decodeFloat ty acc, decodeFloat ty x]
      let (r, fl') := roundNum z ty rm v.w2.sat (roundBits t rm i)
      (r, fl ||| fl')) (capEnd ea (endOf t vl) - nx) nx acc0 0
    let part := { s with cur := { t.raise fl with rstate := BitVec.ofNat 64 acc, rsidx := BitVec.ofNat 64 i } }
    match lowerTrap trap (dueTrap t ea) with
    | some e => reduceTrap part e
    | none =>
      if left then rounding v vl (.ok part)
      else
        let t' := writeGroup t v.d 1 (setElem (readGroup t v.d 1) w 0 acc)
        rounding v vl (.ok { s with cur := { t'.raise fl with rstate := 0, rsidx := 0 } })

/-- R320: VREDMAXSUM. -/
def vredmaxsumOp (v : View) (s : State) : Eff :=
  let vl := vlOf s.cur v
  let (s, a, b, ea, eb) := reduceOperands s v 0
  let js := (List.range (vl / 2)).filter (fun j => (maskOf s.cur v).testBit (2 * j))
  match reduceReads a b ea eb [0, 1] (js.flatMap (fun j => [2 * j, 2 * j + 1])) with
  | .error e => reduceTrap s e
  | .ok (x0, xs) =>
    let l := x0 ++ xs
    let pairs := (List.range (l.length / 2)).map (fun j => (l.getD (2 * j) 0, l.getD (2 * j + 1) 0))
    let ((m, z), _) := treeReduce (fun _ p q => (maxsum p q, (0 : Flags))) (0, 0) pairs
    let g := setElem (setElem (readGroup s.cur v.d 1) 32 0 m) 32 1 z
    wholeOnly s (.ok { s with cur := writeGroup s.cur v.d 1 g })

/-! ### Configuration (R299) -/

/-- R299: VTYPE and VL a request gives, from the length in s[A] and the current VL. -/
def configure (req len vl : Nat) : Nat × Nat :=
  let et := req % 16
  if req / 256 ≠ 0 ∨ natBits req 7 6 = 3 ∨ (10 ≤ et ∧ et ≤ 14) then (256, 0)
  else
    let vlmax := vlmaxOf (lmulOf (natBits req 5 4)) (ET.ofCode et).width
    (req % 64, match natBits req 7 6 with
      | 0 => min len vlmax
      | 1 => vlmax
      | _ => min vl vlmax)

/-- R299: VSETVL and VSETVLI. -/
def setVl (req : Strand → View → Word) (v : View) (s : State) : Eff :=
  let t := s.cur
  let (ty, vl) := configure (req t v).toNat (t.reg v.a).toNat t.vl.toNat
  .ok ({ s with cur := { t with vtype := BitVec.ofNat 64 ty, vl := BitVec.ofNat 64 vl, vstart := 0 } }.setReg v.d (BitVec.ofNat 64 vl))

/-- KAND (R315): mask and. -/
def execKand (r : RF) (s : State) : Res := guarded (some (r.view 44 0)) s (klogic (fun x y => x &&& y))

/-- KAND_X (R315): extended KAND. -/
def execKandX (x : XF) (s : State) : Res := guarded (some (x.view 44 0)) s (klogic (fun x y => x &&& y))

/-- KOR (R315): mask or. -/
def execKor (r : RF) (s : State) : Res := guarded (some (r.view 44 1)) s (klogic (fun x y => x ||| y))

/-- KOR_X (R315): extended KOR. -/
def execKorX (x : XF) (s : State) : Res := guarded (some (x.view 44 1)) s (klogic (fun x y => x ||| y))

/-- KXOR (R315): mask exclusive or. -/
def execKxor (r : RF) (s : State) : Res := guarded (some (r.view 44 2)) s (klogic (fun x y => x ^^^ y))

/-- KXOR_X (R315): extended KXOR. -/
def execKxorX (x : XF) (s : State) : Res := guarded (some (x.view 44 2)) s (klogic (fun x y => x ^^^ y))

/-- KNOT (R315): mask not. -/
def execKnot (r : RF) (s : State) : Res := guarded (some (r.view 44 3)) s (klogic (fun x _ => x ^^^ allElems))

/-- KNOT_X (R315): extended KNOT. -/
def execKnotX (x : XF) (s : State) : Res := guarded (some (x.view 44 3)) s (klogic (fun x _ => x ^^^ allElems))

/-- KMOV (R315): mask move. -/
def execKmov (r : RF) (s : State) : Res := guarded (some (r.view 44 4)) s (klogic (fun x _ => x))

/-- KMOV_X (R315): extended KMOV. -/
def execKmovX (x : XF) (s : State) : Res := guarded (some (x.view 44 4)) s (klogic (fun x _ => x))

/-- KPOP (R316): count set active mask bits below VL. -/
def execKpop (r : RF) (s : State) : Res := guarded (some (r.view 44 5)) s kpopOp

/-- KPOP_X (R316): extended KPOP. -/
def execKpopX (x : XF) (s : State) : Res := guarded (some (x.view 44 5)) s kpopOp

/-- KFIRST (R316): index of the first set bit, or VL. -/
def execKfirst (r : RF) (s : State) : Res := guarded (some (r.view 44 6)) s kfirstOp

/-- KFIRST_X (R316): extended KFIRST. -/
def execKfirstX (x : XF) (s : State) : Res := guarded (some (x.view 44 6)) s kfirstOp

/-- KSBF (R316): set bits before the first. -/
def execKsbf (r : RF) (s : State) : Res := guarded (some (r.view 44 7)) s (kset (rangeMask 0))

/-- KSBF_X (R316): extended KSBF. -/
def execKsbfX (x : XF) (s : State) : Res := guarded (some (x.view 44 7)) s (kset (rangeMask 0))

/-- KSIF (R316): set bits up to and including the first. -/
def execKsif (r : RF) (s : State) : Res := guarded (some (r.view 44 8)) s (kset (fun n => rangeMask 0 (n + 1)))

/-- KSIF_X (R316): extended KSIF. -/
def execKsifX (x : XF) (s : State) : Res := guarded (some (x.view 44 8)) s (kset (fun n => rangeMask 0 (n + 1)))

/-- KSOF (R316): set only the first. -/
def execKsof (r : RF) (s : State) : Res := guarded (some (r.view 44 9)) s (kset (fun n => 2 ^ n))

/-- KSOF_X (R316): extended KSOF. -/
def execKsofX (x : XF) (s : State) : Res := guarded (some (x.view 44 9)) s (kset (fun n => 2 ^ n))

/-- VPERM (R317): permute by index vector. -/
def execVperm (r : RF) (s : State) : Res := guarded (some (r.view 45 0)) s vpermOp

/-- VPERM_X (R317): extended VPERM. -/
def execVpermX (x : XF) (s : State) : Res := guarded (some (x.view 45 0)) s vpermOp

/-- VSLIDEUP (R317): slide elements up by s[B]. -/
def execVslideup (r : RF) (s : State) : Res := guarded (some (r.view 45 1)) s vslideupOp

/-- VSLIDEUP_X (R317): extended VSLIDEUP. -/
def execVslideupX (x : XF) (s : State) : Res := guarded (some (x.view 45 1)) s vslideupOp

/-- VSLIDEDN (R317): slide elements down by s[B]. -/
def execVslidedn (r : RF) (s : State) : Res := guarded (some (r.view 45 2)) s vslidednOp

/-- VSLIDEDN_X (R317): extended VSLIDEDN. -/
def execVslidednX (x : XF) (s : State) : Res := guarded (some (x.view 45 2)) s vslidednOp

/-- VBCAST (R317): broadcast element s[B]. -/
def execVbcast (r : RF) (s : State) : Res := guarded (some (r.view 45 3)) s vbcastOp

/-- VBCAST_X (R317): extended VBCAST. -/
def execVbcastX (x : XF) (s : State) : Res := guarded (some (x.view 45 3)) s vbcastOp

/-- VCOMPR (R317): compress active elements. -/
def execVcompr (r : RF) (s : State) : Res := guarded (some (r.view 45 4)) s vcomprOp

/-- VCOMPR_X (R317): extended VCOMPR with a selecting mask. -/
def execVcomprX (x : XF) (s : State) : Res := guarded (some (x.view 45 4)) s vcomprOp

/-- VEXPD (R317): expand elements to active positions. -/
def execVexpd (r : RF) (s : State) : Res := guarded (some (r.view 45 5)) s vexpdOp

/-- VEXPD_X (R317): extended VEXPD. -/
def execVexpdX (x : XF) (s : State) : Res := guarded (some (x.view 45 5)) s vexpdOp

/-- VMERGE (R317): merge A and B under the mask. -/
def execVmerge (r : RF) (s : State) : Res := guarded (some (r.view 45 6)) s vmergeOp

/-- VMERGE_X (R317): extended VMERGE, including expanded operands. -/
def execVmergeX (x : XF) (s : State) : Res := guarded (some (x.view 45 6)) s vmergeOp

/-- VMVSV (R317): splat s[A] into every active element. -/
def execVmvsv (r : RF) (s : State) : Res := guarded (some (r.view 45 7)) s vmvsvOp

/-- VMVSV_X (R317): extended VMVSV. -/
def execVmvsvX (x : XF) (s : State) : Res := guarded (some (x.view 45 7)) s vmvsvOp

/-- VMVVS (R318): move element s[B] to a scalar register. -/
def execVmvvs (r : RF) (s : State) : Res := guarded (some (r.view 45 8)) s vmvvsOp

/-- VMVVS_X (R318): extended VMVVS. -/
def execVmvvsX (x : XF) (s : State) : Res := guarded (some (x.view 45 8)) s vmvvsOp

/-- VIOTA (R317): count active elements below each index. -/
def execViota (r : RF) (s : State) : Res := guarded (some (r.view 45 9)) s viotaOp

/-- VIOTA_X (R317): extended VIOTA. -/
def execViotaX (x : XF) (s : State) : Res := guarded (some (x.view 45 9)) s viotaOp

/-- VID (R317): write element indices. -/
def execVid (r : RF) (s : State) : Res := guarded (some (r.view 45 10)) s vidOp

/-- VID_X (R317): extended VID. -/
def execVidX (x : XF) (s : State) : Res := guarded (some (x.view 45 10)) s vidOp

/-- VREDSUM (R319): integer sum reduction. -/
def execVredsum (r : RF) (s : State) : Res := guarded (some (r.view 46 0)) s (vredInt (fun _ x y => x + y))

/-- VREDSUM_X (R319): extended VREDSUM. -/
def execVredsumX (x : XF) (s : State) : Res := guarded (some (x.view 46 0)) s (vredInt (fun _ x y => x + y))

/-- VREDMAX (R319): integer maximum reduction. -/
def execVredmax (r : RF) (s : State) : Res := guarded (some (r.view 46 1)) s (vredPick true)

/-- VREDMAX_X (R319): extended VREDMAX. -/
def execVredmaxX (x : XF) (s : State) : Res := guarded (some (x.view 46 1)) s (vredPick true)

/-- VREDMIN (R319): integer minimum reduction. -/
def execVredmin (r : RF) (s : State) : Res := guarded (some (r.view 46 2)) s (vredPick false)

/-- VREDMIN_X (R319): extended VREDMIN. -/
def execVredminX (x : XF) (s : State) : Res := guarded (some (x.view 46 2)) s (vredPick false)

/-- VFREDUSUM (R319): unordered float sum by tree. -/
def execVfredusum (r : RF) (s : State) : Res := guarded (some (r.view 46 3)) s vfredusumOp

/-- VFREDUSUM_X (R319): extended VFREDUSUM. -/
def execVfredusumX (x : XF) (s : State) : Res := guarded (some (x.view 46 3)) s vfredusumOp

/-- VFREDOSUM (R321): ordered float sum, restartable from RSTATE and RSIDX. -/
def execVfredosum (r : RF) (s : State) : Res := guarded (some (r.view 46 4)) s vfredosumOp

/-- VFREDOSUM_X (R321): extended VFREDOSUM. -/
def execVfredosumX (x : XF) (s : State) : Res := guarded (some (x.view 46 4)) s vfredosumOp

/-- VFREDMAX (R319): float maximum reduction. -/
def execVfredmax (r : RF) (s : State) : Res := guarded (some (r.view 46 5)) s (fun v => vreduce (fun _ x y => (minmaxBits true (Check.tD v) x y, 0)) v)

/-- VFREDMAX_X (R319): extended VFREDMAX. -/
def execVfredmaxX (x : XF) (s : State) : Res := guarded (some (x.view 46 5)) s (fun v => vreduce (fun _ x y => (minmaxBits true (Check.tD v) x y, 0)) v)

/-- VFREDMIN (R319): float minimum reduction. -/
def execVfredmin (r : RF) (s : State) : Res := guarded (some (r.view 46 6)) s (fun v => vreduce (fun _ x y => (minmaxBits false (Check.tD v) x y, 0)) v)

/-- VFREDMIN_X (R319): extended VFREDMIN. -/
def execVfredminX (x : XF) (s : State) : Res := guarded (some (x.view 46 6)) s (fun v => vreduce (fun _ x y => (minmaxBits false (Check.tD v) x y, 0)) v)

/-- VREDMAXSUM (R320): max-sum tree reduction over FP32 pairs. -/
def execVredmaxsum (r : RF) (s : State) : Res := guarded (some (r.view 46 7)) s vredmaxsumOp

/-- VREDMAXSUM_X (R320): extended VREDMAXSUM. -/
def execVredmaxsumX (x : XF) (s : State) : Res := guarded (some (x.view 46 7)) s vredmaxsumOp

/-- VSETVL (R299): set VTYPE and VL from the request in s[B]. -/
def execVsetvl (r : RF) (s : State) : Res := guarded (some (r.view 47 0)) s (setVl (fun t v => t.reg v.b))

/-- VSETVLI (R299): set VTYPE and VL from a literal request. -/
def execVsetvli (r : RLF) (s : State) : Res := guarded (some (r.view 47 1)) s (setVl (fun _ v => v.lit))

end Sys2Proof.Machine
end

