-- ==== Sys2Proof/Machine/VMem.lean ====
section
/-! DEFINITION. Vector loads, stores and atomics: majors 0x20 and 0x21 (R103 to R105, R333 to R339). -/

namespace Sys2Proof.Machine

open Sys2Proof

/-- How one element access ends: with a value, a precise fault at an address, or a wait. -/
inductive Acc
  | val (x : Nat)
  | bad (cause : Nat) (va : Word)
  | wait
  deriving DecidableEq, Repr

/-- R105: the lane of element i of width w. -/
def laneOf (w i : Nat) : Nat := i * w / 64 % 32

/-- R333: s[A] + sext(IMM16). -/
def vecBase (t : Strand) (v : View) : Word := t.reg v.a + v.w2.imm16.signExtend 64

/-- A register element of width w written, element i counting from register r up. -/
def Strand.putElem (t : Strand) (r w i x : Nat) : Strand :=
  let q := i * w / 2048
  let o := i * w % 2048
  let n := if o + w ≤ 2048 then 1 else 2
  let g := readGroup t (r + q) n
  writeGroup t (r + q) n (g ^^^ ((((g >>> o) % 2 ^ w) ^^^ (x % 2 ^ w)) <<< o))

/-- R207: the arrival bit of granule g of a slot. -/
def FlSlot.granule (y : FlSlot) (g : Nat) : Bool := (y.arrived >>> (256 * g)) % 2 ^ 256 == 2 ^ 256 - 1

/-- R202: a byte of the own scratchpad lies in a FILLING slot, in a granule that has not arrived. -/
def granulePending (t : Strand) (off : Nat) : Bool :=
  t.flacons.toList.any (fun f =>
    let ring := f.base.toNat - 0x00FD000000000000
    ring ≤ off && off < ring + f.size * f.slots.length &&
      (match f.slots[(off - ring) / f.size]? with
        | some y => y.st == .filling && !y.granule ((off - ring) % f.size / 256)
        | none => false))

/-- R202: a byte of a core's scratchpad lies in a FILLING slot of some unit resident there, in a granule that has not arrived. -/
def bytePending (s : State) (core off : Nat) : Bool := s.allStrands.any (fun p => p.1.core == core && granulePending p.2 off)

/-- R202: a vector load of a place waits on arrival bits. -/
def arrivalPending (s : State) (p : Place) (n : Nat) : Bool :=
  match p with
  | .scratch m c o => m == s.modId && (List.range n).any (fun j => bytePending s c (o + j))
  | .slice m c o => m == s.modId && (List.range 4).any (fun j => bytePending s c (o + j) || bytePending s c (o + 128 + j))
  | _ => false

/-- R202, R336: an element's load of n bytes. -/
def loadElem (s : State) (lane : Nat) (va : Word) (n : Nat) (o : Ord) : State × Acc :=
  match resolve s s.me .load (some lane) va n n with
  | (s, .error c) => (s, .bad c va)
  | (s, .ok g) =>
    if arrivalPending s g.place n then (s, .wait)
    else
      match loadAt s s.me g n o with
      | (s, .val x) => (s, .val x)
      | (s, .fault c) => (s, .bad c va)
      | (s, .wait) => (s, .wait)

/-- R335: the bytes of a list loaded, the first lowest. -/
def loadBytes (s : State) (lane : Nat) (base : Word) (o : Ord) : List Nat → State × Acc
  | [] => (s, .val 0)
  | b :: bs =>
    match loadElem s lane (base + BitVec.ofNat 64 b) 1 o with
    | (s, .val x) =>
      (match loadBytes s lane base o bs with
        | (s, .val y) => (s, .val (x + 256 * y))
        | r => r)
    | r => r

/-- The elements in ascending order until one does not end well: what it did, and its number. -/
def vecLoop (f : State → Nat → State × Acc) (mask : Nat) : Nat → Nat → State → State × Option (Acc × Nat)
  | 0, _, s => (s, none)
  | k + 1, i, s =>
    if mask.testBit i then
      match f s i with
      | (s, .val _) => vecLoop f mask k (i + 1) s
      | (s, r) => (s, some (r, i))
    else vecLoop f mask k (i + 1) s

/-- R103: how a vector access ends: complete, a trap at an element, or a wait before one. -/
def vecEnd (r : State × Option (Acc × Nat)) : Eff :=
  match r with
  | (s, some (.bad c va, i)) => .trap s c va (some i)
  | (s, some (.wait, i)) => .wait { s with cur := { s.cur with vstart := BitVec.ofNat 64 i } } .hardware
  | (s, _) => .ok s

/-- R158: with O = 1 an element waits until the writes before it are complete at the scope. -/
def inOrder (v : View) (f : State → Nat → State × Acc) (s : State) (i : Nat) : State × Acc :=
  if v.w2.o && writesPending s s.cur v.w2.scope.toNat then (s, .wait) else f s i

/-- R301, R336: an access of the active elements from VSTART on. -/
def runAccess (s : State) (v : View) (f : State → Nat → State × Acc) : State × Option (Acc × Nat) :=
  let t := s.cur
  vecLoop f (maskOf t v) (endOf t (vlOf t v) - startOf t) (startOf t) s

/-- R333: the address of element i; `kind` 0 unit stride, 1 stride in s[B], 2 index in v[B]. -/
def vecAddr (t : Strand) (v : View) (kind i : Nat) : Word :=
  let base := vecBase t v
  match kind with
  | 1 => base + BitVec.ofNat 64 i * t.reg v.b
  | 2 =>
    let w := (ET.ofCode v.w1.eta.toNat).width
    base + BitVec.ofNat 64 (elemOf (readGroup t v.b (emulOf (Check.vlmax v * w))) w i)
  | _ => base + BitVec.ofNat 64 (i * (widthOf v / 8))

/-- R335: the bytes an element of bi bits lies in. -/
def bytesOfElem (bi i : Nat) : List Nat := (List.range (((i + 1) * bi - 1) / 8 + 1 - i * bi / 8)).map (i * bi / 8 + ·)

/-- R333, R335: element i of a load, written to the group at D. -/
def vldElem (v : View) (kind : Nat) (s : State) (i : Nat) : State × Acc :=
  let w := widthOf v
  let o := ordOf v
  let r :=
    if w < 8 then
      match loadBytes s (laneOf w i) (vecBase s.cur v) o (bytesOfElem w i) with
      | (s, .val x) => (s, .val (x >>> (i * w % 8) % 2 ^ w))
      | r => r
    else loadElem s (laneOf w i) (vecAddr s.cur v kind i) (w / 8) o
  match r with
  | (s, .val x) => ({ s with cur := s.cur.putElem v.d w i x }, .val x)
  | r => r

/-- R333: VLD, VLDS and VLDX. -/
def vload (kind : Nat) (v : View) (s : State) : Eff := vecEnd (runAccess s v (vldElem v kind))

/-- R104: VLD.FF: a fault above element 0 ends VL there. -/
def vloadFirst (v : View) (s : State) : Eff :=
  match runAccess s v (vldElem v 0) with
  | (s, some (.bad c va, i)) => if i = 0 then .trap s c va (some 0) else .ok { s with cur := { s.cur with vl := BitVec.ofNat 64 i } }
  | r => vecEnd r

/-- R335: every bit of byte b belongs to an active element in [lo, hi). -/
def wholeByte (mask bi b lo hi : Nat) : Bool :=
  let i0 := 8 * b / bi
  (List.range ((8 * b + 7) / bi + 1 - i0)).all (fun k => mask.testBit (i0 + k) && lo ≤ i0 + k && i0 + k < hi)

/-- One access that an element of a store or an atomic makes, translated: where it lands, its address, its bytes and its value. -/
structure ElemAccess where
  target : Target
  va : Word
  n : Nat
  x : Nat
  deriving DecidableEq, Repr

/-- R103: the accesses of an element, each an address, its bytes and its value, translated; or the first fault. -/
def reachElem (s : State) (kind : AccessKind) (lane : Nat) : List (Word × Nat × Nat) → State × Except (Nat × Word) (List ElemAccess)
  | [] => (s, .ok [])
  | (va, n, x) :: l =>
    match resolve s s.me kind (some lane) va n n with
    | (s, .error c) => (s, .error (c, va))
    | (s, .ok g) =>
      match reachElem s kind lane l with
      | (s, .error e) => (s, .error e)
      | (s, .ok as) => (s, .ok ({ target := g, va, n, x } :: as))

/-- R103: elements translated in ascending order by `f`, up to the first that faults: their accesses, and that fault. -/
def reachElems (f : State → Nat → State × Except (Nat × Word) (List ElemAccess)) : List Nat → State → State × List (Nat × List ElemAccess) × Option ElemTrap
  | [], s => (s, [], none)
  | i :: is, s =>
    match f s i with
    | (s, .error (c, va)) => (s, [], some (c, va, i))
    | (s, .ok as) =>
      match reachElems f is s with
      | (s, es, e) => (s, (i, as) :: es, e)

/-- Elements that have been translated perform in ascending order until one does not end well: how that one ends, and its number. -/
def performElems (f : List ElemAccess → State → Nat → State × Acc) : List (Nat × List ElemAccess) → State → State × Option (Acc × Nat)
  | [], s => (s, none)
  | (i, as) :: es, s =>
    match f as s i with
    | (s, .val _) => performElems f es s
    | (s, r) => (s, some (r, i))

/-- R336: the accesses of an element stored. -/
def putElem (o : Ord) : List ElemAccess → State → Nat → State × Acc
  | [], s, _ => (s, .val 0)
  | a :: as, s, i =>
    match storeAt s s.me a.target a.n (BitVec.ofNat 64 a.x) a.va o with
    | (s, .done) => putElem o as (storedAt s a.target.place a.n) i
    | (s, .fault c) => (s, .bad c a.va)
    | (s, .wait) => (s, .wait)

/-- R333, R335: what element i of a store from the group at D sends: addresses, bytes and values. A byte of several elements goes with the lowest. -/
def vstParts (t : Strand) (v : View) (kind vl i : Nat) : List (Word × Nat × Nat) :=
  let w := widthOf v
  let g := readGroup t v.d (emulOf (Check.vlmax v * w))
  if w < 8 then
    ((bytesOfElem w i).filter (fun b => 8 * b / w == i && wholeByte (maskOf t v) w b (startOf t) vl)).map
      (fun b => (vecBase t v + BitVec.ofNat 64 b, 1, elemOf g 8 b))
  else [(vecAddr t v kind i, w / 8, elemOf g w i)]

/-- R199, R301: the active elements from VSTART up to below `hi`, by element groups of 256 bits. -/
def activeGroups (t : Strand) (v : View) (hi : Nat) : List (List Nat) :=
  let per := 256 / widthOf v
  (List.range (hi / per + 1)).map (fun q =>
    ((List.range per).map (q * per + ·)).filter (fun i => startOf t ≤ i && i < hi && (maskOf t v).testBit i))

/-- R103: a store by element groups: no element of a group performs until every active element of it has translated; those below the lowest that
    faults perform. -/
def storeGroups (reach : State → Nat → State × Except (Nat × Word) (List ElemAccess)) (put : List ElemAccess → State → Nat → State × Acc) :
    List (List Nat) → State → State × Option (Acc × Nat)
  | [], s => (s, none)
  | is :: gs, s =>
    match reachElems reach is s with
    | (s, es, e) =>
      match performElems put es s with
      | (s, some r) => (s, some r)
      | (s, none) =>
        match e with
        | some (c, va, i) => (s, some (.bad c va, i))
        | none => storeGroups reach put gs s

/-- R103, R149, R333: VST, VSTS and VSTX; a release waits before its first element. -/
def vstore (kind : Nat) (v : View) (s : State) : Eff :=
  let t := s.cur
  let vl := vlOf t v
  if noElems t vl then .ok s
  else
    ordered (ordOf v) s (fun s => vecEnd (storeGroups
      (fun s i => reachElem s .store (laneOf (widthOf v) i) (vstParts t v kind vl i)) (fun as => inOrder v (putElem (ordOf v) as))
      (activeGroups t v (endOf t vl)) s))

/-- R337: the sibling count of the cell at an address, 0 outside every ACCORD object. -/
def siblingCount (s : State) (p : Place) : Nat :=
  match s.accordAt p with
  | some (pa, _) => (s.cellAt (pa / 8 * 8)).sibs.length
  | none => 0

/-- R202, R337: element i of VLDA, which loads as VLD. -/
def vldaElem (v : View) (s : State) (i : Nat) : State × Acc :=
  let va := vecAddr s.cur v 0 i
  match resolve s s.me .load (some (laneOf 64 i)) va 8 8 with
  | (s, .error c) => (s, .bad c va)
  | (s, .ok g) =>
    let n := siblingCount s g.place
    if arrivalPending s g.place 8 then (s, .wait)
    else
      match loadAt s s.me g 8 (ordOf v) with
      | (s, .val x) => ({ s with cur := (s.cur.putElem v.d 64 i x).putElem v.b 8 i n }, .val x)
      | (s, .fault c) => (s, .bad c va)
      | (s, .wait) => (s, .wait)

/-- R337: VLDA. -/
def vloadCount (v : View) (s : State) : Eff := vecEnd (runAccess s v (vldaElem v))

/-- R337: the eight elements of VLDS.A. -/
def siblingWords (l : List Sibling) : List Nat :=
  let ws := l.flatMap (fun x => [x.val.toNat, x.dot.toNat])
  (List.range 8).map (fun i => ws.getD i 0)

/-- R337: VLDS.A. -/
def vloadSiblings (v : View) (s : State) : Eff :=
  wholeOnly s (
    let ea := vecBase s.cur v
    let at0 := some (startOf s.cur)
    match resolve s s.me .load (some 0) ea 8 8 with
    | (s, .error c) => .trap s c ea at0
    | (s, .ok g) =>
      match s.accordAt g.place with
      | none => .trap s Cause.access ea at0
      | some (pa, _) =>
        let sibs := (s.cellAt pa).sibs
        match loadAt s s.me g 8 (ordOf v) with
        | (s, .fault c) => .trap s c ea at0
        | (s, .wait) => .wait s .hardware
        | (s, .val _) =>
          let t := (siblingWords sibs).zipIdx.foldl (fun t p => t.putElem v.d 64 p.2 p.1) s.cur
          .ok { s with cur := { t with acnt := BitVec.ofNat 64 sibs.length } })

/-! ### Vector atomics (R338, R339) -/

/-- R339: element i checked and translated before any element performs. The owning port of another module's scratchpad checks its reservation when
    the element reaches it (R106). -/
def vamoReach (t : Strand) (v : View) (s : State) (i : Nat) : State × Except (Nat × Word) (List ElemAccess) :=
  let w := widthOf v
  let va := vecAddr t v 2 i
  match reachElem s .amo (laneOf w i) [(va, w / 8, elemOf (readGroup t v.d (emulOf (Check.vlmax v * w))) w i)] with
  | (s, .error e) => (s, .error e)
  | (s, .ok as) =>
    (s, if as.any (fun a => windowBars s a.target || (w ≠ 64 && (s.accordAt a.target.place).isSome)) then .error (Cause.access, va) else .ok as)

/-- R339: element i performs as one AMO. -/
def vamoPut (f : AmoFn) (v : View) : List ElemAccess → State → Nat → State × Acc
  | [], s, _ => (s, .val 0)
  | a :: _, s, i =>
    match amoAt s s.me a.target f a.n (BitVec.ofNat 64 a.x) 0 with
    | (s, .val x) => (let s := storedAt s a.target.place a.n; { s with cur := s.cur.putElem v.d (widthOf v) i x }, .val x)
    | (s, .fault c) => (s, .bad c a.va)
    | (s, .wait) => (s, .wait)

/-- R339: a vector atomic. A check that fails performs nothing, but for the elements below one at which
    another member stops the convoy (R197). -/
def vamo (f : AmoFn) (v : View) (s : State) : Eff :=
  let t := s.cur
  let hi := endOf t (vlOf t v)
  let actives := (List.range (vlOf t v)).filter (fun i => startOf t ≤ i && (maskOf t v).testBit i)
  if noElems t (vlOf t v) then .ok s
  else
    match reachElems (vamoReach t v) actives s with
    | (s, es, e) =>
      let perform := ordered (ordOf v) s (fun s => vecEnd (performElems (fun as => inOrder v (vamoPut f v as)) (es.filter (fun p => p.1 < hi)) s))
      match e with
      | some (c, va, i) => if i < hi then .trap s c va (some i) else if i = hi then .ok s else perform
      | none => perform

/-- VLD (R333): unit-stride vector load. -/
def execVld (r : RF) (s : State) : Res := guarded (some (r.view 32 0)) s (vload 0)

/-- VLD_X (R333): extended VLD with mask, types, strength and ordering bits. -/
def execVldX (x : XF) (s : State) : Res := guarded (some (x.view 32 0)) s (vload 0)

/-- VLDS (R333): strided vector load. -/
def execVlds (r : RF) (s : State) : Res := guarded (some (r.view 32 1)) s (vload 1)

/-- VLDS_X (R333): extended VLDS. -/
def execVldsX (x : XF) (s : State) : Res := guarded (some (x.view 32 1)) s (vload 1)

/-- VLDX (R333): indexed vector load. -/
def execVldx (r : RF) (s : State) : Res := guarded (some (r.view 32 2)) s (vload 2)

/-- VLDX_X (R333): extended VLDX. -/
def execVldxX (x : XF) (s : State) : Res := guarded (some (x.view 32 2)) s (vload 2)

/-- VLD_FF (R104): first-fault load that shortens VL at a faulting element above 0. -/
def execVldFf (r : RF) (s : State) : Res := guarded (some (r.view 32 3)) s vloadFirst

/-- VLD_FF_X (R104): extended VLD.FF. -/
def execVldFfX (x : XF) (s : State) : Res := guarded (some (x.view 32 3)) s vloadFirst

/-- VST (R333): unit-stride vector store. -/
def execVst (r : RF) (s : State) : Res := guarded (some (r.view 32 4)) s (vstore 0)

/-- VST_X (R333): extended VST. -/
def execVstX (x : XF) (s : State) : Res := guarded (some (x.view 32 4)) s (vstore 0)

/-- VSTS (R333): strided vector store. -/
def execVsts (r : RF) (s : State) : Res := guarded (some (r.view 32 5)) s (vstore 1)

/-- VSTS_X (R333): extended VSTS. -/
def execVstsX (x : XF) (s : State) : Res := guarded (some (x.view 32 5)) s (vstore 1)

/-- VSTX (R333): indexed vector store. -/
def execVstx (r : RF) (s : State) : Res := guarded (some (r.view 32 6)) s (vstore 2)

/-- VSTX_X (R333): extended VSTX. -/
def execVstxX (x : XF) (s : State) : Res := guarded (some (x.view 32 6)) s (vstore 2)

/-- VLDA (R337): load accord cells with sibling counts into v[B]. -/
def execVlda (r : RF) (s : State) : Res := guarded (some (r.view 32 7)) s vloadCount

/-- VLDA_X (R337): extended VLDA. -/
def execVldaX (x : XF) (s : State) : Res := guarded (some (x.view 32 7)) s vloadCount

/-- VLDS_A (R337): load every sibling of one cell with its dot. -/
def execVldsA (r : RF) (s : State) : Res := guarded (some (r.view 32 8)) s vloadSiblings

/-- VLDS_A_X (R337): extended VLDS.A. -/
def execVldsAX (x : XF) (s : State) : Res := guarded (some (x.view 32 8)) s vloadSiblings

/-- VAMOADD (R338): vector atomic add, elements in index order. -/
def execVamoadd (r : RF) (s : State) : Res := guarded (some (r.view 33 0)) s (vamo .add)

/-- VAMOADD_X (R338): extended VAMOADD. -/
def execVamoaddX (x : XF) (s : State) : Res := guarded (some (x.view 33 0)) s (vamo .add)

/-- VAMOAND (R338): vector atomic and. -/
def execVamoand (r : RF) (s : State) : Res := guarded (some (r.view 33 1)) s (vamo .and)

/-- VAMOAND_X (R338): extended VAMOAND. -/
def execVamoandX (x : XF) (s : State) : Res := guarded (some (x.view 33 1)) s (vamo .and)

/-- VAMOOR (R338): vector atomic or. -/
def execVamoor (r : RF) (s : State) : Res := guarded (some (r.view 33 2)) s (vamo .or)

/-- VAMOOR_X (R338): extended VAMOOR. -/
def execVamoorX (x : XF) (s : State) : Res := guarded (some (x.view 33 2)) s (vamo .or)

/-- VAMOXOR (R338): vector atomic exclusive or. -/
def execVamoxor (r : RF) (s : State) : Res := guarded (some (r.view 33 3)) s (vamo .xor)

/-- VAMOXOR_X (R338): extended VAMOXOR. -/
def execVamoxorX (x : XF) (s : State) : Res := guarded (some (x.view 33 3)) s (vamo .xor)

/-- VAMOMIN (R338): vector atomic signed minimum. -/
def execVamomin (r : RF) (s : State) : Res := guarded (some (r.view 33 4)) s (vamo .min)

/-- VAMOMIN_X (R338): extended VAMOMIN. -/
def execVamominX (x : XF) (s : State) : Res := guarded (some (x.view 33 4)) s (vamo .min)

/-- VAMOMAX (R338): vector atomic signed maximum. -/
def execVamomax (r : RF) (s : State) : Res := guarded (some (r.view 33 5)) s (vamo .max)

/-- VAMOMAX_X (R338): extended VAMOMAX. -/
def execVamomaxX (x : XF) (s : State) : Res := guarded (some (x.view 33 5)) s (vamo .max)

/-- VAMOSWAP (R338): vector atomic swap. -/
def execVamoswap (r : RF) (s : State) : Res := guarded (some (r.view 33 6)) s (vamo .swap)

/-- VAMOSWAP_X (R338): extended VAMOSWAP. -/
def execVamoswapX (x : XF) (s : State) : Res := guarded (some (x.view 33 6)) s (vamo .swap)

end Sys2Proof.Machine
end

