-- ==== Sys2Proof/Machine/Engines.lean ====
section
/-! DEFINITION. Streams, copies, flacons, stashes, cache maintenance and collectives: majors 0x22 to 0x27, and their events (R122 to R124, R161, R203 to R207, R340 to R353). -/

namespace Sys2Proof.Machine

open Sys2Proof

/-! ### Streams (R340 to R342) -/

/-- R340: a descriptor in rule, as the stream it sets. -/
def streamOf (r : List Byte) : Option Stream :=
  let base := fieldAt r 0 8
  let len := fieldAt r 8 8
  let mode := fieldAt r 0x10 1
  let fmt := fieldAt r 0x11 1
  if base % 128 ≠ 0 || len == 0 || len > 2 ^ 40 || mode > 1 || fmt > 2 || (mode == 1 && fmt != 0) || !zeroAt r 0x12 32 then none
  else some { Stream.reset with active := true, base := BitVec.ofNat 64 base, len, blocks := mode == 1, fmt }

/-- The state with stream q of the executing strand replaced. -/
def State.setStream (s : State) (q : Nat) (x : Stream) : State := { s with cur := { s.cur with streams := s.cur.streams.setIfInBounds q x } }

/-- R340, R162: STRSET. It waits until the strand's ST.E stores have performed; its other writes have. -/
def strsetOp (v : View) (s : State) : Eff :=
  let ea := vecBase s.cur v
  if ea.toNat % 32 ≠ 0 then .trap s Cause.misalign ea none
  else if storesQueued s s.curRef then .wait s .poll
  else
    match fetchRecord s s.me ea 32 with
    | (s, .error .wait) => .wait s .hardware
    | (s, .error (.fault _ va)) => .trap s Cause.loadFault va none
    | (s, .ok r) =>
      match streamOf r with
      | none => .trap (s.setStream v.d .reset) Cause.streamFmt ea none
      | some x => .ok (s.setStream v.d { x with mem := snapshot s, stale := s.stale })

/-- R342: STRCLR. -/
def strclrOp (v : View) (s : State) : Eff :=
  let q := (s.cur.streams[v.d]?).getD .reset
  .ok (s.setStream v.d { q with active := false, err := false, cause := 0, blk := 0, buf := [], block := [], mem := [], stale := [] })

/-- R342: the layout of STRSTAT. -/
def streamStat (q : Stream) : Nat :=
  q.next % 2 ^ 40 * 2 ^ 24 + q.cause % 256 * 2 ^ 8 + (if q.err then 4 else 0) + (if q.overEnd then 2 else 0) + (if q.active then 1 else 0)

/-- R342: STRSTAT. -/
def strstatOp (v : View) (s : State) : Eff := .ok (s.setReg v.d (BitVec.ofNat 64 (streamStat ((s.cur.streams[v.a]?).getD .reset))))

/-! ### Copies (R343 to R346) -/

/-- R344: the descriptor of CPLVL and CPGO: its place, or the fault. -/
def descPlace (s : State) (ea : Word) (kind : AccessKind) : Except Nat Place :=
  let x := ea.toNat
  if x % 128 ≠ 0 then .error Cause.misalign
  else if x < 0x00FD000000000000 || 0x00FD000000200000 ≤ x then .error Cause.access
  else match resolve s s.me kind none ea 128 128 with
    | (_, .ok g) => .ok g.place
    | (_, .error c) => .error c

/-- R344: CPLVL. -/
def cplvlOp (v : View) (s : State) : Eff :=
  let t := s.cur
  let ea := t.reg v.a
  match descPlace s ea .store with
  | .error c => .trap s c ea none
  | .ok p =>
    let q := p.add (0x20 + 16 * (v.imm16 % 8))
    let bs := bytesOfNat 4 (t.reg v.d).toNat ++ bytesOfNat 8 (t.reg v.b).toNat ++ bytesOfNat 4 0
    .ok (portWrite s q bs .cached)

/-- R343: one level of a descriptor. -/
def levelOf (r : List Byte) (l : Nat) : CopyLevel :=
  let o := 0x20 + 16 * l
  { count := fieldAt r o 4, sstride := sextNat 32 (fieldAt r (o + 4) 4), dstride := sextNat 32 (fieldAt r (o + 8) 4) }

/-- R343, R345: the copy a descriptor describes, and whether it is in rule. -/
def copyOf (r : List Byte) (u : SlotRef) : Copy × Bool :=
  let lv := fieldAt r 0x1C 1
  let fl := fieldAt r 0x1D 1
  let sync := BitVec.ofNat 64 (fieldAt r 0x10 8)
  let bytes := fieldAt r 0x18 4
  let levels := (List.range (min lv 6)).map (levelOf r)
  ({ owner := u, src := BitVec.ofNat 64 (fieldAt r 0 8), dst := BitVec.ofNat 64 (fieldAt r 8 8), sync, bytes, levels,
     flac := if natBit fl 3 then some (fl % 8) else none, slot := none, st := .running, cursor := levels.map (fun _ => 0), off := 0, sect := 0, begun := none, endAt := 0, acked := 0,
     mem := [], stale := [], rows := [] },
   fl / 16 == 0 && zeroAt r 0x1E 0x20 && lv ≤ 6 && 1 ≤ bytes && bytes ≤ 2 ^ 24
     && (List.range (min lv 6)).all (fun l => zeroAt r (0x20 + 16 * l + 12) (0x20 + 16 * l + 16))
     && (sync == 0 || (sync.toNat % 16 == 0 && inScratchWindows sync)))

/-- R345: the descriptor CPGO captures at an address: its bytes, or the fault. -/
def captureDesc (s : State) (ea : Word) : State × Except Nat (List Byte) :=
  match descPlace s ea .load with
  | .error c => (s, .error c)
  | .ok p =>
    match readSpan s p 128 .cached with
    | (s, none) => (s, .error Cause.loadFault)
    | (s, some r) => (s, .ok r)

/-- R154, R162, R345: CPGO with its descriptor captured: it starts the copy, whose source stands as memory does now, or ends it BAD_DESC. -/
def startCopy (s : State) (n : Nat) (r : List Byte) : State :=
  let core := s.curRef.core
  let (c, ok) := copyOf r s.curRef
  if !ok then endCopy s core n { c with flac := none } 35
  else
    let s := match syncPlace s c with
      | .ok (some q) => nameSync s (q.loc s.modId)
      | _ => s
    (s.setCopy core n (some { c with mem := snapshot s, stale := s.stale, rows := s.rowClear })).post 0 (.copySectorTranslated core n)

/-- R204, R345: a copy number is held by a copy of either slot. -/
def numberHeld (s : State) (n : Nat) : Bool := (s.copyAt s.curRef.core n).isSome || s.cur.waitCopies.any (fun p => p.1 == n)

/-- R162, R345: CPGO. It waits until the strand's ST.E stores have performed, captures the descriptor, and waits until its number is free. -/
def cpgoOp (v : View) (s : State) : Eff :=
  let ea := s.cur.reg v.a
  let n := v.imm16 % 4
  if !s.cur.captured.isEmpty then (if numberHeld s n then .wait s .poll else .ok (startCopy s n s.cur.captured))
  else
    match descPlace s ea .load with
    | .error c => .trap s c ea none
    | .ok _ =>
      if storesQueued s s.curRef then .wait s .poll
      else
        match captureDesc s ea with
        | (s, .error c) => .trap s c ea none
        | (s, .ok r) => if numberHeld s n then .wait { s with cur := { s.cur with captured := r } } .poll else .ok (startCopy s n r)

/-- R346: STATE of a copy. -/
def CopySt.code : CopySt → Nat
  | .running => 1
  | .waitSlot => 2
  | .parked => 3

/-- R346: CPSTAT. -/
def cpstatOp (v : View) (s : State) : Eff :=
  let n := v.imm16 % 4
  let e := (s.cur.copyEnds[n]?).getD { sect := 0, status := 0 }
  let x := match s.copyAt s.curRef.core n with
    | some c => if c.owner = s.curRef then c.sect * 2 ^ 16 + e.status * 2 ^ 8 + c.st.code else 4 + c.st.code
    | none => e.sect * 2 ^ 16 + e.status * 2 ^ 8
  .ok (s.setReg v.d (BitVec.ofNat 64 x))

/-- R206, R346: CPCAN: the sector that has begun is completed, then the copy ends CANCELLED. A copy that waits for its number has begun
    none (log 58). -/
def cpcanOp (v : View) (s : State) : Eff :=
  let n := v.imm16 % 4
  let core := s.curRef.core
  let mine := fun (s : State) => (s.copyAt core n).filter (fun c => c.owner == s.curRef)
  match mine s with
  | none =>
    (match s.cur.waitCopies.find? (fun p => p.1 == n) with
      | none => .ok s
      | some (_, c) =>
        .ok (copyEnded { s with cur := { s.cur with waitCopies := s.cur.waitCopies.filter (fun p => p.1 != n) } } core n c 33))
  | some _ =>
    let s := copySectorDone s core n
    match mine s with
    | none => .ok s
    | some c => .ok (endCopy s core n c 33)

/-! ### Flacons (R347) -/

/-- The flacon an instruction names. -/
def flaconOf (t : Strand) (v : View) : Flacon := (t.flacons[v.imm16 % 8]?).getD .reset

/-- R347: FLINIT. -/
def flinitOp (v : View) (s : State) : Eff :=
  let t := s.cur
  let f := v.imm16 % 8
  let base := (t.reg v.a).toNat
  let size := (t.reg v.b).toNat % 2 ^ 32
  let count := natBits (t.reg v.b).toNat 38 32
  let own := 0x00FD000000000000
  let ok := own ≤ base && base < own + 0x200000 && base % 256 == 0 && 256 ≤ size && size ≤ 65536 && size % 256 == 0 && 1 ≤ count && count ≤ 64
    && t.scratchBase ≤ base - own && base - own + size * count ≤ t.scratchBase + t.scratchSize
  let busy := (List.range 4).any (fun n => match s.copyAt s.curRef.core n with
    | some c => c.owner == s.curRef && c.flac == some f
    | none => false) || t.waitCopies.any (fun p => p.2.flac == some f)
  if !ok then .ok (s.setReg v.d 1)
  else if busy then .ok (s.setReg v.d 2)
  else
    let x : Flacon := { base := BitVec.ofNat 64 base, size, slots := List.replicate count { st := .empty, err := false, arrived := 0 }, head := 0, tail := 0 }
    .ok ({ s with cur := t.setFlacon f x }.setReg v.d 0)

/-- R347: AWAITF. -/
def awaitfOp (v : View) (s : State) : Eff :=
  let f := flaconOf s.cur v
  match f.slots[f.head]? with
  | none => .ok (s.setReg v.d 0)
  | some y => if y.st = .full then .ok (s.setReg v.d (f.slotAddr f.head + (if y.err then 1 else 0))) else .wait s .poll

/-- R207, R347: RELS; copies that wait for a slot look again. -/
def relsOp (v : View) (s : State) : Eff :=
  let f := flaconOf s.cur v
  let n := v.imm16 % 8
  match f.slots[f.head]? with
  | none => .ok (s.setReg v.d 2)
  | some y =>
    if y.st ≠ .full then .ok (s.setReg v.d 1)
    else
      let x := { f.setSlot f.head { y with st := .empty } with head := (f.head + 1) % f.slots.length }
      let s := { s with cur := s.cur.setFlacon n x }
      let s := (List.range 4).foldl (fun s i => match s.copyAt s.curRef.core i with
        | some c => if c.owner = s.curRef ∧ c.flac = some n ∧ c.st = .waitSlot then s.post 0 (.copySectorTranslated s.curRef.core i) else s
        | none => s) s
      .ok (s.setReg v.d 0)

/-- R347: FLSTAT. -/
def flstatOp (v : View) (s : State) : Eff :=
  let f := flaconOf s.cur v
  let full := fun (y : FlSlot) => y.st == .full
  let headFull := match f.slots[f.head]? with
    | some y => full y
    | none => false
  .ok (s.setReg v.d (BitVec.ofNat 64 ((if headFull then 2 ^ 63 else 0) + f.slots.length * 2 ^ 24 + (f.slots.filter full).length * 2 ^ 16 + f.tail * 2 ^ 8 + f.head)))

/-! ### Stashes (R122 to R124, R348) -/

/-- R117, R122: leases granted on an object still run. -/
def leasesRun (s : State) (obj : Nat) : Bool := (List.range 128).any (fun k => s.expiryOf (obj * 128 + k) > s.now)

/-- R122: a byte of an object lies in a window of a context; a tile has the bytes of its rows. -/
def objInWindow (s : State) (ctx : Nat) (o : Obj) : Bool :=
  let d := descAddr s ctx + 128
  (List.range 16).any (fun i =>
    let w := readLocal s (d + 8 * i) 8
    let lo := natBits w 55 16 * 65536
    ncwMatches w lo && o.virt.any (fun x => lo < x.first + x.count && x.first < lo + 2 ^ natBits w 6 1))

/-- R348: the scratchpad offset of an own-scratchpad address. -/
def ownOffset (x : Word) : Option Nat :=
  let own := 0x00FD000000000000
  if own ≤ x.toNat && x.toNat < own + 0x200000 then some (x.toNat - own) else none

/-- R348: the first status of STASHMAP that is not OK. -/
def stashRefusal (s : State) (sa : Word) (id : Nat) : Nat :=
  let t := s.cur
  let o := mapGet s.objs id
  let len := match o with
    | some x => 128 * (spanIndices x.lines).length
    | none => 0
  let badRange := match ownOffset sa with
    | none => true
    | some off => off % 128 != 0 || off < t.scratchBase || t.scratchBase + t.scratchSize < off + len
  if badRange then 1
  else match o with
    | none => 2
    | some x =>
      if x.mode ≠ .lease then 3
      else if objInWindow s t.ctx x then 4
      else if t.stash.length ≥ 8 then 5
      else 0

/-- R122: a mapping that stands once every lease has expired. -/
def stashMapped (s : State) (sa : Word) (id : Nat) (d : Nat) : Eff :=
  if leasesRun s id then .wait s .poll
  else
    let lines := match mapGet s.objs id with
      | some o => spanIndices o.lines
      | none => []
    let m : StashMap := { off := (ownOffset sa).getD 0, obj := id, lines, filled := [], dirty := [], bad := [] }
    .ok ({ s with cur := { s.cur with stash := s.cur.stash ++ [m] } }.setReg d 0)

/-- R348: STASHMAP: the home switches the object, then the instruction waits for its leases. -/
def stashmapOp (v : View) (s : State) : Eff :=
  let t := s.cur
  let sa := t.reg v.a
  let id := (t.reg v.b).toNat % 2 ^ 18
  let me := ObjMode.stashed s.curRef.core s.curRef.slot
  let pending := match mapGet s.objs id with
    | some o => o.mode == me && !t.stash.any (fun m => m.obj == id)
    | none => false
  if pending then stashMapped s sa id v.d
  else
    match stashRefusal s sa id with
    | 0 =>
      let s := match mapGet s.objs id with
        | some o => { s with objs := mapSet s.objs id { o with mode := me } }
        | none => s
      stashMapped s sa id v.d
    | r => .ok (s.setReg v.d (BitVec.ofNat 64 r))

/-- R348: STASHUNMAP. -/
def stashunmapOp (v : View) (s : State) : Eff :=
  match (ownOffset (s.cur.reg v.a)).bind (fun off => s.cur.stash.find? (fun m => m.off == off)) with
  | none => .ok (s.setReg v.d 6)
  | some m => writeBackThen s (m.held s m.dirty) (fun s => .ok ((stashUnmap s s.curRef m).setReg v.d 0))

/-- R348: the lines of a mapping that meet [lo, hi) of the own-scratchpad window. -/
def linesIn (m : StashMap) (lo hi : Nat) : List Nat :=
  let line := fun (i : Nat) => 0x00FD000000000000 + m.off + 128 * i
  (List.range m.lines.length).filter (fun i => lo < hi && line i < hi && lo < line (i + 1))

/-- R348: STASHWB. -/
def stashwbOp (v : View) (s : State) : Eff :=
  let t := s.cur
  let lo := (t.reg v.a).toNat
  let hi := lo + (t.reg v.b).toNat
  writeBackThen s (t.stash.flatMap (fun m => m.held s (linesIn m lo hi))) (fun s =>
    .ok (t.stash.foldl (fun s m => stashWriteBack s s.curRef m (linesIn m lo hi)) s))

/-! ### Cache maintenance (R349) -/

/-- R349: the lines of a range, each translated as a load: their places, or the fault and its address. A line that is to be written back
    behind a down port is such a load's LOAD_FAULT (R28). -/
def cmoLines (s : State) (wb : Bool) (base : Word) : List Nat → State × Except (Nat × Word) (List Target)
  | [] => (s, .ok [])
  | l :: ls =>
    let va := if l * 128 ≤ base.toNat then base else BitVec.ofNat 64 (l * 128)
    match resolve s s.me .load none va 1 1 with
    | (s, .error c) => (s, .error (c, va))
    | (s, .ok g) =>
      if wb && unreachable s g.place then (s, .error (Cause.loadFault, va))
      else
        match cmoLines s wb base ls with
        | (s, .ok gs) => (s, .ok (g :: gs))
        | r => r

/-- R349: one line written back, invalidated, or both. -/
def cmoLine (wb inv : Bool) (s : State) (g : Target) : State :=
  match g.place with
  | .device m a =>
    let plain := !g.nc && (match s.objOfLine (lineOf (g.place.loc s.modId)) with
      | some (_, o) => o.mode == .lease
      | none => true)
    if !plain then s
    else
      let s := if wb && m = s.modId then cleanLine s (a / 128) else s
      if inv then
        let k := s.core s.curRef.core
        s.setCore s.curRef.core { k with l1 := k.l1.filter (fun x => x.line != lineOf (g.place.loc s.modId)) }
      else s
  | _ => s

/-- R349: CWB, CINV and CWBINV. -/
def cmoOp (wb inv : Bool) (v : View) (s : State) : Eff :=
  let base := s.cur.reg v.a
  let n := max (s.cur.reg v.b).toNat 1
  if n > 65536 then .trap s Cause.access base none
  else
    let l0 := base.toNat / 128
    match cmoLines s wb base ((List.range ((base.toNat + n - 1) / 128 + 1 - l0)).map (l0 + ·)) with
    | (s, .error (c, va)) => .trap s c va none
    | (s, .ok gs) => .ok (gs.foldl (cmoLine wb inv) s)

/-! ### Collectives (R350 to R353) -/

/-- R350: a descriptor's own rules; `kind` 0 COLLRED, 1 COLLGAT, 2 COLLBAR. -/
def collFieldsOk (r : List Byte) (kind : Nat) : Bool :=
  let npart := fieldAt r 0x24 2
  let bytes := fieldAt r 0x20 4
  let op := fieldAt r 0x28 1
  let et := fieldAt r 0x29 1
  let redOk := op ≤ 2 && (et == 2 || et == 3 || et == 6) && bytes % ((ET.ofCode et).width / 8) == 0
  1 ≤ npart && npart ≤ 4096 && fieldAt r 0x26 2 < npart && bytes ≤ 2 ^ 24 && zeroAt r 0x2A 64
    && (if kind = 0 then redOk else op == 0 && et == 0) && !(kind == 2 && fieldAt r 8 8 != 0)

/-- R351: the place of a rendezvous record, if it is one the rule allows. -/
def rendPlace (s : State) (a : Agent) (va : Word) : Option Place :=
  let line := fun (i : Nat) => match resolve s a .load none (va + BitVec.ofNat 64 (128 * i)) 128 128 with
    | (_, .ok g) => some g
    | (_, .error _) => none
  let ok := fun (p : Place) (i : Nat) => match line i with
    | some g =>
      g.place == p.add (128 * i) && !g.nc && !g.window && (match g.place with
        | .device _ _ => (match s.objOfLine (lineOf (g.place.loc s.modId)) with
          | some (_, o) => o.mode == .lease
          | none => true)
        | _ => false)
    | none => false
  match line 0 with
  | none => none
  | some g => if (List.range 5).all (ok g.place) then some g.place else none

/-- A buffer page by page: how many bytes each piece has, and where it lies if it translates; `fuel` bounds the pieces. -/
def bufferAt (s : State) (a : Agent) (kind : AccessKind) : Nat → Word → Nat → State × List (Nat × Option Target)
  | 0, _, _ => (s, [])
  | k + 1, va, n =>
    if n = 0 then (s, [])
    else
      let here := min n (4096 - va.toNat % 4096)
      let (s, r) := resolve s a kind none va here 1
      let g := match r with
        | .ok g => some g
        | .error _ => none
      let (s, rest) := bufferAt s a kind k (va + BitVec.ofNat 64 here) (n - here)
      (s, (here, g) :: rest)

/-- The pieces of a buffer of n bytes in a context. -/
def bufferOf (s : State) (a : Agent) (kind : AccessKind) (va : Word) (n : Nat) : State × List (Nat × Option Target) :=
  bufferAt s a kind (n / 4096 + 2) va n

/-- R28: the route to some line of a buffer crosses a down port. -/
def bufferDown (s : State) (l : List (Nat × Option Target)) : Bool :=
  l.any (fun x => x.2.any (fun g => spanDown s g.place x.1))

/-- R164: some line of a buffer lies in a result row whose full bit is clear. -/
def bufferRows (s : State) (l : List (Nat × Option Target)) : Bool :=
  l.any (fun x => x.2.any (fun g => spanRows s g.place x.1))

/-- R119, R352: when the writes of a buffer are acknowledged. -/
def bufferDue (s : State) (l : List (Nat × Option Target)) : Nat :=
  l.foldl (fun d x => match x.2 with
    | some g => max d (ackDue s g x.1)
    | none => d) 0

/-- R106, R121: a participant's engine may reach a target. -/
def reachable (s : State) (ctx : Option Nat) (g : Target) (n : Nat) : Bool :=
  !windowBars s g && !(match ctx with
    | some c => farBarred s c g.place n
    | none => false)

/-- R142, R352: the bytes of a buffer read for a participant; none when a piece fails or meets an uncorrectable line (FAULT). -/
def readBuffer (s : State) (ctx : Nat) : List (Nat × Option Target) → State × Option (List Byte)
  | [] => (s, some [])
  | (_, none) :: _ => (s, none)
  | (n, some g) :: l =>
    if !reachable s (some ctx) g n then (s, none)
    else
      match readSpan s g.place n g.use with
      | (s, none) => (s, none)
      | (s, some bs) =>
        match readBuffer s ctx l with
        | (s, some rest) => (s, some (bs ++ rest))
        | (s, none) => (s, none)

/-- R142, R352: bytes written over the pieces of a participant's buffer; false when a piece fails or meets an uncorrectable line. What
    stands after the first piece that fails is not written: R353 leaves each byte its earlier value or its result (DESIGN CHOICE, log 61). -/
def writeBuffer (s : State) (ctx : Option Nat) (w : Writer) : List (Nat × Option Target) → List Byte → State × Bool
  | [], _ => (s, true)
  | (_, none) :: _, _ => (s, false)
  | (n, some g) :: l, bs =>
    if !reachable s ctx g n || spanDown s g.place n || partCell s g.place n then (s, false)
    else
      match writeSpan s g.place (bs.take n) w g.use with
      | (s, some _) => (s, false)
      | (s, none) =>
        let s := match w.unit with
          | some u => noteHostStore s u g.place
          | none => s
        if partUe s g.place n then (s, false) else writeBuffer s ctx w l (bs.drop n)

/-! #### Participants -/

/-- The slot in which the unit of an arrival is resident. -/
def Arrival.seat (s : State) (x : Arrival) : Option SlotRef :=
  (s.allStrands.find? (fun p => x.unit.isSome && p.2.st != .empty && p.2.launch == x.launch && p.2.unitId == x.unitId)).map (·.1)

/-- A participant as an agent. A unit that is resident nowhere has no own scratchpad (log 61). -/
def Arrival.agentOf (s : State) (x : Arrival) : Agent := { who := (x.seat s).getD { core := 255, slot := 0 }, ctx := x.ctx, sup := x.ctx == 0 }

/-- Who a delivery to a participant is written for (R142). -/
def Arrival.writer (s : State) (x : Arrival) : Writer := { agent := x.agent.toNat, unit := x.seat s }

/-- The context whose reservations a delivery to a participant may reach; a participant of another module is checked there. -/
def Arrival.scope (x : Arrival) : Option Nat := if x.unit.isSome then some x.ctx else none

/-- A run of physical addresses as a target. -/
def runTarget (s : State) (r : Nat × Nat) : Nat × Option Target := (r.2, (placeOf s r.1 r.2).map (fun p => { place := p, nc := false, window := false }))

/-- R352: the participant receives a result. -/
def Arrival.receives (x : Arrival) : Bool := if x.unit.isSome then x.dst != 0 else !x.runs.isEmpty

/-- A participant's DST of n bytes. -/
def Arrival.buffer (s : State) (x : Arrival) (n : Nat) : State × List (Nat × Option Target) :=
  if x.unit.isSome then bufferOf s (x.agentOf s) .store x.dst n else (s, x.runs.map (runTarget s))

/-- A participant's DONE word. -/
def Arrival.doneAt (s : State) (x : Arrival) : State × List (Nat × Option Target) :=
  if x.unit.isSome then bufferOf s (x.agentOf s) .store x.doneVa 8 else (s, [runTarget s (x.doneVa.toNat, 8)])

/-- R38: the lines of a participant's DONE word that the host holds. -/
def Arrival.doneHeld (s : State) (x : Arrival) : List Nat :=
  (x.doneAt s).2.flatMap (fun y => match y.2 with
    | some g => heldLines s (g.place.lines s.modId 8)
    | none => [])

/-- R352: a DONE word written, or skipped where it cannot be. -/
def writeDone (s : State) (x : Arrival) (status number : Nat) : State :=
  match x.doneAt s with
  | (s, [(_, some g)]) =>
    if spanDown s g.place 8 then s
    else
      let s := (readHome s g.place 8 g.use).1
      if poisoned s g.place then s
      else (writeBuffer s x.scope (x.writer s) [(8, some g)] (bytesOfNat 4 status ++ bytesOfNat 4 number)).1
  | (s, _) => s

/-! #### Arrivals -/

/-- R351: the record of an epoch at its home. -/
def writeRend (s : State) (p : Place) (e : Epoch) : State :=
  let closed := e.arrivals.length ≥ e.npart
  let ranks := e.arrivals.foldl (fun x a => x ||| 2 ^ a.rank) 0
  let key := if closed then 0 else (Config.rendKey e.kind e.npart e.bytes e.op e.et).toNat
  let kept := if closed then 0 else s.freeNat 9
  let bs := bytesOfNat 4 (if closed then 0 else e.arrivals.length) ++ bytesOfNat 4 (if closed then (e.number + 1) % 2 ^ 32 else e.number)
    ++ bytesOfNat 8 key ++ bytesOfNat 112 kept ++ bytesOfNat 512 (if closed then 0 else ranks)
  let s := if closed then s else s.tick
  (writeSpan s p bs { agent := 0, unit := none } .cached).1

/-- R351: an epoch of a record is open. -/
def Epoch.openAt (loc : Nat) (e : Epoch) : Bool := e.rend == loc && e.arrivals.length < e.npart

/-- R353: an arrival does not agree with the epoch it joins. -/
def Epoch.mismatch (e f : Epoch) (rank : Nat) : Bool :=
  e.kind != f.kind || e.npart != f.npart || e.bytes != f.bytes || e.op != f.op || e.et != f.et || e.arrivals.any (fun x => x.rank == rank)

/-- R351, R352: a participant joins the open epoch of its record, `f` being the one that it would open, and closes it when it is the last;
    `st` is the status it brings. -/
def enterEpoch (s : State) (p : Place) (f : Epoch) (x : Arrival) (st : Nat) : State :=
  let e := (s.epochs.find? (Epoch.openAt f.rend)).getD { f with number := natOfBytes (Memory.readBytes s.mem (f.rend + 4) 4) }
  let e := { e with status := worse (worse e.status (if e.mismatch f x.rank then 2 else 0)) st, arrivals := e.arrivals ++ [x] }
  let s := writeRend { s with epochs := s.epochs.filter (fun y => !Epoch.openAt f.rend y) ++ [e] } p e
  if e.arrivals.length ≥ e.npart then s.post 0 (.collectiveComplete f.rend) else s

/-- R350: the epoch that a descriptor's participant would open at a record. -/
def epochOf (kind : Nat) (r : List Byte) (loc : Nat) : Epoch :=
  { rend := loc, kind, npart := fieldAt r 0x24 2, bytes := fieldAt r 0x20 4, op := fieldAt r 0x28 1, et := fieldAt r 0x29 1, status := 0,
    number := 0, due := none, arrivals := [] }

/-- R350: a unit's arrival by its descriptor, before its contribution is read. -/
def arrivalOf (s : State) (u : SlotRef) (r : List Byte) : Arrival :=
  let t := s.strand u
  { rank := fieldAt r 0x26 2, unit := some u, launch := t.launch, unitId := t.unitId, ctx := t.ctx,
    agent := BitVec.ofNat 64 (agentBits s (agentNumber u)), src := BitVec.ofNat 64 (fieldAt r 0 8), dst := BitVec.ofNat 64 (fieldAt r 8 8),
    runs := [], doneVa := BitVec.ofNat 64 (fieldAt r 0x18 8), data := [] }

/-- R353: the pieces of a buffer that a participant may not reach. -/
def bufferBarred (s : State) (ctx : Nat) (l : List (Nat × Option Target)) : Bool :=
  l.any (fun x => match x.2 with
    | some g => !reachable s (some ctx) g x.1
    | none => true)

/-- R352, R353: what an accepted participant brings by its SRC, whose pieces have been translated: its bytes and its status. COLLBAR reads
    nothing of the buffer it names, which has to translate all the same. -/
def contribution (s : State) (kind ctx : Nat) (l : List (Nat × Option Target)) : State × List Byte × Nat :=
  if kind = 2 then (s, [], if bufferBarred s ctx l then 3 else 0)
  else
    match readBuffer s ctx l with
    | (s, some bs) => (s, bs, 0)
    | (s, none) => (s, [], 3)

/-- R352: an accepted participant's SRC is read and it joins; none while a result row that SRC meets is not full (R164), or the host holds the
    rendezvous record (R38). -/
def joinEpoch (s : State) (u : SlotRef) (kind : Nat) (r : List Byte) (p : Place) : State × Bool :=
  let x := arrivalOf s u r
  let f := epochOf kind r (p.loc s.modId)
  let (s, l) := bufferOf s (s.agentOf u) .load x.src f.bytes
  let link := unreachable s p || bufferDown s l
  if !link && kind != 2 && bufferRows s l then (s, false)
  else
    match hostWait s p 640 with
    | some s => (s, false)
    | none =>
      let (s, data, st) := if link then (s, [], 1) else contribution s kind x.ctx l
      (enterEpoch s p f { x with data } st, true)

/-- R350, R353: acceptance of a participant whose descriptor has been read: it joins, or takes BAD_DESC; false while it has to wait. -/
def acceptColl (s : State) (u : SlotRef) (kind : Nat) (r : List Byte) : State × Bool :=
  match (if collFieldsOk r kind then rendPlace s (s.agentOf u) (BitVec.ofNat 64 (fieldAt r 0x10 8)) else none) with
  | none =>
    (match (arrivalOf s u r).doneHeld s with
      | [] => (writeDone s (arrivalOf s u r) 5 0, true)
      | ls => (askHost s ls, false))
  | some p => joinEpoch s u kind r p

/-- R350, R352: COLLRED, COLLGAT and COLLBAR. -/
def collOp (kind : Nat) (v : View) (s : State) : Eff :=
  let ea := s.cur.reg v.a
  if ea.toNat % 64 ≠ 0 then .trap s Cause.misalign ea none
  else
    match fetchRecord s s.me ea 64 with
    | (s, .error .wait) => .wait s .hardware
    | (s, .error (.fault _ va)) => .trap s Cause.loadFault va none
    | (s, .ok r) =>
      let done := BitVec.ofNat 64 (fieldAt r 0x18 8)
      match resolve s s.me .store none done 8 8 with
      | (s, .error c) => .trap s c done none
      | (s, .ok g) =>
        if windowBars s g then .trap s Cause.access done none
        else afterWrites s 4 (fun s =>
          match acceptColl s s.curRef kind r with
          | (s, true) => .ok s
          | (s, false) => .wait s .hardware)

/-- R352: the participant of another module that has arrived at a record: it joins as one of this module's does, or comes again once the host
    has given back the record's lines (R38). -/
def acceptFar (s : State) (f : FarParticipant) (kind rend : Nat) : State :=
  match placeOf s rend 640 with
  | none => s
  | some p =>
    match hostWait s p 640 with
    | some s => s.post 64 (.collectiveArrival (.far f) kind (BitVec.ofNat 64 rend))
    | none =>
    let e : Epoch := { rend := p.loc s.modId, kind, npart := f.npart, bytes := f.bytes, op := f.op, et := f.et, status := 0, number := 0,
                       due := none, arrivals := [] }
    enterEpoch s p e { rank := f.rank, unit := none, launch := 0, unitId := 0, ctx := 0, agent := f.agent, src := 0, dst := 0, runs := f.dst,
                       doneVa := BitVec.ofNat 64 f.done, data := f.data } 0

/-- R353: a participant of another module was cancelled before the epoch closed. -/
def cancelFar (s : State) (rend : Nat) : State :=
  match placeOf s rend 640 with
  | none => s
  | some p =>
    { s with epochs := s.epochs.map (fun e => if Epoch.openAt (p.loc s.modId) e ∧ e.arrivals.any (fun x => x.unit.isNone) then { e with status := worse e.status 4 } else e) }

/-! #### Completion -/

/-- R352: one element of COLLRED over the ranks. -/
def collCombine (op : Nat) (t : ET) (x y : Nat) : Nat :=
  let le := if t.isFloat then minmaxBits true t x y == y else decide (sextNat t.width x ≤ sextNat t.width y)
  match op with
  | 0 => if t.isFloat then rne32 (sumNum 0 [fp32 x, fp32 y]).1 else (x + y) % 2 ^ t.width
  | 1 => if t.isFloat then minmaxBits true t x y else (if le then y else x)
  | _ => if t.isFloat then minmaxBits false t x y else (if le then x else y)

/-- R352: what DST of an epoch receives. -/
def collResult (e : Epoch) : List Byte :=
  let byRank := (List.range e.npart).map (fun k => ((e.arrivals.find? (fun a => a.rank == k)).map (·.data)).getD [])
  match e.kind with
  | 0 =>
    let t := ET.ofCode e.et
    let w := t.width / 8
    (List.range (e.bytes / w)).flatMap (fun i =>
      bytesOfNat w (treeReduce (fun _ x y => (collCombine e.op t x y, (0 : Flags))) 0 (byRank.map (fun d => fieldAt d (w * i) w))).1)
  | 1 => byRank.flatten
  | _ => []

/-- The DST of each participant that receives something. -/
def receivers (s : State) (e : Epoch) (n : Nat) : State × List (Arrival × List (Nat × Option Target)) :=
  (e.arrivals.filter (fun x => x.receives && n != 0)).foldl (fun (s, l) x =>
    let (s, b) := x.buffer s n
    (s, l ++ [(x, b)])) (s, [])

/-- R38: the lines that the host holds among those of some buffers. -/
def bufferHeld (s : State) (l : List (Nat × Option Target)) : List Nat :=
  l.flatMap (fun x => match x.2 with
    | some g => heldLines s (g.place.lines s.modId x.1)
    | none => [])

/-- How a delivery stands: it waits for the host (R38), or it is made, with a status and the time when its writes are acknowledged. -/
inductive Delivery
  | held
  | made (status due : Nat)
  deriving DecidableEq, Repr

/-- R352, R353: every DST of a closed epoch written. R142 has the delivery that meets a partial cell or a fault of R140 end as the copy sequencer does, and
    R353's table lists no such status: the epoch ends FAULT, 3 (DESIGN CHOICE, log 61). -/
def deliver (s : State) (e : Epoch) : State × Delivery :=
  let out := collResult e
  if e.status ≠ 0 then (s, .made e.status 0)
  else
    let (s, rs) := receivers s e out.length
    if rs.any (fun x => bufferDown s x.2) then (s, .made 1 0)
    else
      match rs.flatMap (fun x => bufferHeld s x.2) with
      | [] =>
        let due := rs.foldl (fun d x => max d (bufferDue s x.2)) 0
        let (s, ok) := rs.foldl (fun (s, ok) x => if ok then writeBuffer s x.1.scope (x.1.writer s) x.2 out else (s, false)) (s, true)
        (s, .made (if ok then 0 else 3) due)
      | ls => (askHost s ls, .held)

/-- R352: a closed epoch: every DST, then, once those writes are acknowledged, every DONE. -/
def collComplete (s : State) (rend : Nat) : State :=
  match s.epochs.find? (fun e => e.rend == rend && e.arrivals.length ≥ e.npart) with
  | none => s
  | some e =>
    let rest := s.epochs.erase e
    let finish := fun (s : State) (e : Epoch) => e.arrivals.foldl (fun s a => writeDone s a e.status e.number) { s with epochs := rest }
    match e.due with
    | some d =>
      if s.now < d then s
      else
        (match e.arrivals.flatMap (fun a => a.doneHeld s) with
          | [] => finish s e
          | ls => (askHost s ls).post 64 (.collectiveComplete rend))
    | none =>
      match deliver s e with
      | (s, .held) => s.post 64 (.collectiveComplete rend)
      | (s, .made status due) =>
        { s with epochs := { e with status, due := some due } :: rest }.post (due - s.now) (.collectiveComplete rend)

/-! ### Events of the engines -/

/-- A core number of this module. -/
def coreExists (c : Nat) : Bool := c < 128

/-- COPY_SECTOR_TRANSLATED (R205): a copy's sector translates and begins to write, or its fault parks or ends the copy. -/
def execCopySectorTranslated (core copy : Nat) (s : State) : Res :=
  .next (if coreExists core && copy < 4 then copySector s core copy else s)

/-- COPY_SECTOR_COMPLETE (R161, R205): a copy's sector completes and is counted, and the counts that were due are made. -/
def execCopySectorComplete (core copy : Nat) (s : State) : Res :=
  .next (if coreExists core && copy < 4 then sectorDue (settleSyncs s) core copy else s)

/-- COLLECTIVE_ARRIVAL (R352, R353): a unit's participation, whose descriptor stands at an address `desc` of its context, is accepted and joins;
    a participant of another module joins, or has been cancelled, at the rendezvous record at physical address `desc`. A unit that does not
    exist, or a descriptor that cannot be read, is no arrival (log 50). -/
def execCollectiveArrival (p : Participant) (kind : Nat) (desc : Word) (s : State) : Res :=
  match p with
  | .near u =>
    if (s.strand u).st = .empty || kind > 2 then .next s
    else match fetchRecord s (s.agentOf u) desc 64 with
      | (s, .error .wait) => .next (s.post 64 (.collectiveArrival p kind desc))
      | (s, .error (.fault _ _)) => .next s
      | (s, .ok r) => (match acceptColl s u kind r with
        | (s, true) => .next s
        | (s, false) => .next (s.post 64 (.collectiveArrival p kind desc)))
  | .far f => .next (acceptFar s f kind desc.toNat)
  | .farCancelled => .next (cancelFar s desc.toNat)

/-- COLLECTIVE_COMPLETE (R352): the closed epoch of a record writes every DST, then every DONE. -/
def execCollectiveComplete (rend : Nat) (s : State) : Res := .next (collComplete s rend)

/-- R203: the raw bytes buffered for the streams of both slots of a core. -/
def bufferedOn (s : State) (core : Nat) : Nat :=
  (s.allStrands.filter (fun p => p.1.core == core)).foldl (fun k p => p.2.streams.foldl (fun k y => k + y.buf.length) k) 0

/-- STREAM_PREFETCH (R203): raw bytes of a stream arrive in the buffer, which holds 16 KiB a core; bytes that fault do not. -/
def execStreamPrefetch (u : SlotRef) (q n : Nat) (s : State) : Res :=
  let t := s.strand u
  match t.streams[q]? with
  | none => .next s
  | some x =>
    if t.st = .empty ∨ x.active = false then .next s
    else
      let k := min (min n (16384 - bufferedOn s u.core)) (x.len - (x.pos + x.buf.length))
      match streamFetch s (s.agentOf u) x (k / 64 + 2) (x.base + BitVec.ofNat 64 (x.pos + x.buf.length)) k with
      | (s, .error _) => .next s
      | (s, .ok bs) => .next (s.setStrand u { s.strand u with streams := t.streams.setIfInBounds q { x with buf := x.buf ++ bs } })

/-- STASH_LINE_FILL (R123): a mapped line fetched from its home arrives clean. -/
def execStashLineFill (core off : Nat) (s : State) : Res := .next (if coreExists core then stashFill s core off else s)

/-- STRSET (R340): start a stream from a descriptor and begin prefetching. -/
def execStrset (r : RF) (s : State) : Res := guarded (some (r.view 34 0)) s strsetOp

/-- STRSET_X (R340): extended STRSET with displacement. -/
def execStrsetX (x : XF) (s : State) : Res := guarded (some (x.view 34 0)) s strsetOp

/-- STRCLR (R342): make a stream inactive. -/
def execStrclr (r : RF) (s : State) : Res := guarded (some (r.view 34 1)) s strclrOp

/-- STRCLR_X (R342): extended STRCLR. -/
def execStrclrX (x : XF) (s : State) : Res := guarded (some (x.view 34 1)) s strclrOp

/-- STRSTAT (R342): read a stream's position and status. -/
def execStrstat (r : RF) (s : State) : Res := guarded (some (r.view 34 2)) s strstatOp

/-- STRSTAT_X (R342): extended STRSTAT. -/
def execStrstatX (x : XF) (s : State) : Res := guarded (some (x.view 34 2)) s strstatOp

/-- CPLVL (R344): write level 0 of a copy descriptor (base form). -/
def execCplvl (r : RF) (s : State) : Res := guarded (some (r.view 35 0)) s cplvlOp

/-- CPLVL_X (R344): CPLVL naming its level. -/
def execCplvlX (x : XF) (s : State) : Res := guarded (some (x.view 35 0)) s cplvlOp

/-- CPGO (R345): start copy 0 from a descriptor (base form). -/
def execCpgo (r : RF) (s : State) : Res := guarded (some (r.view 35 1)) s cpgoOp

/-- CPGO_X (R345): CPGO naming its copy number. -/
def execCpgoX (x : XF) (s : State) : Res := guarded (some (x.view 35 1)) s cpgoOp

/-- CPSTAT (R346): read the status of copy 0. -/
def execCpstat (r : RF) (s : State) : Res := guarded (some (r.view 35 2)) s cpstatOp

/-- CPSTAT_X (R346): CPSTAT naming its copy. -/
def execCpstatX (x : XF) (s : State) : Res := guarded (some (x.view 35 2)) s cpstatOp

/-- CPCAN (R346): cancel copy 0 at a sector boundary. -/
def execCpcan (r : RF) (s : State) : Res := guarded (some (r.view 35 3)) s cpcanOp

/-- CPCAN_X (R346): CPCAN naming its copy. -/
def execCpcanX (x : XF) (s : State) : Res := guarded (some (x.view 35 3)) s cpcanOp

/-- FLINIT (R347): place flacon 0's ring of slots. -/
def execFlinit (r : RF) (s : State) : Res := guarded (some (r.view 36 0)) s flinitOp

/-- FLINIT_X (R347): FLINIT naming its flacon. -/
def execFlinitX (x : XF) (s : State) : Res := guarded (some (x.view 36 0)) s flinitOp

/-- AWAITF (R347): wait until the head slot is FULL; an acquire. -/
def execAwaitf (r : RF) (s : State) : Res := guarded (some (r.view 36 1)) s awaitfOp

/-- AWAITF_X (R347): AWAITF naming its flacon. -/
def execAwaitfX (x : XF) (s : State) : Res := guarded (some (x.view 36 1)) s awaitfOp

/-- RELS (R347): release the head slot, letting a waiting copy take it. -/
def execRels (r : RF) (s : State) : Res := guarded (some (r.view 36 2)) s relsOp

/-- RELS_X (R347): RELS naming its flacon. -/
def execRelsX (x : XF) (s : State) : Res := guarded (some (x.view 36 2)) s relsOp

/-- FLSTAT (R347): read a flacon's state. -/
def execFlstat (r : RF) (s : State) : Res := guarded (some (r.view 36 3)) s flstatOp

/-- FLSTAT_X (R347): FLSTAT naming its flacon. -/
def execFlstatX (x : XF) (s : State) : Res := guarded (some (x.view 36 3)) s flstatOp

/-- STASHMAP (R348): map an object onto a scratch range and wait for its leases. -/
def execStashmap (r : RF) (s : State) : Res := guarded (some (r.view 37 0)) s stashmapOp

/-- STASHMAP_X (R348): extended STASHMAP. -/
def execStashmapX (x : XF) (s : State) : Res := guarded (some (x.view 37 0)) s stashmapOp

/-- STASHUNMAP (R348): unmap with write-back and return the object to LEASE. -/
def execStashunmap (r : RF) (s : State) : Res := guarded (some (r.view 37 1)) s stashunmapOp

/-- STASHUNMAP_X (R348): extended STASHUNMAP. -/
def execStashunmapX (x : XF) (s : State) : Res := guarded (some (x.view 37 1)) s stashunmapOp

/-- STASHWB (R348): write back dirty stash lines in a range. -/
def execStashwb (r : RF) (s : State) : Res := guarded (some (r.view 37 2)) s stashwbOp

/-- STASHWB_X (R348): extended STASHWB. -/
def execStashwbX (x : XF) (s : State) : Res := guarded (some (x.view 37 2)) s stashwbOp

/-- CWB (R349): write dirty L2 lines of a range to DRAM. -/
def execCwb (r : RF) (s : State) : Res := guarded (some (r.view 38 0)) s (cmoOp true false)

/-- CWB_X (R349): extended CWB. -/
def execCwbX (x : XF) (s : State) : Res := guarded (some (x.view 38 0)) s (cmoOp true false)

/-- CINV (R349): invalidate this core's L1 copies of a range. -/
def execCinv (r : RF) (s : State) : Res := guarded (some (r.view 38 1)) s (cmoOp false true)

/-- CINV_X (R349): extended CINV. -/
def execCinvX (x : XF) (s : State) : Res := guarded (some (x.view 38 1)) s (cmoOp false true)

/-- CWBINV (R349): CWB then CINV over a range. -/
def execCwbinv (r : RF) (s : State) : Res := guarded (some (r.view 38 2)) s (cmoOp true true)

/-- CWBINV_X (R349): extended CWBINV. -/
def execCwbinvX (x : XF) (s : State) : Res := guarded (some (x.view 38 2)) s (cmoOp true true)

/-- COLLRED (R352): join a reduction collective. -/
def execCollred (r : RF) (s : State) : Res := guarded (some (r.view 39 0)) s (collOp 0)

/-- COLLRED_X (R352): extended COLLRED. -/
def execCollredX (x : XF) (s : State) : Res := guarded (some (x.view 39 0)) s (collOp 0)

/-- COLLGAT (R352): join a gather collective. -/
def execCollgat (r : RF) (s : State) : Res := guarded (some (r.view 39 1)) s (collOp 1)

/-- COLLGAT_X (R352): extended COLLGAT. -/
def execCollgatX (x : XF) (s : State) : Res := guarded (some (x.view 39 1)) s (collOp 1)

/-- COLLBAR (R352): join a barrier collective. -/
def execCollbar (r : RF) (s : State) : Res := guarded (some (r.view 39 2)) s (collOp 2)

/-- COLLBAR_X (R352): extended COLLBAR. -/
def execCollbarX (x : XF) (s : State) : Res := guarded (some (x.view 39 2)) s (collOp 2)

end Sys2Proof.Machine
end

