-- ==== Sys2Proof/Machine/Convoy.lean ====
section
/-! DEFINITION. Fetching, decoding and checking a convoy, running its members in step, and the order of steps (R197, R212, R214, R265, R266, R270, R354). `run` is what an instruction does. -/

namespace Sys2Proof.Machine

open Sys2Proof

/-- A result with its next state changed. -/
def mapNext (f : State → State) : Res → Res
  | .next s => .next (f s)
  | .fault x => .fault x
  | .refused x => .refused x

/-- A word fetched at an address of the executing strand (R93, R99, R121). A fetch is a read: behind a port that is down (R28), or from an
    uncorrectable line (R18), it takes LOAD_FAULT, the cause those rules give reads (DEDUCED, log 46). -/
def fetchWord (s : State) (va : Word) : State × Except (Nat × Word) Word32 :=
  match resolve s s.me .fetch none va 4 4 with
  | (s, .error c) => (s, .error (c, va))
  | (s, .ok g) =>
    if windowBars s g || farBarred s s.me.ctx g.place 4 then (s, .error (Cause.access, va))
    else if unreachable s g.place then (s, .error (Cause.loadFault, va))
    else
      let (s, bs) := readHome s g.place 4 g.use
      (s, if poisoned s g.place then .error (Cause.loadFault, va) else .ok (BitVec.ofNat 32 (natOfBytes bs)))

/-- n words fetched from an address up. -/
def fetchWords (s : State) : Nat → Word → State × Except (Nat × Word) (List Word32)
  | 0, _ => (s, .ok [])
  | n + 1, va =>
    match fetchWord s va with
    | (s, .error e) => (s, .error e)
    | (s, .ok w) =>
      match fetchWords s n (va + 4) with
      | (s, .error e) => (s, .error e)
      | (s, .ok ws) => (s, .ok (w :: ws))

/-- R265: the members of a convoy from an address up, each as its words: at most four, ending at C = 0. -/
def fetchConvoy (s : State) : Nat → Word → State × Except (Nat × Word) (List (List Word32))
  | 0, _ => (s, .ok [])
  | k + 1, va =>
    match fetchWord s va with
    | (s, .error e) => (s, .error e)
    | (s, .ok w0) =>
      match fetchWords s (wordCount w0 - 1) (va + 4) with
      | (s, .error e) => (s, .error e)
      | (s, .ok ws) =>
        if !w0.getLsbD 2 then (s, .ok [w0 :: ws])
        else
          match fetchConvoy s k (va + BitVec.ofNat 64 (4 * wordCount w0)) with
          | (s, .error e) => (s, .error e)
          | (s, .ok ms) => (s, .ok ((w0 :: ws) :: ms))

/-- The major of a first word (R260). -/
def majorOf (w0 : Word32) : Nat := (w0.extractLsb' 6 6).toNat

/-- FN of an R-form first word (R260). -/
def fnOf (w0 : Word32) : Nat := (w0.extractLsb' 12 5).toNat

/-- R266, R270: a first word that may not stand in a convoy of several. -/
def misfit (w0 : Word32) : Bool := Check.assigned (majorOf w0) && Check.classOf (majorOf w0) (fnOf w0) != .chainable

/-- R270 checks 1 and 2, on the whole convoy: the reason and the member. -/
def convoyReason (ms : List (List Word32)) : Option (Nat × Nat) :=
  let firsts := ms.map (fun m => m.headD 0)
  if firsts.length = 4 && (firsts.getD 3 0).getLsbD 2 then some (7, 3)
  else if firsts.length ≥ 2 then
    match firsts.findIdx? misfit with
    | some i => some (6, i)
    | none => none
  else none

/-- R354: a convoy that holds a row-progress instruction, by its first words. -/
def hasRowWord (ms : List (List Word32)) : Bool := ms.any (fun m => Check.isRowProgress (majorOf (m.headD 0)) (fnOf (m.headD 0)))

/-- R354: a member that may not stand beside a row-progress instruction. -/
def rowClash (v : View) : Bool := !Check.isRowProgress v.major v.fn && !Check.isRowCompanion v.major v.fn

/-- R270 checks 3 to 8 of one member, beside a row-progress instruction or not: its instruction, or the reason. -/
noncomputable def memberOf (s : State) (row : Bool) (ws : List Word32) : Except Nat Instr :=
  let m := majorOf (ws.headD 0)
  if Check.assigned m && !Check.agentRuns s.curRef.isConductor m then .error 9
  else
    match decodeWords ws with
    | .error (.illegal r) => .error r
    | .error _ => .error 1
    | .ok i =>
      match i.view with
      | none => .error 1
      | some v => if (baseTyped v && baseBad s.cur v) || (row && rowClash v) then .error 8 else .ok i

/-- The members as instructions, or the first reason with its member. -/
noncomputable def membersOf (s : State) (row : Bool) : Nat → List (List Word32) → Except (Nat × Nat) (List Instr)
  | _, [] => .ok []
  | k, m :: ms =>
    match memberOf s row m with
    | .error r => .error (r, k)
    | .ok i =>
      match membersOf s row (k + 1) ms with
      | .error e => .error e
      | .ok is => .ok (i :: is)

/-- R270: a whole convoy checked: its instructions, or TRAPVAL. -/
noncomputable def checkConvoy (s : State) (ms : List (List Word32)) : Except Word (List Instr) :=
  let val := fun (r k : Nat) => illegalVal r k ((ms.getD k []).headD 0)
  match convoyReason ms with
  | some (r, k) => .error (val r k)
  | none =>
    match membersOf s (hasRowWord ms) 0 ms with
    | .error (r, k) => .error (val r k)
    | .ok is => .ok is

/-- The members of a convoy executed in order, each handing its trap or wait to the convoy. -/
def runMembers (run : Instr → State → Res) : Nat → List Instr → State → Res
  | _, [], s => .next s
  | k, i :: is, s =>
    let s := { s with cur := { s.cur with cv := { s.cur.cv with member := k } } }
    if s.cur.wait ≠ .none then .next s
    else
      match run i s with
      | .next s' => runMembers run (k + 1) is s'
      | .fault f => .fault f
      | .refused r => .refused r

/-- A convoy context for several members, or for a halt at an element. -/
def convoyStart (s : State) (bytes : Nat) (limit : Option Nat) : State :=
  { s with cur := { s.cur with wait := .none, cv := { Convoy.idle with multi := true, addr := s.cur.pc, bytes, limit } } }

/-- R341: a stream's error that a pop of the trapping convoy found stays found. -/
def keepStreams (old new : Vector Stream 8) : Vector Stream 8 :=
  Vector.zipWith (fun x y => if y.err then { x with err := true, cause := y.cause, errVal := y.errVal } else x) old new

/-- R18: what the trapping access found in DRAM stays found when the convoy is run again up to it. -/
def keepFound (s0 s1 : State) : State :=
  let s0 := { s0 with cur := { s0.cur with streams := keepStreams s0.cur.streams s1.cur.streams } }
  (s0.latent.filter (fun l => !setHas s1.latent l)).foldl detectUe s0

/-- R135, R136: the cells that the trapping access of a pass froze are frozen once the elements below it have performed. -/
def freezeFound (s1 s : State) : State :=
  { s with cells := s1.cur.cv.froze.foldl (fun m pa => mapSet m pa { s.cellAt pa with frozen := true }) s.cells }

/-- R354: a convoy that holds a row-progress instruction. -/
def rowConvoy (vs : List View) : Bool := vs.any (fun v => Check.isRowProgress v.major v.fn)

/-- R354: rows of a block: one beside ACCLD, ACCRD, ACCWR or DRAIN, else 8. -/
def blockRows (vs : List View) : Nat := if vs.any (fun v => (v.major == 0x30 && 3 ≤ v.fn && v.fn ≤ 5) || (v.major == 0x31 && v.fn == 0)) then 1 else 8

/-- A convoy context for one block, with what HISTO counted before it. -/
def blockStart (s : State) (bytes : Nat) (limit : Option Nat) : State :=
  let s' := convoyStart s bytes limit
  { s' with cur := { s'.cur with cv := { s'.cur.cv with hist := s.cur.cv.hist } } }

/-- A convoy left at an element, with what HISTO counted. -/
def leftAt (s : State) (e : Nat) : State :=
  { s with cur := { s.cur with vstart := BitVec.ofNat 64 e, wait := .none, cv := { Convoy.idle with hist := s.cur.cv.hist } } }

/-- R38, R42: what a pass that is abandoned has asked of the host stays asked. -/
def keepAsked (s s1 : State) : State :=
  { s with snoopInv := s1.snoopInv.foldl setAdd s.snoopInv, cur := { s.cur with zeroRead := s1.cur.zeroRead } }

/-- R144: one of the faults of an accord write. -/
def accordCause (c : Nat) : Bool := c == Cause.accordFull || c == Cause.accordPool || c == Cause.accordSiblings || c == Cause.accordFrozen

/-- R144, R214: how a convoy that is being halted meets a fault: an accord write's is kept as pending; any other is found again when the convoy
    restarts. -/
def keepFault (s : State) (c : Nat) (x : Word) : State :=
  if accordCause c then { s with cur := { s.cur with pending := some (c, x) } } else s

/-- R103, R197, R212: the members of a convoy run from VSTART up to a limit. When one waits before an element, or traps at one, the pass is given
    up and made again up to there: the elements below are complete in every member, and a lower element may wait or trap in its turn. The convoy
    is `done`, or left at the lowest element that waits or traps (`fail`); a wait at VSTART leaves it as it is. -/
def passTo (run : Instr → State → Res) (is : List Instr) (start : State → Option Nat → State) (left : Nat → State → State)
    (fail : State → Nat → Word → State) : Nat → State → Option Nat → (State → Res) → Res
  | 0, s, _, _ => .next s
  | k + 1, s, limit, done =>
    match runMembers run 0 is (start s limit) with
    | .fault f => .fault f
    | .refused r => .refused r
    | .next s1 =>
      if s1.cur.wait ≠ .none then
        if s1.cur.vstart = s.cur.vstart then .next (keepAsked s s1)
        else passTo run is start left fail k (keepAsked s s1) (some (startOf s1.cur)) (fun s2 => .next (left (startOf s1.cur) s2))
      else
        match s1.cur.cv.trap with
        | none => done s1
        | some (c, x, e) => passTo run is start left fail k (keepFound s s1) (some e) (fun s2 => .next (fail (left e (freezeFound s1 s2)) c x))

/-- Passes of one convoy: each ends at a lower element than the one before (R298). -/
def passFuel : Nat := 4100

/-- R354: the members of a row convoy in step, one block at a time from VSTART, until the convoy retires (`done`),
    a member traps (`fail`) or waits at a row, or the row `stop` is reached. -/
def rowBlocks (run : Instr → State → Res) (is : List Instr) (bytes rows : Nat) (stop : Option Nat) (done : State → State)
    (fail : State → Nat → Word → State) : Nat → State → Res
  | 0, s => .next s
  | k + 1, s =>
    let next := (startOf s.cur / rows + 1) * rows
    let last := decide (128 ≤ next)
    if stop.any (· ≤ startOf s.cur) then .next s
    else
      passTo run is (fun s => blockStart s bytes) (fun e s => leftAt s e) fail passFuel s (if last then none else some next)
        (fun s1 => if last then .next (done s1) else rowBlocks run is bytes rows stop done fail k (leftAt s1 next))

/-- The bytes of a convoy. -/
def convoyBytes (vs : List View) : Nat := (vs.map View.bytes).foldl (· + ·) 0

/-- R197: the whole convoy retires. -/
def convoyDone (t : Strand) (vs : List View) (s1 : State) : State :=
  let stall := ((vs.getLast?.map (fun v => v.hd.stall.toNat)).getD 0)
  retire s1 (t.pc + BitVec.ofNat 64 (convoyBytes vs)) (vs.any View.clearsVstart) (nextProds t.prods stall (vs.flatMap scalarWrites) none)

/-- A convoy that is not in row blocks, up to an element or to its end: it retires, is left at `limit`, or is left at the element where a
    member waits or traps (`fail`). Where an earlier member traps above the element at which a VLD.FF has shortened VL, that VL stands, and
    the restarted convoy runs under it: R104 does not say (DESIGN CHOICE, log 69). -/
def passConvoy (run : Instr → State → Res) (s : State) (is : List Instr) (vs : List View) (limit : Option Nat) (fail : State → Nat → Word → State) : Res :=
  let left := fun (e : Nat) (s2 : State) => { s2 with cur := { s2.cur with vstart := BitVec.ofNat 64 e, wait := .none, cv := .idle } }
  passTo run is (fun s => convoyStart s (convoyBytes vs)) left fail passFuel s limit (fun s1 => .next (match limit with
    | none => convoyDone s.cur vs s1
    | some e => left e s1))

/-- R103, R197, R212: a convoy of several members: run, and when one trapped, run again up to the element
    that did. -/
def runConvoy (run : Instr → State → Res) (s : State) (is : List Instr) (vs : List View) : Res :=
  let reads := vs.flatMap (scalarReads s.cur)
  let under := if s.cur.schk.getLsbD 0 then stallUnder s.cur.prods reads else 0
  let fail := fun (s2 : State) (c : Nat) (x : Word) => trapEntry s2 c x s.cur.pc
  if under ≠ 0 then .next (trapEntry s Cause.stallUnder (BitVec.ofNat 64 under) s.cur.pc)
  else if rowConvoy vs then rowBlocks run is (convoyBytes vs) (blockRows vs) none (convoyDone s.cur vs) fail 129 s
  else passConvoy run s is vs none fail

/-- R214: a member that a halt abandons whole: an unordered reduction, HISTO, SCALEPICK. -/
def wholeMember (v : View) : Bool := Check.isRowCompanion v.major v.fn || (v.major == 0x2E && v.fn != 4)

/-- R214: a member whose progress is by elements rather than by groups: a memory instruction, VFREDOSUM. -/
def elemMember (v : View) : Bool := v.major < 0x28 || (v.major == 0x2E && v.fn == 4)

/-- R199: elements of a 256-bit group of a member's destination. -/
def groupElems (t : Strand) (v : View) : Nat := 256 / (Check.tD (effective t v)).width

/-- R214: where a halt at element p leaves a convoy: nothing below VSTART runs again, and vector arithmetic completes the group that its member
    0 has begun. -/
def haltAt (t : Strand) (vs : List View) (p : Nat) : Nat :=
  let g := match vs with
    | v :: _ => if vs.any elemMember then 1 else groupElems t v
    | [] => 1
  max (startOf t) ((p + g - 1) / g * g)

/-- R214, R367: CBLD halted when its write phase has come to entry p of its range. -/
def haltCbld (run : Instr → State → Res) (s : State) (i : Instr) (p : Nat) : Res :=
  match run i (convoyStart s 4 (some p)) with
  | .fault f => .fault f
  | .refused r => .refused r
  | .next s1 =>
    if s1.cur.wait ≠ .none then .next (keepAsked s s1)
    else if s1.cur.cv.trap.isSome then .next (keepFound s s1)
    else .next { s1 with cur := { s1.cur with cv := .idle } }

/-- R214, R215: the strand is halted within its convoy: a scalar convoy, one abandoned whole and one at its first element have not begun, a row
    convoy completes its block,
    any other is left at the element it has come to, or runs to its end where that is past every member's. -/
def haltGroups (run : Instr → State → Res) (s : State) (is : List Instr) (vs : List View) (p : Nat) : Res :=
  let e := haltAt s.cur vs p
  if vs.any (fun v => Check.classOf v.major v.fn != .chainable) || vs.all wholeMember then .next s
  else if rowConvoy vs then
    let rows := blockRows vs
    rowBlocks run is (convoyBytes vs) rows (some ((p + rows - 1) / rows * rows)) (convoyDone s.cur vs) keepFault 129 s
  else if e ≤ startOf s.cur && !vs.all (fun v => vlOf s.cur (effective s.cur v) ≤ e) then .next s
  else passConvoy run s is vs (if vs.all (fun v => vlOf s.cur (effective s.cur v) ≤ e) then none else some e) keepFault

/-- R214: the strand is halted within its convoy, at element, row or entry p. -/
def haltConvoy (run : Instr → State → Res) (s : State) (is : List Instr) (vs : List View) (p : Nat) : Res :=
  match is, vs with
  | [i], [v] => if v.major = 0x32 ∧ v.fn = 0 ∧ p ≠ 0 then haltCbld run s i p else haltGroups run s is vs p
  | _, _ => haltGroups run s is vs p

/-- R78, R81: a cancel acts at a convoy boundary. -/
def takeCancel (s : State) : State :=
  match s.cur.cancel with
  | .terminate => endUnit s s.curRef false false
  | _ => trapEntry { s with cur := { s.cur with cancel := .none, cancelTrapTaken := true } } Cause.cancel 0 s.cur.pc

/-- The next convoy of the executing strand, or what it takes before it. R78 and R144 both name the next convoy boundary: a cancel is taken before a
    pending fault (DESIGN CHOICE, log 85). -/
noncomputable def strandGo (run : Instr → State → Res) (s : State) : Res :=
  if s.cur.cancel ≠ .none ∧ !s.cur.wait.settled then .next (takeCancel s)
  else
    match (if s.cur.wait.settled then none else s.cur.pending) with
    | some (c, x) => .next (trapEntry { s with cur := { s.cur with pending := none, status := s.cur.status &&& ~~~(8 : Word) } } c x s.cur.pc)
    | none =>
      match fetchConvoy s 4 s.cur.pc with
      | (s, .error (c, va)) => .next (trapEntry s c va s.cur.pc)
      | (s, .ok ms) =>
        match checkConvoy s ms with
        | .error x => .next (trapEntry s Cause.illegal x s.cur.pc)
        | .ok is =>
          let vs := is.filterMap Instr.view
          match s.cur.cv.limit, is with
          | some p, _ => haltConvoy run s is vs p
          | none, [i] => run i s
          | none, _ => runConvoy run s is vs

/-- R214: a step of the executing strand. One that has been asked to halt is halted after it, in its convoy or at the handler it has entered. -/
noncomputable def strandStep (run : Instr → State → Res) (s : State) : Res :=
  if s.cur.cv.limit.isSome then mapNext halted (strandGo run s) else strandGo run s

/-- Cycles a strand's step takes on GTIME: one, and STALL of the convoy's last word (R197, log 6). -/
def convoyTime (s : State) : Nat :=
  match fetchConvoy s 4 s.cur.pc with
  | (_, .ok ms) => 1 + ((((ms.getLast?).getD []).headD 0).extractLsb' 3 3).toNat
  | _ => 1

/-- GTIME advanced. -/
def advanceTime (s : State) (n : Nat) : State := { s with gtime := s.gtime + BitVec.ofNat 64 n }

/-- A strand that may take a step. -/
def runnable (p : SlotRef × Strand) : Bool := p.2.st == .running

/-- The turn passes to the strand that has waited longest (log 5). -/
def rotate (s : State) : State :=
  match (s.others.filter runnable).getLast? with
  | none => s
  | some (u, t) =>
    let rest := s.others.filter (fun p => p.1 != u)
    { s with cur := t, curRef := u, others := if s.cur.st = .empty then rest else (s.curRef, s.cur) :: rest }

/-- Strands that look again at their condition are woken. -/
def wakePolls (s : State) : State :=
  (s.allStrands.filter (fun p => p.2.st == .waiting && p.2.wait == .poll)).foldl (fun s p => wake s p.1 .none) s

/-- GTIME at the next step when no strand runs: the next dated event, or one cycle on. -/
def idleTo (s : State) : Nat :=
  match s.agenda with
  | (d, _) :: _ => if d > s.now then d - s.now else 1
  | [] => 1

/-- R57: the steps of the management core and the host interface, which go on in the fatal state. -/
def hostSide : Instr → Bool
  | .reset | .enq _ _ | .openWindow _ | .reattach _ | .hostAckDseq _ | .msixModerationExpiry | .registerWrite _ _ | .clearOnRead _
  | .layoutChange _ | .fwBegin | .fwChunk | .fwCommit | .attest | .attestRead | .certRead | .dumpNow | .dumpRead => true
  | _ => false

/-- R57: a step in the fatal state: GTIME stands still, and of what is dated only the host's side goes on, in its order (log 27). -/
def fatalStep (run : Instr → State → Res) (s : State) : Res :=
  match s.agenda with
  | (_, i) :: rest => if hostSide i then run i { s with agenda := rest } else .next { s with agenda := rest }
  | [] => .next s

/-- One step of the part: a due event, or the next convoy of the executing strand, or time that passes. -/
noncomputable def stepWith (run : Instr → State → Res) (s : State) : Res :=
  if s.pkg.fatal.isSome then fatalStep run s
  else
    match s.agenda with
    | (d, i) :: rest =>
      if d ≤ s.now then run i { s with agenda := rest }
      else if s.cur.st = .running then mapNext (fun t => rotate (wakePolls (advanceTime t (convoyTime s)))) (strandStep run s)
      else .next (advanceTime (rotate (wakePolls s)) (if (s.others.any runnable) then 0 else idleTo s))
    | [] =>
      if s.cur.st = .running then mapNext (fun t => rotate (wakePolls (advanceTime t (convoyTime s)))) (strandStep run s)
      else .next (advanceTime (rotate (wakePolls s)) (if (s.others.any runnable) then 0 else 1))

/-! ### Placing an instruction where the next step finds it -/

/-- Where `withFetchWord` puts instruction words: virtual and physical address (log 4). -/
def fetchHome : Nat := 0x20000000

/-- The level-1 table of context 0 that `withFetchWord` lays down. -/
def fetchRoot : Nat := 0x10000000

/-- Words laid out in memory, each in its byte order (R259). -/
def putWords (m : List Host.Cell) (a : Nat) : List Word32 → List Host.Cell
  | [] => m
  | w :: ws => putWords (Memory.writeBytes m a (bytesOfNat 4 w.toNat)) (a + 4) ws

/-- A context 0 descriptor, a level-1 entry and a 64 GiB leaf that maps low virtual addresses to
    themselves for fetches, loads and stores (R96, R97). -/
def putTables (s : State) : State :=
  let d := descAddr s 0
  let m := Memory.writeBytes s.mem d (bytesOfNat 8 fetchRoot)
  let m := Memory.writeBytes m (d + 8) (bytesOfNat 8 1)
  let m := Memory.writeBytes m fetchRoot (bytesOfNat 8 (fetchRoot + 0x2001))
  { s with mem := Memory.writeBytes m (fetchRoot + 0x2000) (bytesOfNat 8 0x1F) }

end Sys2Proof.Machine
end

