-- ==== Sys2Proof/Machine/Blu.lean ====
section
/-! DEFINITION. The bank lookup units: DRAM rows, table builds, lookup-accumulate, lane operations, result rows and the instructions of a body (R170 to R186, R375 to R381). -/

namespace Sys2Proof.Machine

open Sys2Proof

/-! ### DRAM rows (R15, R18, R164) -/

/-- The channel of a global bank number c × 16 + bank. -/
def chanOf (bank : Nat) : Nat := bank / 16

/-- The device physical address of a row of a global bank. -/
def rowPa (s : State) (bank row : Nat) : Nat := s.rowAddr (chanOf bank) (bank % 16) row

/-- R18: n bytes of one line read from DRAM by a bank command, and whether the line is uncorrectable. The bytes
    such a line gives are open (place 11, log 3). -/
def dramRead (s : State) (pa n : Nat) : State × List Byte × Bool :=
  let line := pa / 128
  let s := eccRead s line
  if setHas s.poison line then ({ s with free := s.free + 1 }, bytesOfNat n (s.freeNat 11), true)
  else (s, ((s.dramLine line).drop (pa % 128)).take n, false)

/-- R164, R18: bytes of one line written to DRAM by a bank command: the home's L2 copy goes, dirty bytes written first. A line that the host
    has read since the command took its objects' lines back leaves the filter in the same step (log 56). -/
def dramWrite (s : State) (pa : Nat) (bs : List Byte) : State :=
  let line := pa / 128
  let s := dropSnoop s line
  let s := if pa % 128 = 0 ∧ bs.length = 128 then eccWrite s line else eccRead s line
  let s := dropLine (cleanLine s line) line
  { s with mem := Memory.writeBytes s.mem pa bs }

/-- A whole row written, line by line. -/
def dramWriteRow (s : State) (pa : Nat) (bs : List Byte) : State :=
  (List.range 8).foldl (fun s i => dramWrite s (pa + 128 * i) ((bs.drop (128 * i)).take 128)) s

/-- R181: a row marked poisoned: each of its lines is, until a full write clears it (R18). -/
def poisonRow (s : State) (row : Nat) : State :=
  (List.range 8).foldl (fun s i => { s with poison := setAdd s.poison (row * 8 + i) }) s

/-! ### A BLU's state (R170, R174, R186) -/

/-- The BLU of a global bank. -/
def State.bluAt (s : State) (bank : Nat) : Blu := (mapGet s.blus bank).getD .reset

/-- The state with a BLU replaced. -/
def State.setBlu (s : State) (bank : Nat) (b : Blu) : State := { s with blus := mapSet s.blus bank b }

/-- The BLU that runs, changed. -/
def State.onBlu (s : State) (f : Blu → Blu) : State := s.setBlu s.blu.bank (f (s.bluAt s.blu.bank))

/-- R186: bits of the status word. -/
def statusTsat : Nat := 8
/-- R186. -/
def statusAovf : Nat := 9
/-- R186. -/
def statusPoison : Nat := 10
/-- R186. -/
def statusBusy : Nat := 11

/-- A status bit set. -/
def Blu.flag (b : Blu) (bit : Nat) : Blu := { b with status := b.status ||| BitVec.twoPow 64 bit }

/-- R186: CODE. -/
def Blu.code (b : Blu) : Nat := natBits b.status.toNat 7 0

/-- R186: BEATS more, saturating. -/
def Blu.addBeats (b : Blu) (n : Nat) : Blu :=
  let x := b.status.toNat
  { b with status := BitVec.ofNat 64 (min (x / 2 ^ 32 + n) (2 ^ 32 - 1) * 2 ^ 32 + x % 2 ^ 32) }

/-- R185, R186: the BLU stops with a code at a loop-buffer index. -/
def Blu.stop (b : Blu) (code bpc : Nat) : Blu := { b with st := .stopped, status := b.status ||| BitVec.ofNat 64 (code + bpc * 2 ^ 16) }

/-- Lane l of a lane register (R376). -/
def Blu.lane (b : Blu) (r l : Nat) : Nat := elemOf ((b.w[r]?).getD 0).toNat 32 l

/-- A lane register written from its bits. -/
def Blu.setLanes (b : Blu) (r x : Nat) : Blu := { b with w := b.w.setIfInBounds r (BitVec.ofNat 512 x) }

/-- A lane mask (R179). -/
def Blu.mask (b : Blu) (m : Nat) : Nat := ((b.m[m]?).getD 0).toNat

/-- acc[o][t] (R170). -/
def Blu.accAt (b : Blu) (o t : Nat) : BitVec 32 := (mapGet b.acc (o % 1024 * 4 + t)).getD 0

/-- acc[o][t] written. -/
def Blu.setAcc (b : Blu) (o t : Nat) (x : BitVec 32) : Blu :=
  { b with acc := if x = 0 then mapDel b.acc (o % 1024 * 4 + t) else mapSet b.acc (o % 1024 * 4 + t) x }

/-- The half that LUACC reads, and the one TBUILD fills (R176). -/
def Blu.readHalf (b : Blu) : Half := if b.readB then b.halfB else b.halfA
/-- R176. -/
def Blu.buildHalf (b : Blu) : Half := if b.readB then b.halfA else b.halfB
/-- R176. -/
def Blu.setBuild (b : Blu) (h : Half) : Blu := if b.readB then { b with halfA := h } else { b with halfB := h }

/-- R176: a running build ends. -/
def Blu.endBuild (b : Blu) : Blu := if b.buildHalf.st = .building then b.setBuild { b.buildHalf with st := .built } else b

/-! ### Tables (R172 to R176) -/

/-- R173: R of a shape, 0 for none. -/
def replicas (b t ew : Nat) : Nat :=
  let cap := if ew = 16 then 16384 else 8192
  ([16, 8, 4, 2, 1].find? (fun r => r * t * 2 ^ b ≤ cap)).getD 0

/-- R172: the width of a pattern's field. -/
def patternWidth (b : Nat) : Nat := if b ≤ 8 then 8 else 16

/-- R172: patterns of a beat. -/
def patternsOf (b : Nat) : Nat := 128 / patternWidth b

/-- R174: d(S, e). -/
def digitOf (s e : Nat) : Int := match s with | 1 => 2 ^ e | 3 => -(2 ^ e) | _ => 0

/-- R174: lvl(v) of a level register. -/
def levelValue (x : Nat) : Int := digitOf (natBits x 13 12) (natBits x 11 8) + digitOf (natBits x 5 4) (natBits x 3 0)

/-- R174: a value CBLDB refuses. -/
def badLevel (x : Nat) : Bool := natBits x 15 14 ≠ 0 || natBits x 7 6 ≠ 0 || natBits x 13 12 == 2 || natBits x 5 4 == 2

/-- R175: the bits of a register and those after it. -/
def lanesFrom (b : Blu) (wa : Nat) : Nat := (List.range (8 - wa)).foldr (fun i g => ((b.w[wa + i]?).getD 0).toNat + g * 2 ^ 512) 0

/-- The fields of a TBUILD word: k, g, T, EW (R377). -/
def tbK (w : TbF) : Nat := w.k.toNat + 1
/-- R377. -/
def tbG (w : TbF) : Nat := w.g.toNat + 1
/-- R377. -/
def tbT (w : TbF) : Nat := w.t.toNat + 1
/-- R377. -/
def tbEw (w : TbF) : Nat := if w.ew then 32 else 16

/-- R175: term(t, j, v). -/
def termOf (b : Blu) (w : TbF) (terms : Bool) (t j v : Nat) : Int :=
  let g := lanesFrom b w.wa.toNat
  if terms then
    let wd := if w.aw then 32 else 16
    sextNat wd (elemOf g wd ((t * tbG w + j) * 2 ^ tbK w + v))
  else
    let wd := if w.aw then 16 else 8
    sextNat wd (elemOf g wd (t * tbG w + j)) * levelValue ((b.lvl[v]?).getD 0).toNat

/-- R175: the exact entry of a pattern for a token. -/
def entryOf (b : Blu) (w : TbF) (terms : Bool) (t p : Nat) : Int :=
  (List.range (tbG w)).foldl (fun e j => e + termOf b w terms t j (elemOf p (tbK w) j)) 0

/-- R175, R176: a table build: a running build ends first; the half is BUILDING until TABLE_BUILD_END. -/
def tbuild (terms : Bool) (w : TbF) (s : State) : State :=
  let b := (s.bluAt s.blu.bank).endBuild
  let lim : Int := 2 ^ (tbEw w - 1)
  let exact := (List.range (tbT w)).map (fun t => (List.range (2 ^ (tbK w * tbG w))).map (entryOf b w terms t))
  let tsat := exact.any (fun l => l.any (fun e => e > lim - 1 || e < -lim))
  let table := exact.map (fun l => l.map (fun e => max (-lim) (min (lim - 1) e)))
  let b := b.setBuild { st := .building, k := tbK w, g := tbG w, t := tbT w, ew := tbEw w, table }
  let s := s.setBlu s.blu.bank (if tsat then b.flag statusTsat else b)
  s.post (ceilDiv (tbT w * 2 ^ (tbK w * tbG w)) 16) (.tableBuildEnd s.blu.bank)

/-- R176: TSWAP, once a running build has ended. -/
def tswapBlu (s : State) : State := s.onBlu (fun b => { b.endBuild with readB := !b.readB })

/-- R174: CBLDB. -/
def cbldbBlu (w : WaF) (s : State) : State :=
  s.onBlu (fun b =>
    let l := (List.range 16).map (fun v => natBits (b.lane w.wa.toNat (v / 2)) (16 * (v % 2) + 15) (16 * (v % 2)))
    if l.any badLevel then b.stop 2 s.blu.bpc else { b with lvl := Vector.ofFn (fun i => BitVec.ofNat 16 (l.getD i.val 0)) })

/-! ### Lookup-accumulate and accumulators (R177, R178, R180) -/

/-- R376: o of an instance. -/
def outOf (x : BluCtx) (ooff : BitVec 10) : Nat := ((x.o + ooff.toInt) % 1024).toNat

/-- The open row of an iteration, and the beat in it (R368). -/
def openRow (s : State) : Nat := rowPa s s.blu.bank (s.blu.ia / 64).toNat
/-- R368. -/
def beatOf (x : BluCtx) : Nat := (x.ia % 64).toNat

/-- R177: one addition to an accumulator. -/
def Blu.accumulate (b : Blu) (o t : Nat) (e : Int) : Blu :=
  let x := (b.accAt o t).toInt + e
  let b := if x > 2 ^ 31 - 1 ∨ x < -(2 ^ 31) then b.flag statusAovf else b
  b.setAcc o t (BitVec.ofInt 32 x)

/-- R177: LUACC of a beat's bits. -/
def luaccBeat (b : Blu) (beat o : Nat) : Blu :=
  let h := b.readHalf
  let n := h.k * h.g
  (List.range (patternsOf n)).foldl (fun b i =>
    let p := elemOf beat (patternWidth n) i % 2 ^ n
    (List.range h.t).foldl (fun b t => b.accumulate (o + i) t ((h.table.getD t []).getD p 0)) b) b

/-- R176 to R178, R186: LUACC and LUACC.S. -/
def luaccBlu (skips : Bool) (w : OutF) (s : State) : State :=
  let b := s.bluAt s.blu.bank
  let j := beatOf s.blu
  if b.readHalf.st = .unbuilt then s.setBlu s.blu.bank (b.stop 1 s.blu.bpc)
  else if skips && !b.skip.getLsbD j then s
  else
    let (s, bs, bad) := dramRead s (openRow s + 16 * j) 16
    s.onBlu (fun b =>
      let b := if bad then b.flag statusPoison else b
      (luaccBeat b (natOfBytes bs) (outOf s.blu w.ooff)).addBeats 1)

/-- R180: the 256 words that ACCPUT of an output row writes. -/
def accWords (b : Blu) (o : Nat) : List (BitVec 32) := (List.range 256).map (fun i => b.accAt (o + i / 4) (i % 4))

/-- Words as bytes, little-endian. -/
def laneBytes (l : List (BitVec 32)) : List Byte := l.flatMap (fun x => bytesOfNat 4 x.toNat)

/-- The command that a grant number names. -/
def State.cmdOf (s : State) (grant : Nat) : Option BankCmd := s.cmds.find? (fun c => c.grant == grant)

/-- The state with a command replaced. -/
def State.setCmd (s : State) (c : BankCmd) : State := { s with cmds := s.cmds.map (fun x => if x.grant = c.grant then c else x) }

/-- The global bank a 1 KiB row of device memory lies in. -/
def rowBank (s : State) (row : Nat) : Nat := let (c, b, _, _) := s.bankOf (row * 1024); c * 16 + b

/-- R180: result row j of a bank, as a row of device memory. -/
def resultRow (s : State) (c : BankCmd) (bank : Nat) (j : Int) : Option Nat :=
  if j < 0 then none else (c.rows.filter (fun r => rowBank s r == bank))[j.toNat]?

/-- R180, R181: 1,024 bytes written to a result row of a bank, whose full bit is set; the row is listed with the bank. -/
def putRow (s : State) (c : BankCmd) (bank : Nat) (row : Nat) (bs : List Byte) : State :=
  let s := dramWriteRow s (row * 1024) bs
  let s := { s with rowClear := setDel s.rowClear row }
  let s := s.setBlu bank ((s.bluAt bank).addBeats 64)
  s.setCmd { c with written := c.written ++ [(bank, row)] }

/-- R180: ACCPUT. -/
def accputBlu (w : OutF) (s : State) : State :=
  match s.cmdOf s.blu.grant with
  | none => s
  | some c =>
    match resultRow s c s.blu.bank (s.blu.j + (w.joff.toNat : Int)) with
    | none => s
    | some row => putRow s c s.blu.bank row (laneBytes (accWords (s.bluAt s.blu.bank) (outOf s.blu w.ooff)))

/-- R182, R378: RTREE: the bank's contribution is captured and its body goes on. -/
def rtreeBlu (w : OutF) (s : State) : State :=
  let x := s.blu
  let k : Contribution := { level := w.level.toNat, n := x.tree, op := w.op.toNat, bank := x.bank, j := x.j + (w.joff.toNat : Int),
                            words := accWords (s.bluAt x.bank) (outOf x w.ooff) }
  let s := { s with blu := { x with tree := x.tree + 1 } }
  match s.cmdOf x.grant with
  | none => s
  | some c => s.setCmd { c with contribs := c.contribs ++ [k] }

/-! ### Moves and lanes (R379 to R381) -/

/-- R379: BLDW. -/
def bldwBlu (w : MoveF) (s : State) : State :=
  let r := w.w.toNat
  match w.sel.toNat with
  | 0 =>
    let (s, bs, bad) := dramRead s (openRow s + 64 * w.koff.toNat) 64
    s.onBlu (fun b => ((if bad then b.flag statusPoison else b).setLanes r (natOfBytes bs)).addBeats 4)
  | 1 =>
    let bs := ((s.cmdOf s.blu.grant).map (·.bcast)).getD []
    s.onBlu (fun b => b.setLanes r (natOfBytes ((bs.drop (64 * (s.blu.bo + (w.koff.toNat : Int)).toNat)).take 64)))
  | _ =>
    let o := outOf s.blu w.ooff
    s.onBlu (fun b => b.setLanes r (packElems 32 ((List.range 16).map (fun l => (b.accAt (o + l / 4) (l % 4)).toNat))))

/-- R379: BSTW. -/
def bstwBlu (w : MoveF) (s : State) : State :=
  let b := s.bluAt s.blu.bank
  let x := ((b.w[w.w.toNat]?).getD 0).toNat
  if w.sel = 0 then
    let pa := openRow s + 64 * w.koff.toNat
    let s := dramWrite s pa (bytesOfNat 64 x)
    let s := s.onBlu (fun b => (if setHas s.poison (pa / 128) then b.flag statusPoison else b).addBeats 4)
    match s.cmdOf s.blu.grant with
    | none => s
    | some c => s.setCmd { c with written := c.written ++ [(s.blu.bank, pa / 1024)] }
  else
    let o := outOf s.blu w.ooff
    s.onBlu (fun b => (List.range 16).foldl (fun b l => b.setAcc (o + l / 4) (l % 4) (BitVec.ofNat 32 (elemOf x 32 l))) b)

/-- R380: a masked write of lanes; `f l` is lane l. -/
def Blu.writeLanes (b : Blu) (me : Bool) (m d : Nat) (f : Nat → Nat) : Blu :=
  let on := b.mask m
  b.setLanes d (packElems 32 ((List.range 16).map (fun l => if !me || on.testBit l then f l % 2 ^ 32 else b.lane d l)))

/-- R380: operand b of a lane. -/
def laneSecond (w : LaneF) (b : Blu) (l : Nat) : Nat := if w.ib then (w.imm9.signExtend 32).toNat else b.lane w.wb.toNat l

/-- R380: a lane operation. -/
def laneOp (f : BitVec 32 → BitVec 32 → BitVec 32) (w : LaneF) (s : State) : State :=
  s.onBlu (fun b => b.writeLanes w.me w.ms.toNat w.wd.toNat (fun l =>
    (f (BitVec.ofNat 32 (b.lane w.wa.toNat l)) (BitVec.ofNat 32 (laneSecond w b l))).toNat))

/-- R380: BSEL. -/
def bselBlu (w : LaneF) (s : State) : State :=
  s.onBlu (fun b => b.writeLanes false 0 w.wd.toNat (fun l =>
    if (b.mask w.ms.toNat).testBit l then b.lane w.wa.toNat l else laneSecond w b l))

/-- R381: the comparison cc. -/
def compareLanes (cc x y : Nat) : Bool :=
  match cc with
  | 0 => x == y
  | 1 => x != y
  | 2 => sextNat 32 x < sextNat 32 y
  | 3 => sextNat 32 x ≤ sextNat 32 y
  | 4 => x < y
  | _ => x ≤ y

/-- R381: BCMP: MD in MS's place and cc in WD's. -/
def bcmpBlu (w : LaneF) (s : State) : State :=
  s.onBlu (fun b =>
    let bits := packElems 1 ((List.range 16).map (fun l => if compareLanes w.wd.toNat (b.lane w.wa.toNat l) (laneSecond w b l) then 1 else 0))
    { b with m := b.m.setIfInBounds w.ms.toNat (BitVec.ofNat 16 bits) })

/-- R381: BCVT. -/
def bcvtBlu (w : CvtF) (s : State) : State :=
  s.onBlu (fun b => b.writeLanes w.me w.ms.toNat w.wd.toNat (fun l =>
    let i2f := fun (i : Nat) => rne32 (Num.ofInt (sextNat 32 (b.lane w.wa.toNat i)))
    match w.cv.toNat with
    | 0 => i2f l
    | 1 => (toInteger (fp32 (b.lane w.wa.toNat l)) 32 false 0 true 0).1
    | _ => if l % 2 = 0 then i2f (l / 2 + if w.hi then 8 else 0) else 0x3F800000))

/-- R381: MAND and MNOT. -/
def maskOp (f : BitVec 16 → BitVec 16 → BitVec 16) (w : MaskF) (s : State) : State :=
  s.onBlu (fun b => { b with m := b.m.setIfInBounds w.md.toNat (f ((b.m[w.ma.toNat]?).getD 0) ((b.m[w.mb.toNat]?).getD 0)) })

/-- R178: SKIPZ. -/
def skipzBlu (w : WaF) (s : State) : State :=
  s.onBlu (fun b => { b with skip := BitVec.ofNat 64 (b.lane w.wa.toNat 0 + b.lane w.wa.toNat 1 * 2 ^ 32) })

/-- R378: ACCCLR. -/
def accclrBlu (s : State) : State := s.onBlu (fun b => { b with acc := [] })

/-! ### A body word (R375, R377 to R381) -/

/-- R375: the guard of a word holds at an iteration. -/
def guardRuns (g : Guard) (x : BluCtx) : Bool := (List.range g.g.toNat).all (fun l => if g.gk then x.last.getD l true else x.first.getD l true)

/-- R375, R185: a word runs unless its guard fails or its BLU has stopped. -/
def bodyWord (g : Guard) (op : State → State) (s : State) : State :=
  if (s.bluAt s.blu.bank).st = .stopped || !guardRuns g s.blu then s else op s

/-- Signed larger. -/
def maxLane (x y : BitVec 32) : BitVec 32 := if x.slt y then y else x
/-- Signed smaller. -/
def minLane (x y : BitVec 32) : BitVec 32 := if x.slt y then x else y

/-- BNOP (R377): BLU no operation. -/
def bnopWord (w : NoF) (s : State) : State := bodyWord w.gd id s

/-- BNOP as a step of the BLU that runs. -/
def execBnop (w : NoF) (s : State) : Res := .next (bnopWord w s)

/-- TBUILD_R (R175): build token tables from raw activations into the build half. -/
def tbuildRWord (w : TbF) (s : State) : State := bodyWord w.gd (tbuild false w) s

/-- TBUILD_R as a step of the BLU that runs. -/
def execTbuildR (w : TbF) (s : State) : Res := .next (tbuildRWord w s)

/-- TBUILD_T (R175): build token tables from term vectors. -/
def tbuildTWord (w : TbF) (s : State) : State := bodyWord w.gd (tbuild true w) s

/-- TBUILD_T as a step of the BLU that runs. -/
def execTbuildT (w : TbF) (s : State) : Res := .next (tbuildTWord w s)

/-- TSWAP (R176): exchange the read and build halves once the build is BUILT. -/
def tswapWord (w : NoF) (s : State) : State := bodyWord w.gd tswapBlu s

/-- TSWAP as a step of the BLU that runs. -/
def execTswap (w : NoF) (s : State) : Res := .next (tswapWord w s)

/-- CBLDB (R174): load the level registers from a lane register. -/
def cbldbWord (w : WaF) (s : State) : State := bodyWord w.gd (cbldbBlu w) s

/-- CBLDB as a step of the BLU that runs. -/
def execCbldb (w : WaF) (s : State) : Res := .next (cbldbWord w s)

/-- LUACC (R177): look up one beat's patterns and accumulate. -/
def luaccWord (w : OutF) (s : State) : State := bodyWord w.gd (luaccBlu false w) s

/-- LUACC as a step of the BLU that runs. -/
def execLuacc (w : OutF) (s : State) : Res := .next (luaccWord w s)

/-- LUACC_S (R177): LUACC honouring the skip mask. -/
def luaccSWord (w : OutF) (s : State) : State := bodyWord w.gd (luaccBlu true w) s

/-- LUACC_S as a step of the BLU that runs. -/
def execLuaccS (w : OutF) (s : State) : Res := .next (luaccSWord w s)

/-- ACCCLR (R378): clear every row accumulator. -/
def accclrWord (w : NoF) (s : State) : State := bodyWord w.gd accclrBlu s

/-- ACCCLR as a step of the BLU that runs. -/
def execAccclr (w : NoF) (s : State) : Res := .next (accclrWord w s)

/-- ACCPUT (R180): write accumulators to a result row and set its full bit. -/
def accputWord (w : OutF) (s : State) : State := bodyWord w.gd (accputBlu w) s

/-- ACCPUT as a step of the BLU that runs. -/
def execAccput (w : OutF) (s : State) : Res := .next (accputWord w s)

/-- BLDW (R379): load a lane register from the row, the broadcast operand or the accumulators. -/
def bldwWord (w : MoveF) (s : State) : State := bodyWord w.gd (bldwBlu w) s

/-- BLDW as a step of the BLU that runs. -/
def execBldw (w : MoveF) (s : State) : Res := .next (bldwWord w s)

/-- BSTW (R379): store a lane register to a result row or the accumulators. -/
def bstwWord (w : MoveF) (s : State) : State := bodyWord w.gd (bstwBlu w) s

/-- BSTW as a step of the BLU that runs. -/
def execBstw (w : MoveF) (s : State) : Res := .next (bstwWord w s)

/-- BADD (R380): lane add. -/
def baddWord (w : LaneF) (s : State) : State := bodyWord w.gd (laneOp (fun x y => x + y) w) s

/-- BADD as a step of the BLU that runs. -/
def execBadd (w : LaneF) (s : State) : Res := .next (baddWord w s)

/-- BSUB (R380): lane subtract. -/
def bsubWord (w : LaneF) (s : State) : State := bodyWord w.gd (laneOp (fun x y => x - y) w) s

/-- BSUB as a step of the BLU that runs. -/
def execBsub (w : LaneF) (s : State) : Res := .next (bsubWord w s)

/-- BMAX (R380): lane signed maximum. -/
def bmaxWord (w : LaneF) (s : State) : State := bodyWord w.gd (laneOp maxLane w) s

/-- BMAX as a step of the BLU that runs. -/
def execBmax (w : LaneF) (s : State) : Res := .next (bmaxWord w s)

/-- BMIN (R380): lane signed minimum. -/
def bminWord (w : LaneF) (s : State) : State := bodyWord w.gd (laneOp minLane w) s

/-- BMIN as a step of the BLU that runs. -/
def execBmin (w : LaneF) (s : State) : Res := .next (bminWord w s)

/-- BAND (R380): lane and. -/
def bandWord (w : LaneF) (s : State) : State := bodyWord w.gd (laneOp (fun x y => x &&& y) w) s

/-- BAND as a step of the BLU that runs. -/
def execBand (w : LaneF) (s : State) : Res := .next (bandWord w s)

/-- BOR (R380): lane or. -/
def borWord (w : LaneF) (s : State) : State := bodyWord w.gd (laneOp (fun x y => x ||| y) w) s

/-- BOR as a step of the BLU that runs. -/
def execBor (w : LaneF) (s : State) : Res := .next (borWord w s)

/-- BXOR (R380): lane exclusive or. -/
def bxorWord (w : LaneF) (s : State) : State := bodyWord w.gd (laneOp (fun x y => x ^^^ y) w) s

/-- BXOR as a step of the BLU that runs. -/
def execBxor (w : LaneF) (s : State) : Res := .next (bxorWord w s)

/-- BSHL (R380): lane shift left. -/
def bshlWord (w : LaneF) (s : State) : State := bodyWord w.gd (laneOp (fun x y => x <<< (y.toNat % 32)) w) s

/-- BSHL as a step of the BLU that runs. -/
def execBshl (w : LaneF) (s : State) : Res := .next (bshlWord w s)

/-- BSHR (R380): lane arithmetic shift right. -/
def bshrWord (w : LaneF) (s : State) : State := bodyWord w.gd (laneOp (fun x y => x.sshiftRight (y.toNat % 32)) w) s

/-- BSHR as a step of the BLU that runs. -/
def execBshr (w : LaneF) (s : State) : Res := .next (bshrWord w s)

/-- BCMP (R381): lane compare into a mask. -/
def bcmpWord (w : LaneF) (s : State) : State := bodyWord w.gd (bcmpBlu w) s

/-- BCMP as a step of the BLU that runs. -/
def execBcmp (w : LaneF) (s : State) : Res := .next (bcmpWord w s)

/-- BSEL (R380): lane select under a mask. -/
def bselWord (w : LaneF) (s : State) : State := bodyWord w.gd (bselBlu w) s

/-- BSEL as a step of the BLU that runs. -/
def execBsel (w : LaneF) (s : State) : Res := .next (bselWord w s)

/-- BCVT (R381): lane conversion between INT32 and FP32, or pair formation. -/
def bcvtWord (w : CvtF) (s : State) : State := bodyWord w.gd (bcvtBlu w) s

/-- BCVT as a step of the BLU that runs. -/
def execBcvt (w : CvtF) (s : State) : Res := .next (bcvtWord w s)

/-- MAND (R381): mask and. -/
def mandWord (w : MaskF) (s : State) : State := bodyWord w.gd (maskOp (fun x y => x &&& y) w) s

/-- MAND as a step of the BLU that runs. -/
def execMand (w : MaskF) (s : State) : Res := .next (mandWord w s)

/-- MNOT (R381): mask not. -/
def mnotWord (w : MaskF) (s : State) : State := bodyWord w.gd (maskOp (fun x _ => ~~~x) w) s

/-- MNOT as a step of the BLU that runs. -/
def execMnot (w : MaskF) (s : State) : Res := .next (mnotWord w s)

/-- SKIPZ (R178): load the skip mask. -/
def skipzWord (w : WaF) (s : State) : State := bodyWord w.gd (skipzBlu w) s

/-- SKIPZ as a step of the BLU that runs. -/
def execSkipz (w : WaF) (s : State) : Res := .next (skipzWord w s)

/-- RTREE (R182): contribute accumulators to a channel, stack or package reduction. -/
def rtreeWord (w : OutF) (s : State) : State := bodyWord w.gd (rtreeBlu w) s

/-- RTREE as a step of the BLU that runs. -/
def execRtree (w : OutF) (s : State) : Res := .next (rtreeWord w s)

/-- R271, R375: a body word by its OP. -/
def runWord (w : Word32) (s : State) : State :=
  match (fieldOf w 0 6).toNat with
  | 0 => bnopWord (getNo w) s
  | 1 => tbuildRWord (getTb w) s
  | 2 => tbuildTWord (getTb w) s
  | 3 => tswapWord (getNo w) s
  | 4 => cbldbWord (getWa w) s
  | 5 => luaccWord (getOut w) s
  | 6 => luaccSWord (getOut w) s
  | 7 => accclrWord (getNo w) s
  | 8 => accputWord (getOut w) s
  | 9 => bldwWord (getMove w) s
  | 10 => bstwWord (getMove w) s
  | 11 => baddWord (getLane w) s
  | 12 => bsubWord (getLane w) s
  | 13 => bmaxWord (getLane w) s
  | 14 => bminWord (getLane w) s
  | 15 => bandWord (getLane w) s
  | 16 => borWord (getLane w) s
  | 17 => bxorWord (getLane w) s
  | 18 => bshlWord (getLane w) s
  | 19 => bshrWord (getLane w) s
  | 20 => bcmpWord (getLane w) s
  | 21 => bselWord (getLane w) s
  | 22 => bcvtWord (getCvt w) s
  | 23 => mandWord (getMask w) s
  | 24 => mnotWord (getMask w) s
  | 25 => skipzWord (getWa w) s
  | 26 => rtreeWord (getOut w) s
  | _ => s

end Sys2Proof.Machine
end

