-- ==== Sys2Proof/Machine/Bank.lean ====
section
/-! DEFINITION. Bank commands: descriptors, checks and bounds, issue, start and completion, and the conductor's instructions, major 0x34 (R163, R164, R181 to R187, R368 to R374, R382, R383). -/

namespace Sys2Proof.Machine

open Sys2Proof

/-! ### Descriptors (R368, R369) -/

/-- R369: 16 bytes of a descriptor stored at the home, weakly, as one store (R28). -/
def descStore (off : Nat) (bytes : Strand → View → List Byte) (v : View) (s : State) : Eff :=
  let base := s.cur.reg v.a
  let va := base + BitVec.ofNat 64 off
  if base.toNat % 256 ≠ 0 then .trap s Cause.misalign base none
  else
    match resolve s s.me .store none va 16 16 with
    | (s, .error c) => .trap s c va none
    | (s, .ok g) =>
      if windowBars s g || (s.accordAt g.place).isSome || (s.accordAt (g.place.add 8)).isSome then .trap s Cause.access va none
      else
        let gs := [g, { g with place := g.place.add 8 }]
        match piecesHeld s gs with
        | some s => .wait s .hardware
        | none =>
          let bs := bytes s.cur v
          .ok (storePieces s gs ((List.range 2).map (fun i => BitVec.ofNat 64 (natOfBytes ((bs.drop (8 * i)).take 8)))) va).1

/-- R369: BSCOPE's bytes. -/
def bscopeBytes (t : Strand) (v : View) : List Byte :=
  let b := (t.reg v.b).toNat
  bytesOfNat 8 (t.reg v.d).toNat ++ bytesOfNat 1 b ++ bytesOfNat 1 0 ++ bytesOfNat 2 (b / 2 ^ 16) ++ bytesOfNat 4 0

/-- R369: BNEST's bytes: COUNT, BS, OS, JS, IS. -/
def bnestBytes (t : Strand) (v : View) : List Byte :=
  let d := (t.reg v.d).toNat
  let b := (t.reg v.b).toNat
  bytesOfNat 2 d ++ bytesOfNat 2 b ++ bytesOfNat 2 (b / 2 ^ 16) ++ bytesOfNat 2 (b / 2 ^ 32) ++ bytesOfNat 4 (d / 2 ^ 32) ++ bytesOfNat 4 0

/-- R369: BBODY's bytes. -/
def bbodyBytes (t : Strand) (v : View) : List Byte := bytesOfNat 8 (t.reg v.d).toNat ++ bytesOfNat 1 (t.reg v.b).toNat ++ bytesOfNat 7 0

/-- R369: BNEST of the level IMM16 names. -/
def bnestOp (v : View) (s : State) : Eff := descStore (0x50 + 16 * (v.imm16 % 8)) bnestBytes v s

/-- R368: the global banks a descriptor addresses, ascending. -/
def descBanks (r : List Byte) : List Nat :=
  let ch := fieldAt r 0 8
  let st := fieldAt r 8 1
  let bk := fieldAt r 10 2
  let chans := ((List.range 8).filter (fun j => st.testBit j)).flatMap (fun j => ((List.range 64).filter (fun p => ch.testBit p)).map (64 * j + ·))
  let banks := (List.range 16).filter (fun b => bk.testBit b)
  chans.flatMap (fun c => banks.map (16 * c + ·))

/-- R368: one level. -/
def nestLevelOf (r : List Byte) (l : Nat) : NestLevel :=
  let o := 0x50 + 16 * l
  { count := fieldAt r o 2, bs := sextNat 16 (fieldAt r (o + 2) 2), os := sextNat 16 (fieldAt r (o + 4) 2), js := sextNat 16 (fieldAt r (o + 6) 2),
    is := sextNat 32 (fieldAt r (o + 8) 4) }

/-- R368: an object field; none for 0xFFFF_FFFF. -/
def objField (r : List Byte) (off : Nat) : Option Nat := let x := fieldAt r off 4; if x = 0xFFFFFFFF then none else some x

/-- R368: reserved bytes of a descriptor are 0. -/
def descZero (r : List Byte) : Bool :=
  zeroAt r 9 10 && zeroAt r 12 16 && zeroAt r 0x19 0x20 && zeroAt r 0x4A 0x50 && zeroAt r 0xB0 0x100
    && (List.range 6).all (fun l => zeroAt r (0x50 + 16 * l + 12) (0x50 + 16 * l + 16))

/-- R368: a descriptor as a command not yet accepted. -/
def cmdOfDesc (r : List Byte) (body : List Word32) : BankCmd :=
  { grant := 0, unit := { core := 0, slot := 0 }, record := none, handle := 0, ctx := 0, contract := none, banks := descBanks r, body, bcast := [],
    bcastPoison := false, resobj := objField r 0x2C, opobj := (List.range 4).filterMap (fun i => objField r (0x30 + 4 * i)), rows := [], take := [], places := [], due := 0,
    ia0 := (fieldAt r 0x40 4 : Nat), bo0 := (fieldAt r 0x44 2 : Nat), o0 := (fieldAt r 0x46 2 : Nat), j0 := (fieldAt r 0x48 2 : Nat),
    levels := (List.range 6).map (nestLevelOf r), st := .accepted, contribs := [], written := [], summary := 0 }

/-! ### The nest (R368, R375) -/

/-- COUNT of a level; 0 counts as 1. -/
def NestLevel.runs (l : NestLevel) : Nat := max 1 l.count

/-- The guard depth of a body word. -/
def guardDepth (w : Word32) : Nat := (getGuard w).g.toNat

/-- The indices of a level at which some word can run: all of them, unless every word's guard covers the level. -/
def levelIndices (body : List Word32) (l : Nat) (n : Nat) : List Nat :=
  if body.all (fun w => l < guardDepth w) then
    ((if body.any (fun w => !(getGuard w).gk) then [0] else []) ++ (if body.any (fun w => (getGuard w).gk) then [n - 1] else [])).eraseDups
  else List.range n

/-- Index lists in nest order, level 0 fastest. -/
def nestOrder : List (List Nat) → List (List Nat)
  | [] => [[]]
  | is :: rest => (nestOrder rest).flatMap (fun hi => is.map (fun i => i :: hi))

/-- R368: a cursor at some indices. -/
def cursorAt (start : Int) (steps : List Int) (idx : List Nat) : Int := (List.zipWith (fun (a : Int) (i : Nat) => a * (i : Int)) steps idx).foldl (· + ·) start

/-- R368, R375: an iteration of a command's nest. -/
def iterationAt (c : BankCmd) (idx : List Nat) : BluCtx :=
  { bank := 0, grant := c.grant, ia := cursorAt c.ia0 (c.levels.map (·.is)) idx, bo := cursorAt c.bo0 (c.levels.map (·.bs)) idx,
    o := cursorAt c.o0 (c.levels.map (·.os)) idx, j := cursorAt c.j0 (c.levels.map (·.js)) idx, first := idx.map (· == 0),
    last := List.zipWith (fun (l : NestLevel) i => i + 1 == l.runs) c.levels idx, bpc := 0, tree := 0 }

/-- The iterations at which some word can run, in nest order. -/
def iterations (c : BankCmd) : List BluCtx :=
  (nestOrder (c.levels.zipIdx.map (fun p => levelIndices c.body p.2 p.1.runs))).map (iterationAt c)

/-- R375, R382: the instances that the guards let run, in order. -/
def instances (c : BankCmd) : List (Word32 × BluCtx) :=
  (iterations c).flatMap (fun x => (c.body.filter (fun w => guardRuns (getGuard w) x)).map (fun w => (w, x)))

/-! ### Body checks (R371, R377 to R381) -/

/-- OP of a body word. -/
def opOf (w : Word32) : Nat := (fieldOf w 0 6).toNat

/-- Bytes of terms a TBUILD.T takes (R173). -/
def termBytes (w : TbF) : Nat := tbT w * tbG w * 2 ^ tbK w * (if w.aw then 4 else 2)

/-- R371: a body word in rule, with R377's limit on the terms of TBUILD.T. -/
def wordOk (w : Word32) : Bool :=
  match opOf w with
  | 0 | 3 | 7 => let x := getNo w; x.gd.ok && x.res == 0
  | 1 => (getTb w).ok
  | 2 => let x := getTb w; x.ok && (termBytes x > 512 || 64 * x.wa.toNat + termBytes x ≤ 512)
  | 4 | 25 => let x := getWa w; x.gd.ok && x.rhi == 0 && x.rlo == 0
  | 5 | 6 => (getOut w).ok false false
  | 8 => (getOut w).ok true false
  | 26 => (getOut w).ok true true
  | 9 => (getMove w).ok false
  | 10 => (getMove w).ok true
  | 20 => let x := getLane w; x.ok && !x.me && x.wd.toNat < 6
  | 21 => let x := getLane w; x.ok && x.me
  | 22 => (getCvt w).ok
  | 23 => let x := getMask w; x.gd.ok && !x.r27 && x.r6 == 0
  | 24 => let x := getMask w; x.gd.ok && !x.r27 && x.mb == 0 && x.r6 == 0
  | 11 | 12 | 13 | 14 | 15 | 16 | 17 | 18 | 19 => (getLane w).ok
  | _ => false

/-- The TBUILDs of a body. -/
def tbuilds (body : List Word32) : List (Bool × TbF) :=
  body.filterMap (fun w => if opOf w = 1 then some (false, getTb w) else if opOf w = 2 then some (true, getTb w) else none)

/-- R173: TABLE_SHAPE. -/
def badShape (p : Bool × TbF) : Bool :=
  replicas (tbK p.2 * tbG p.2) (tbT p.2) (tbEw p.2) == 0 || (p.1 && termBytes p.2 > 512)

/-- R378, R379: a word that writes a result row. -/
def writesRow (w : Word32) : Bool := opOf w == 8 || opOf w == 26 || (opOf w == 10 && (getMove w).sel == 0)

/-- R182: the number that banks of one group share at a level. -/
def groupKey (level bank : Nat) : Nat := match level with | 0 => bank / 16 | 1 => bank / 1024 | _ => 0

/-- R182: the bank is the root of its group among the addressed banks. -/
def isRoot (c : BankCmd) (level bank : Nat) : Bool :=
  c.banks.find? (fun b => groupKey level b == groupKey level bank) == some bank

/-! ### Result rows (R180) -/

/-- Rows in ascending order, one inserted that is not there yet. -/
def insertRow : List Nat → Nat → List Nat
  | [], r => [r]
  | x :: xs, r => if r < x then r :: x :: xs else if r = x then x :: xs else x :: insertRow xs r

/-- The rows of a span of bytes whose row number is `k` modulo `m`. -/
def rowsOfSpan (sp : Span) (k m : Nat) : List Nat :=
  let lo := ceilDiv sp.first 1024
  let hi := (sp.first + sp.count) / 1024
  let r0 := lo + (k + m - lo % m) % m
  if hi ≤ r0 then [] else (List.range (ceilDiv (hi - r0) m)).map (fun i => r0 + m * i)

/-- R180: the result rows of a bank, as rows of device memory, ascending. -/
def resultRows (s : State) (o : Obj) (bank : Nat) : List Nat :=
  let n := s.activeCount
  (o.bytes.flatMap (fun sp => rowsOfSpan sp (bank % 16 * n + s.slotOfChannel (chanOf bank)) (16 * n))).foldl insertRow []

/-- The row number within its bank of a row of device memory (R15). -/
def rowInBank (s : State) (row : Nat) : Nat := row / s.activeCount / 16

/-! ### The checks of BCMD (R371, R382) -/

/-- R368, R371: RANGE at one instance in one addressed bank. A negative cursor is out of range at every instance that runs, and a result
    row is judged against each bank's own count, RTREE's too; an open row only where the instance needs one (DEDUCED, log 62). -/
def outOfRange (s : State) (bclen : Nat) (rows : List Nat) (p : Word32 × BluCtx) : Bool :=
  let (w, x) := p
  let row := x.ia / 64 ≥ 49152
  let result := x.j + ((getOut w).joff.toNat : Int) ≥ (rows.length : Int)
  let m := getMove w
  x.ia < 0 || x.bo < 0 || x.j < 0 ||
    (match opOf w with
      | 5 | 6 => row
      | 8 | 26 => result
      | 9 | 10 =>
        if m.sel = 0 then row || (opOf w == 10 && !(rows.map (rowInBank s)).contains (x.ia / 64).toNat)
        else m.sel == 1 && x.bo + (m.koff.toNat : Int) ≥ ((bclen / 64 : Nat) : Int)
      | _ => false)

/-- R187, R382: the cost of LUACC that the TBUILDs of a body allow. -/
def luaccCost (body : List Word32) : Nat :=
  match tbuilds body with
  | [] => 32
  | l => (l.map (fun p =>
      let b := tbK p.2 * tbG p.2
      let n := patternsOf b
      2 * n / max 1 (min (replicas b (tbT p.2) (tbEw p.2)) n))).foldl max 0

/-- R187: the cost of an instance. -/
def wordCost (lu : Nat) (w : Word32) : Nat :=
  match opOf w with
  | 5 | 6 => lu
  | 1 | 2 => let x := getTb w; ceilDiv (tbT x * 2 ^ (tbK x * tbG x)) 16
  | 8 => 128
  | 26 => 128 + if (getOut w).level = 0 then 0 else 300
  | 7 => 256
  | 9 | 10 => 2
  | _ => 1

/-- R382: the row of its bank that an instance opens. -/
def opensRow (s : State) (c : BankCmd) (bank : Nat) (rows : List Nat) (p : Word32 × BluCtx) : Option Nat :=
  let (w, x) := p
  let result := fun (joff : Nat) => (rows[(x.j + (joff : Int)).toNat]?).map (rowInBank s)
  match opOf w with
  | 5 | 6 => some (x.ia / 64).toNat
  | 9 | 10 => if (getMove w).sel = 0 then some (x.ia / 64).toNat else none
  | 8 => result (getOut w).joff.toNat
  | 26 => if isRoot c (getOut w).level.toNat bank then result (getOut w).joff.toNat else none
  | _ => none

/-- R382: changes of the open row along the nest order. -/
def rowChanges (f : Word32 × BluCtx → Option Nat) : List (Word32 × BluCtx) → Option Nat → Nat → Nat
  | [], _, n => n
  | p :: ps, opened, n =>
    match f p with
    | none => rowChanges f ps opened n
    | some r => if opened = some r then rowChanges f ps opened n else rowChanges f ps (some r) (n + 1)

/-- R187, R382: what a command costs beyond its start and end: that of its dearest bank. -/
def commandCost (s : State) (c : BankCmd) (rowsOf : List (Nat × List Nat)) : Nat :=
  let is := instances c
  let lu := luaccCost c.body
  let base := is.foldl (fun n p => n + wordCost lu p.1) 0
  base + 50 * (rowsOf.map (fun p => rowChanges (opensRow s c p.1 p.2) is none 0)).foldl max 0

/-- R371, R91: the release a unit's commands are charged to, with what it may still spend. -/
def releaseOf (s : State) (t : Strand) : Option (Contract × Release) :=
  match (s.launchOfUnit t).bind (·.contract) with
  | none => none
  | some id => (s.contractOf id).bind (fun c => c.running.map (fun r => (c, r)))

/-- R371: the checks in order: the status and the bound, with the result rows of each addressed bank. -/
def judge (s : State) (r : List Byte) (c : BankCmd) : Nat × Nat × List (Nat × List Nat) :=
  let nwords := fieldAt r 0x18 1
  let bclen := fieldAt r 0x28 4
  let bcast := fieldAt r 0x20 8
  let res := c.resobj.bind (mapGet s.objs)
  let badMode : Bool := match res with
    | some o => o.mode != .lease || o.tile || o.base.toNat % 1024 ≠ 0 || o.len % 1024 ≠ 0
    | none => c.body.any writesRow
  let held := s.cur.bankSlots.toList.all (fun x => x.grant.isSome)
  if held then (1, 0, [])
  else if !descZero r || nwords = 0 || nwords > 16 || fieldAt r 0x10 8 % 4 ≠ 0 || c.banks.isEmpty || bclen % 64 ≠ 0 || bclen > 65536
      || (bcast ≠ 0 && bclen = 0) || bcast % 64 ≠ 0 then (2, 0, [])
  else if c.body.any (fun w => !wordOk w) then (3, 0, [])
  else if (tbuilds c.body).any badShape then (4, 0, [])
  else if (c.resobj.isSome && res.isNone) || c.opobj.any (fun i => (mapGet s.objs i).isNone) then (5, 0, [])
  else if badMode then (6, 0, [])
  else if c.banks.any (fun b => !s.pkg.chActive.getLsbD (chanOf b)) then (7, 0, [])
  else if c.banks.any (fun b => s.pkg.chFenced.getLsbD (chanOf b)) then (8, 0, [])
  else
    let rowsOf := c.banks.map (fun b => (b, match res with | some o => resultRows s o b | none => []))
    let is := instances c
    if is.any (fun p => rowsOf.any (fun q => outOfRange s bclen q.2 p)) then (9, 0, [])
    else
      let bound := 1100 + commandCost s c rowsOf
      if bound > 4000 then (10, bound, [])
      else
        match releaseOf s s.cur with
        | some (k, rel) => (if rel.bankUsed + bound > k.bankbud then 11 else 0, bound, rowsOf)
        | none => (0, bound, rowsOf)

/-! ### Issue (R163, R164, R184, R370) -/

/-- R370: a range translated as loads: its pieces' places, with the NC of their pages, or the fault. -/
def rangePlaces (s : State) (a : Agent) : Nat → Word → Nat → State × Except (Nat × Word) (List (Place × Nat × Bool))
  | 0, _, _ => (s, .ok [])
  | k + 1, va, n =>
    if n = 0 then (s, .ok [])
    else
      let here := min n (64 - va.toNat % 64)
      match resolve s a .load none va here 1 with
      | (s, .error c) => (s, .error (c, va))
      | (s, .ok g) =>
        if windowBars s g || farBarred s a.ctx g.place here then (s, .error (Cause.access, va))
        else
          match rangePlaces s a k (va + BitVec.ofNat 64 here) (n - here) with
          | (s, .ok l) => (s, .ok ((g.place, here, g.nc) :: l))
          | (s, .error e) => (s, .error e)

/-- R184, R372: the broadcast operand read at its homes, and whether some of it is poisoned. A result row of it that is not full does not hold the
    read back: R180 has core loads wait, and says nothing of this fetch (DESIGN CHOICE, log 79). -/
def fetchBcast (s : State) : List (Place × Nat × Bool) → State × List Byte × Bool
  | [] => (s, [], false)
  | (p, n, nc) :: ps =>
    let (s, bs) := readHome s p n (if nc then .bypass else .cached)
    let bad := poisoned s p || unreachable s p
    let (s, rest, bad') := fetchBcast s ps
    (s, bs ++ rest, bad || bad')

/-- R163: a line of a named object in an addressed channel. -/
def namedLine (s : State) (chans : List Nat) (o : Obj) (line : Nat) : Bool := inSpans o.lines line && chans.contains (s.bankOf (line * 128)).1

/-- R163, R111, R123: the homes write back the dirty lines of a named object in the addressed channels and recall dirty stash lines. -/
def writeBackObject (s : State) (chans : List Nat) (id : Nat) : State :=
  match mapGet s.objs id with
  | none => s
  | some o =>
    let s := match o.mode with
      | .stashed core slot =>
        let u : SlotRef := { core, slot }
        (match (s.strand u).stash.find? (fun (m : StashMap) => m.obj == id) with
          | some m => stashWriteBack s u m ((List.range m.lines.length).filter (fun i => namedLine s chans o (m.lines.getD i 0)))
          | none => s)
      | _ => s
    (s.dirty.filter (namedLine s chans o)).foldl cleanLine s

/-- R38, R163: the lines of the named objects in the addressed channels that the host holds: BISnpData goes out for them. -/
def linesToTake (s : State) (chans objs : List Nat) : List Nat :=
  s.snoop.filter (fun l => objs.any (fun i => match mapGet s.objs i with
    | some o => namedLine s chans o l
    | none => false))

/-- R38: a command still waits for the host's answer about a line. -/
def taking (s : State) (c : BankCmd) : Bool := c.take.any (fun l => s.snoop.contains l)

/-- R118, R164: when every lease granted by now on the lines of a command's result rows has expired, by the times their slices keep. -/
def rowLeases (s : State) (obj : Option Nat) (rows : List Nat) : Nat :=
  match obj with
  | none => s.now
  | some id => rows.foldl (fun t r => (List.range 8).foldl (fun t i => max t (s.expiryOf (leaseKey (some id) s.modId s.modId (8 * r + i)))) t) s.now

/-- R90: a stack of the command is closed to it: it comes from outside the release that runs in the partition that holds the stack. -/
def closedTo (s : State) (c : BankCmd) : Bool :=
  let mine := match c.contract.bind s.contractOf with
    | some k => if inForce s k then partitionStacks s k.clusters else 0
    | none => 0
  c.banks.any (fun b => (s.closed &&& ~~~mine).getLsbD (b / 1024))

/-- The channels of a command. -/
def commandChans (c : BankCmd) : List Nat := (c.banks.map chanOf).eraseDups

/-- R163, R184: a command's broadcast operand is fetched once the host has given back the lines that the command takes. -/
def fetchOperand (s : State) (c : BankCmd) : State × BankCmd :=
  if taking s c || c.places.isEmpty then (s, c)
  else
    let (s, bcast, bad) := fetchBcast s c.places
    (s, { c with bcast, bcastPoison := bad, places := [] })

/-- R184: the fetch for a command that has waited for the host. -/
def issueFetch (s : State) (grant : Nat) : State :=
  match s.cmdOf grant with
  | none => s
  | some c =>
    let (s, c) := fetchOperand s c
    s.setCmd c

/-- R163, R181, R184, R370: a command that passed every check takes slot `slot` of the executing unit and is issued. -/
def acceptCommand (s : State) (c : BankCmd) (slot bound : Nat) (rowsOf : List (Nat × List Nat)) (places : List (Place × Nat × Bool)) : State :=
  let t := s.cur
  let rows := rowsOf.flatMap (·.2)
  let grant := s.nextGrant
  let objs := (match c.resobj with | some i => [i] | none => []) ++ c.opobj
  let s := objs.foldl (fun s i => writeBackObject s (commandChans c) i) s
  let c := { c with grant, unit := s.curRef, record := t.record, handle := t.launch.toNat % 2 ^ 32, ctx := t.ctx,
                    contract := (releaseOf s t).map (·.1.id), rows, places, take := linesToTake s (commandChans c) objs, due := rowLeases s c.resobj rows }
  let (s, c) := fetchOperand s c
  let s := { s with cmds := s.cmds ++ [c], nextGrant := grant + 1, rowClear := rows.foldl setAdd s.rowClear,
                    cur := { s.cur with bankSlots := t.bankSlots.setIfInBounds slot { grant := some grant } } }
  let s := match releaseOf s t with
    | some (k, r) => s.setContract { k with running := some { r with bankUsed := r.bankUsed + bound } }
    | none => s
  s.post (c.due - s.now) (.bankCommandStart grant)

/-- The lowest free command slot. -/
def freeSlot (t : Strand) : Nat := (t.bankSlots.toList.findIdx? (fun x => x.grant.isNone)).getD 0

/-- R370: the body words, when their fields let them be read. -/
def fetchBody (s : State) (r : List Byte) : State × Except FetchErr (List Word32) :=
  let n := fieldAt r 0x18 1
  let va := BitVec.ofNat 64 (fieldAt r 0x10 8)
  if n = 0 ∨ n > 16 ∨ va.toNat % 4 ≠ 0 then (s, .ok [])
  else
    match fetchRecord s s.me va (4 * n) with
    | (s, .error e) => (s, .error e)
    | (s, .ok bs) => (s, .ok ((List.range n).map (fun i => BitVec.ofNat 32 (fieldAt bs (4 * i) 4))))

/-- R370: the broadcast range translated, when its fields let it be. -/
def bcastPlaces (s : State) (r : List Byte) : State × Except (Nat × Word) (List (Place × Nat × Bool)) :=
  let n := fieldAt r 0x28 4
  let va := BitVec.ofNat 64 (fieldAt r 0x20 8)
  if n % 64 ≠ 0 ∨ n > 65536 ∨ va.toNat % 64 ≠ 0 then (s, .ok []) else rangePlaces s s.me (n / 64 + 1) va n

/-- R370: how a read of BCMD's second step that does not succeed ends it: the fault, or a wait for a result row (R164). -/
def fetchStop (s : State) (e : FetchErr) : Eff :=
  match e with
  | .fault c va => .trap s c va none
  | .wait => .wait s .hardware

/-- R370, R371: BCMD's third and fourth steps: the command is refused, or accepted. -/
def issueBcmd (v : View) (s : State) (r : List Byte) (body : List Word32) (places : List (Place × Nat × Bool)) : Eff :=
  let c := cmdOfDesc r body
  let (status, bound, rowsOf) := judge s r c
  let answer := fun (s : State) (x : Nat) => Eff.ok (s.setReg v.d (BitVec.ofNat 64 (bound * 2 ^ 32 + x)))
  if status = 11 then
    let s := match releaseOf s s.cur with
      | some (k, _) => stopRelease s k.id
      | none => s
    answer s 11
  else if status ≠ 0 then answer s status
  else
    let slot := freeSlot s.cur
    answer (acceptCommand s c slot bound rowsOf places) (slot * 256)

/-- R163, R370, R371: BCMD. It waits until the conductor's ST.E stores have performed; its other writes have. -/
def bcmdOp (v : View) (s : State) : Eff :=
  let ea := s.cur.reg v.a
  if ea.toNat % 256 ≠ 0 then .trap s Cause.misalign ea none
  else if storesQueued s s.curRef then .wait s .poll
  else
    match fetchRecord s s.me ea 256 with
    | (s, .error e) => fetchStop s e
    | (s, .ok r) =>
      match fetchBody s r with
      | (s, .error e) => fetchStop s e
      | (s, .ok body) =>
        match bcastPlaces s r with
        | (s, .error (c, va)) => .trap s c va none
        | (s, .ok places) => issueBcmd v s r body places

/-! ### Start and completion (R171, R181 to R185, R372) -/

/-- R171, R186: a BLU at the start of a command of a context. -/
def startBlu (b : Blu) (ctx : Nat) (poison : Bool) : Blu :=
  let b := if b.ctx = some ctx then b else { Blu.reset with ctx := some ctx }
  let b := { b with st := .run, status := BitVec.twoPow 64 statusBusy }
  if poison then b.flag statusPoison else b

/-- R375: the words of a body at one iteration, from an index up. -/
def runBody : List Word32 → Nat → State → State
  | [], _, s => s
  | w :: ws, k, s => runBody ws (k + 1) (runWord w { s with blu := { s.blu with bpc := k } })

/-- R185, R375: a command's whole nest on one bank. -/
def runBank (c : BankCmd) (bank : Nat) (s : State) : State :=
  let s := s.setBlu bank (startBlu (s.bluAt bank) c.ctx c.bcastPoison)
  let s := { s with blu := { BluCtx.reset with bank, grant := c.grant } }
  let s := (iterations c).foldl (fun s x => runBody c.body 0 { s with blu := { x with bank, tree := s.blu.tree } }) s
  let b := s.bluAt bank
  s.setBlu bank (if b.st = .run ∧ b.buildHalf.st ≠ .building then { b with st := .done } else b)

/-- R90, R184: an earlier-granted command holds a bank of this one: one that has started, or one that a closed stack does not keep from it. -/
def banksBusy (s : State) (c : BankCmd) : Bool :=
  s.cmds.any (fun d => d.grant < c.grant && d.st != .complete && (d.st == .started || !closedTo s d) && d.banks.any (fun b => c.banks.contains b))

/-- R90, R370: a command whose grant is withheld is granted after every command granted before. -/
def regrant (s : State) (c : BankCmd) : State :=
  let g := s.nextGrant
  let fix := fun (t : Strand) => { t with bankSlots := t.bankSlots.map (fun x => if x.grant = some c.grant then { grant := some g } else x) }
  { s with cmds := s.cmds.filter (fun d => d.grant != c.grant) ++ [{ c with grant := g }], nextGrant := g + 1, cur := fix s.cur,
           others := s.others.map (fun p => (p.1, fix p.2)),
           sched := { s.sched with saved := s.sched.saved.map (fun x => { x with unit := fix x.unit }) } }

/-- R90, R164, R184: BANK_COMMAND_START: the command starts on all its banks, or waits. The roots of its RTREEs are written after every body has run,
    over any other write of their rows: R181 and R182 give no order (DESIGN CHOICE, log 80). -/
def startCommand (s : State) (c : BankCmd) : State :=
  if closedTo s c then (regrant s c).post 1 (.bankCommandStart s.nextGrant)
  else if c.due > s.now ∨ taking s c ∨ banksBusy s c then s.post 1 (.bankCommandStart c.grant)
  else
    let c := { c with st := .started }
    let rowsOf := c.banks.map (fun b => (b, c.rows.filter (fun r => rowBank s r == b)))
    let cost := commandCost s c rowsOf
    let s := c.banks.foldl (fun s b => runBank c b s) (s.setCmd c)
    let trees := (((s.cmdOf c.grant).map (·.contribs)).getD []).foldl (fun n k => max n (k.n + 1)) 0
    let s := { s with blu := .reset }
    let s := (List.range trees).foldl (fun s n => s.post cost (.rtreeRootWrite c.grant n)) s
    s.post cost (.bankCommandComplete c.grant)

/-- R183: two rows of 256 words combined; the flag says that a SUM wrapped. -/
def combineRows (op : Nat) (x y : List (BitVec 32)) : List (BitVec 32) × Flags :=
  let ws := x.zip y
  match op with
  | 0 => (ws.map (fun p => p.1 + p.2), Flags.when (ws.any (fun p => (p.1 + p.2).toInt != p.1.toInt + p.2.toInt)) Flags.of)
  | 1 => (ws.map (fun p => maxLane p.1 p.2), 0)
  | 2 => (ws.map (fun p => minLane p.1 p.2), 0)
  | _ =>
    ((List.range 128).flatMap (fun i =>
      let w := fun (l : List (BitVec 32)) (k : Nat) => (l.getD k 0).toNat
      let (m, z) := maxsum (w x (2 * i), w x (2 * i + 1)) (w y (2 * i), w y (2 * i + 1))
      [BitVec.ofNat 32 m, BitVec.ofNat 32 z]), 0)

/-- R182: the treereduce of some rows. -/
def reduceRows (op : Nat) (l : List (List (BitVec 32))) : List (BitVec 32) × Flags := treeReduce (fun _ x y => combineRows op x y) [] l

/-- R182: results of one stage, each with its number, grouped by a coarser number and reduced. -/
def reduceStage (op : Nat) (key : Nat → Nat) (l : List (Nat × List (BitVec 32))) : List (Nat × List (BitVec 32)) × Flags :=
  let keys := (l.map (fun p => key p.1)).eraseDups
  keys.foldl (fun (acc, fl) k =>
    let (r, f) := reduceRows op ((l.filter (fun p => key p.1 == k)).map (·.2))
    (acc ++ [(k, r)], fl ||| f)) ([], 0)

/-- R182: the three stages on the contributions of a group, in ascending bank order. -/
def reduceGroup (op : Nat) (l : List (Nat × List (BitVec 32))) : List (BitVec 32) × Flags :=
  let (chans, f1) := reduceStage op (· / 16) l
  let (stks, f2) := reduceStage op (· / 64) chans
  let (r, f3) := reduceRows op (stks.map (·.2))
  (r, f1 ||| f2 ||| f3)

/-- R182, R378: the contributions to one reduction of a group, by bank, and whether a bank's is missing. -/
def groupParts (c : BankCmd) (n level key : Nat) : List Contribution × Bool :=
  let banks := c.banks.filter (fun b => groupKey level b == key)
  let parts := banks.filterMap (fun b => c.contribs.find? (fun k => k.n == n && k.bank == b))
  (parts, parts.length < banks.length)

/-- R182, R378: the n-th reduction of one group: its root's row is written, unless the root stopped before it. -/
def writeRoot (s : State) (grant n key : Nat) (k0 : Contribution) : State :=
  match s.cmdOf grant with
  | none => s
  | some c =>
    let (parts, missing) := groupParts c n k0.level key
    match parts with
    | [] => s
    | root :: _ =>
      if !isRoot c k0.level root.bank then s
      else
        match resultRow s c root.bank root.j with
        | none => s
        | some row =>
          let (words, fl) := reduceGroup root.op (parts.map (fun k => (k.bank, k.words)))
          let s := if fl = 0 then s else s.setBlu root.bank ((s.bluAt root.bank).flag statusAovf)
          let s := putRow s c root.bank row (laneBytes words)
          if missing then poisonRow s row else s

/-- R378: RTREE_ROOT_WRITE of the n-th RTREE of a command, group by group. -/
def writeRoots (s : State) (c : BankCmd) (n : Nat) : State :=
  match c.contribs.find? (fun k => k.n == n) with
  | none => s
  | some k0 =>
    let keys := (c.banks.map (groupKey k0.level)).eraseDups
    let s := keys.foldl (fun s key => writeRoot s c.grant n key k0) s
    match s.cmdOf c.grant with
    | some d => s.setCmd { d with contribs := d.contribs.map (fun k => if k.n = n then { k with words := [] } else k) }
    | none => s

/-- R182: the root rows a bank's POISON reaches: those of every reduction of its groups that wrote a row. -/
def poisonedRoots (s : State) (c : BankCmd) (bad : List Nat) : List Nat :=
  c.contribs.filterMap (fun k =>
    if isRoot c k.level k.bank && bad.any (fun b => groupKey k.level b == groupKey k.level k.bank) then resultRow s c k.bank k.j else none)

/-- R372: the summary of a command from its banks' status words. -/
def summaryOf (s : State) (c : BankCmd) (finished : Bool) : Word :=
  let bs := c.banks.map s.bluAt
  let count := fun (f : Blu → Bool) => (bs.filter f).length
  let any := fun (bit : Nat) => bs.any (fun b => b.status.getLsbD bit)
  BitVec.ofNat 64 ((if finished then 2 ^ 63 else 0) + count (fun b => b.code != 0) % 2 ^ 16 * 2 ^ 32 + count (fun b => b.status.getLsbD statusPoison) % 2 ^ 16 * 2 ^ 16
    + (if any statusTsat then 4 else 0) + (if any statusAovf then 2 else 0))

/-- R372: some unit still holds a slot for a command. -/
def slotHeld (s : State) (grant : Nat) : Bool :=
  let holds := fun (t : Strand) => t.bankSlots.toList.any (fun x => x.grant == some grant)
  s.allStrands.any (fun p => holds p.2) || s.sched.saved.any (fun x => holds x.unit)

/-- R181, R182, R185: BANK_COMMAND_COMPLETE: poison marked, rows still clear filled, BLUs idle, the summary kept. -/
def completeCommand (s : State) (c : BankCmd) : State :=
  let open_ := c.banks.any (fun b => (s.bluAt b).st == .run) || c.contribs.any (fun k => k.words != [])
  if open_ then s.post 1 (.bankCommandComplete c.grant)
  else
    let bad := c.banks.filter (fun b => (s.bluAt b).status.getLsbD statusPoison)
    let stopped := c.banks.filter (fun b => (s.bluAt b).code != 0)
    let sick := (c.written.filter (fun p => bad.contains p.1)).map (·.2) ++ poisonedRoots s c bad
      ++ c.rows.filter (fun r => setHas s.rowClear r && stopped.contains (rowBank s r))
    let s := sick.foldl poisonRow s
    let s := { s with rowClear := s.rowClear.filter (fun r => !c.rows.contains r) }
    let c := { c with st := .complete, summary := summaryOf s c true, rows := [], bcast := [], contribs := [], written := [] }
    let s := c.banks.foldl (fun s b => let x := s.bluAt b; s.setBlu b { x with st := .idle, status := x.status &&& ~~~(BitVec.twoPow 64 statusBusy) }) (s.setCmd c)
    let s := if slotHeld s c.grant then s else { s with cmds := s.cmds.filter (fun d => d.grant != c.grant) }
    checkLaunch s c.handle

/-! ### Waits and status (R372, R373) -/

/-- R372: the summary of a slot of the executing unit; EMPTY is bit 0. -/
def slotSummary (s : State) (k : Nat) : Word :=
  match ((s.cur.bankSlots[k]?).bind (·.grant)).bind s.cmdOf with
  | none => 1
  | some c =>
    match c.st with
    | .accepted => 0
    | .started => summaryOf s c false
    | .complete => c.summary

/-- R372: DONE or EMPTY. -/
def summaryOver (x : Word) : Bool := x.getLsbD 63 || x.getLsbD 0

/-- R373: NSTOP or NPOIS is not 0. -/
def summaryBad (x : Word) : Bool := natBits x.toNat 47 16 ≠ 0

/-- R372: a slot of the executing unit freed, when its command is DONE. -/
def freeDone (s : State) (k : Nat) : State :=
  let x := slotSummary s k
  if !x.getLsbD 63 then s
  else
    let g := (s.cur.bankSlots[k]?).bind (·.grant)
    { s with cmds := s.cmds.filter (fun c => some c.grant != g), cur := { s.cur with bankSlots := s.cur.bankSlots.setIfInBounds k { grant := none } } }

/-- R373: BWAIT. -/
def bwaitOp (v : View) (s : State) : Eff :=
  let k := (s.cur.reg v.a).toNat % 8
  let x := slotSummary s k
  if !summaryOver x then .wait s .poll
  else
    let s := freeDone s k
    if natBit v.imm16 0 && !x.getLsbD 0 && summaryBad x then .trap s Cause.bankStatus x none else .ok (s.setReg v.d x)

/-- R373: BFENCE: it frees nothing. -/
def bfenceOp (v : View) (s : State) : Eff :=
  let xs := (List.range 8).map (slotSummary s)
  if xs.any (fun x => !summaryOver x) then .wait s .poll
  else
    match xs.find? (fun x => !x.getLsbD 0 && summaryBad x) with
    | some x => if natBit v.imm16 0 then .trap s Cause.bankStatus x none else .ok s
    | none => .ok s

/-- R373: BSTAT. -/
def bstatOp (v : View) (s : State) : Eff :=
  if natBit v.imm16 0 then
    let k := (s.cur.reg v.a).toNat % 8
    .ok ((freeDone s k).setReg v.d (slotSummary s k))
  else
    let b := (s.cur.reg v.b).toNat % 8192
    .ok (s.setReg v.d (if s.pkg.chActive.getLsbD (chanOf b) then (s.bluAt b).status else 0))

/-! ### Events -/

/-- R184: the step of a command in its issue phase. -/
def stepCommand (s : State) (grant : Nat) : State :=
  let s := issueFetch s grant
  match s.cmdOf grant with
  | some c => if c.st = .accepted then startCommand s c else s
  | none => s

/-- BANK_COMMAND_START (R184): an accepted command starts on all its banks once earlier ones have ended there. A grant that no accepted command
    has names nothing to start (log 50). -/
def execBankCommandStart (grant : Nat) (s : State) : Res := .next (stepCommand s grant)

/-- TABLE_BUILD_END (R176): a background build of a bank ends; a nest that waited only for it is complete (R185). -/
def execTableBuildEnd (bank : Nat) (s : State) : Res :=
  if bank ≥ 8192 then .next s
  else
    let b := s.bluAt bank
    let building := b.buildHalf.st == .building
    let b := b.endBuild
    .next (if building then s.setBlu bank (if b.st = .run then { b with st := .done } else b) else s)

/-- RTREE_ROOT_WRITE (R378): the n-th reduction of a command reaches its roots' result rows. -/
def execRtreeRootWrite (grant n : Nat) (s : State) : Res :=
  match s.cmdOf grant with
  | some c => .next (if c.st = .started then writeRoots s c n else s)
  | none => .next s

/-- BANK_COMMAND_COMPLETE (R185): a started command completes when its banks are done and every root is written. -/
def execBankCommandComplete (grant : Nat) (s : State) : Res :=
  match s.cmdOf grant with
  | some c => .next (if c.st = .started then completeCommand s c else s)
  | none => .next s

/-- BSCOPE (R369): write a descriptor's channel, stack and bank masks. -/
def execBscope (r : RF) (s : State) : Res := guarded (some (r.view 52 0)) s (descStore 0 bscopeBytes)

/-- BSCOPE_X (R369): BSCOPE in extended length. -/
def execBscopeX (x : XF) (s : State) : Res := guarded (some (x.view 52 0)) s (descStore 0 bscopeBytes)

/-- BNEST (R369): write loop level 0 of a descriptor. -/
def execBnest (r : RF) (s : State) : Res := guarded (some (r.view 52 1)) s bnestOp

/-- BNEST_X (R369): BNEST naming its level. -/
def execBnestX (x : XF) (s : State) : Res := guarded (some (x.view 52 1)) s bnestOp

/-- BBODY (R369): write BODY and NWORDS. -/
def execBbody (r : RF) (s : State) : Res := guarded (some (r.view 52 2)) s (descStore 0x10 bbodyBytes)

/-- BBODY_X (R369): BBODY in extended length. -/
def execBbodyX (x : XF) (s : State) : Res := guarded (some (x.view 52 2)) s (descStore 0x10 bbodyBytes)

/-- BCMD (R370): read and check a command descriptor, then refuse it or have the arbiter accept it into a slot. -/
def execBcmd (r : RF) (s : State) : Res := guarded (some (r.view 52 3)) s bcmdOp

/-- BCMD_X (R370): BCMD in extended length. -/
def execBcmdX (x : XF) (s : State) : Res := guarded (some (x.view 52 3)) s bcmdOp

/-- BWAIT (R373): wait for a slot to be DONE, then return its summary and free it. -/
def execBwait (r : RF) (s : State) : Res := guarded (some (r.view 52 4)) s bwaitOp

/-- BWAIT_X (R373): BWAIT with TRAPE. -/
def execBwaitX (x : XF) (s : State) : Res := guarded (some (x.view 52 4)) s bwaitOp

/-- BFENCE (R373): wait until every held slot is DONE. -/
def execBfence (r : RF) (s : State) : Res := guarded (some (r.view 52 5)) s bfenceOp

/-- BFENCE_X (R373): BFENCE with TRAPE. -/
def execBfenceX (x : XF) (s : State) : Res := guarded (some (x.view 52 5)) s bfenceOp

/-- BSTAT (R373): read a bank's status word. -/
def execBstat (r : RF) (s : State) : Res := guarded (some (r.view 52 6)) s bstatOp

/-- BSTAT_X (R373): BSTAT reading a slot summary without waiting. -/
def execBstatX (x : XF) (s : State) : Res := guarded (some (x.view 52 6)) s bstatOp

end Sys2Proof.Machine
end

