-- ==== Sys2Proof/Machine/System.lean ====
section
/-! DEFINITION. Traps and unit control, CSR access with contract admission, translation, objects and windows: major 0x3C (R83 to R88, R113 to R120, R384 to R393). -/

namespace Sys2Proof.Machine

open Sys2Proof

/-! ### Trap and unit control (R385 to R387) -/

/-- The executing strand is a supervisor (R384). -/
def isSup (s : State) : Bool := s.cur.status.getLsbD 0

/-- R385: TRAP. -/
def trapOp (v : View) (s : State) : Eff := .retireTrap s Cause.trap (BitVec.ofNat 64 v.imm16)

/-- R213, R385: ERET. -/
def eretOp (v : View) (s : State) : Eff :=
  if s.cur.status.getLsbD 2 then
    let (s, target) := trapReturn s
    .jump s target
  else .trap s Cause.illegal (illegalVal 8 s.cur.cv.member v.word0) none

/-- R386: a unit's parked copies cancelled, those that wait for their number with them (log 58). -/
def cancelParked (s : State) : State :=
  let core := s.curRef.core
  let held := s.cur.waitCopies
  let s := { s with cur := { s.cur with waitCopies := held.filter (fun p => p.2.st != .parked) } }
  let s := (held.filter (fun p => p.2.st == .parked)).foldl (fun s p => copyEnded s core p.1 p.2 33) s
  (List.range 4).foldl (fun s n =>
    match s.copyAt core n with
    | some c => if c.owner = s.curRef ∧ c.st = .parked then endCopy s core n c 33 else s
    | none => s) s

/-- The executing unit has a copy that has not ended. -/
def copiesLeft (s : State) : Bool :=
  !s.cur.waitCopies.isEmpty || (List.range 4).any (fun n => match s.copyAt s.curRef.core n with
    | some c => c.owner == s.curRef
    | none => false)

/-- R386: HALT, once the unit's writes have performed, its ST.E stores and the write-back of its stash lines (R38, R124) too, and are complete at
    DEVICE scope (R65). -/
def haltOp (_ : View) (s : State) : Eff :=
  if writesPending s s.cur 3 then .wait s .hardware
  else if storesQueued s s.curRef then .wait s .poll
  else
    let s := cancelParked s
    if copiesLeft s then .wait s .hardware
    else writeBackThen s (s.cur.stash.flatMap (fun m => m.held s m.dirty)) (fun s => .ends (endUnit s s.curRef (!s.cur.cancelTrapTaken) true))

/-- R387: PRIO of a resident unit's launch. -/
def prioOf (s : State) (t : Strand) : Nat := ((s.launchOfUnit t).map (·.prio)).getD 0

/-- R387: YIELD. -/
def yieldOp (_ : View) (s : State) : Eff :=
  let o : SlotRef := { s.curRef with slot := 1 - s.curRef.slot }
  let t := s.strand o
  if !s.curRef.isConductor && t.st == .ready && !t.halted && prioOf s t ≤ prioOf s s.cur then
    let s := s.setStrand o { t with st := .running }
    .ok { s with cur := { s.cur with st := .ready } }
  else .ok s

/-! ### Contract admission (R83 to R88) -/

/-- R86: one term of a sum. -/
def admTerm (budget by_ : Nat) : Nat := ((budget + 6000) * 2 ^ 32 + by_ - 1) / by_

/-- R86: the limit of both sums. -/
def admLimit : Nat := 4080218931

/-- R84: the contracts of a partition. -/
def partners (s : State) (mask : BitVec 16) : List Contract := s.sched.contracts.filter (fun c => c.clusters == mask)

/-- R86: the utilisation sum of some contracts. -/
def utilSum (l : List Contract) : Nat := l.foldl (fun n c => n + admTerm c.budget c.period) 0

/-- R86: the density sum of some contracts. -/
def densitySum (l : List Contract) : Nat := l.foldl (fun n c => n + admTerm c.budget c.deadline) 0

/-- The lowest bit of a mask (R87). -/
def lowestBit (m : BitVec 16) : Nat := ((List.range 16).find? (fun i => m.getLsbD i)).getD 0

/-- Number of bits of a mask. -/
def maskCount (m : BitVec 16) : Nat := ((List.range 16).filter (fun i => m.getLsbD i)).length

/-- R83, R88: the contract of a record, none for BAD_FIELD. -/
def contractOfRecord (r : List Byte) : Option Contract :=
  let id := fieldAt r 0 2
  let clusters := fieldAt r 2 2
  let stk := fieldAt r 4 1
  let shape := fieldAt r 6 2
  let gangs := fieldAt r 8 4
  let period := fieldAt r 0x0C 4
  let deadline := fieldAt r 0x10 4
  let budget := fieldAt r 0x14 4
  let bankbud := fieldAt r 0x18 4
  if id > 255 || clusters == 0 || (bankbud == 0 && stk != 0) || fieldAt r 5 1 != 0 || shape / 32 != 0 || shape % 16 == 0 || shape % 16 > 8
      || gangs == 0 || period < 10000 || budget == 0 || !zeroAt r 0x1C 0x20 || !zeroAt r 0x28 64 || deadline > period || budget + 6000 > deadline then none
  else
    some { id, clusters := BitVec.ofNat 16 clusters, stackMask := BitVec.ofNat 8 stk, shape := BitVec.ofNat 16 shape, gangs, period, deadline,
           budget, bankbud, first := fieldAt r 0x20 8, nextRel := 0, releases := 0, overruns := 0, misses := 0, running := none }

/-- R88: the status of an ADMIT whose fields are in order. -/
def admitStatus (s : State) (c : Contract) : Nat :=
  let all := s.sched.contracts
  let w := c.shape.toNat % 16
  let n := maskCount c.clusters
  let mine := c :: partners s c.clusters
  if all.any (fun x => x.id == c.id) then 2
  else if all.any (fun x => x.clusters != c.clusters && x.clusters &&& c.clusters != 0) then 3
  else if c.gangs > n * (8 / w) || (c.shape.getLsbD 4 && c.gangs > n) then 4
  else if all.any (fun x => x.clusters != c.clusters && x.stackMask &&& c.stackMask != 0) then 5
  else if utilSum mine > admLimit then 6
  else if densitySum mine > admLimit then 7
  else 0

/-- R83, R88: the first release at or after FIRST that has not passed. -/
def firstRelease (c : Contract) (now : Nat) : Nat := if now ≤ c.first then 0 else (now - c.first + c.period - 1) / c.period

/-- R83: GTIME of a release. -/
def releaseTime (c : Contract) (n : Nat) : Nat := c.first + n * c.period

/-- R88: a contract takes part from its next release. -/
def enterContract (s : State) (c : Contract) : State :=
  let c := { c with nextRel := firstRelease c s.now }
  { s with sched := { s.sched with contracts := s.sched.contracts ++ [c] } }.post (releaseTime c c.nextRel - s.now) (.contractRelease c.id)

/-- R87: what CTADMIT returns. Where no record gives a mask, the partition and its sum are not stated (log 3). -/
def ctReply (s : State) (status : Nat) (mask : Option (BitVec 16)) : State × Word :=
  match mask with
  | some m => (s, BitVec.ofNat 64 (status + lowestBit m * 2 ^ 8 + densitySum (partners s m) % 2 ^ 32 * 2 ^ 32))
  | none =>
    let f := s.freeNat 12
    (s.tick, BitVec.ofNat 64 (status + f % 256 * 2 ^ 8 + f / 256 % 2 ^ 32 * 2 ^ 32))

/-- R88: ADMIT of a record. -/
def ctAdmit (s : State) (r : List Byte) : State × Word :=
  let mask := BitVec.ofNat 16 (fieldAt r 2 2)
  match contractOfRecord r with
  | none => ctReply s 1 (if mask = 0 then none else some mask)
  | some c =>
    let st := admitStatus s c
    ctReply (if st = 0 then enterContract s c else s) st (some mask)

/-- R88: WITHDRAW of a record's ID. -/
def ctWithdraw (s : State) (r : List Byte) : State × Word :=
  let id := fieldAt r 0 2
  match s.contractOf id with
  | none => ctReply s 9 none
  | some c =>
    if (s.sched.jobs ++ s.sched.heldJobs).any (fun j => j.contract == some id) then ctReply s 8 (some c.clusters)
    else ctReply (closeStacks { s with sched := { s.sched with contracts := s.sched.contracts.filter (fun x => x.id != id) } }) 0 (some c.clusters)

/-- R87: a command written to CTADMIT: what it returns, or why its record could not be read. -/
def ctCommand (s : State) (x : Word) : State × Except FetchErr Word :=
  let n := x.toNat
  let op := n % 4
  if op = 0 || op = 3 || natBits n 5 2 != 0 || natBits n 63 56 != 0 then
    let (s, r) := ctReply s 1 none
    (s, .ok r)
  else
    let va : Word := BitVec.ofNat 64 (natBits n 55 6 * 64)
    match fetchRecord s s.me va 64 with
    | (s, .error e) => (s, .error e)
    | (s, .ok r) =>
      let (s, y) := if op = 1 then ctAdmit s r else ctWithdraw s r
      (s, .ok y)

/-! ### CSR access (R388 to R390) -/

/-- R18, R120: a read of a window register finds its line in the context's descriptor. -/
def csrTouched (s : State) (n : Nat) : State :=
  if 0x30 ≤ n ∧ n ≤ 0x3F then readRun s (descAddr s s.cur.ctx + 0x80 + 8 * (n - 0x30)) 8 else s

/-- R384, R388: an access to the CSR named by IMM16: read, written, or both. -/
def csrOp (reads writes : Bool) (v : View) (s : State) : Eff :=
  let n := v.imm16
  let x := s.cur.reg v.a
  if csrSupervisor n && !isSup s then .trap s Cause.access (BitVec.ofNat 64 n) none
  else if n = 0xC00 && writes then
    match ctCommand s x with
    | (s, .error .wait) => .wait s .hardware
    | (s, .error (.fault _ a)) => .trap s Cause.loadFault a none
    | (s, .ok y) => .ok (if reads then s.setReg v.d y else s)
  else
    let s := if reads then csrTouched s n else s
    let old := csrRead s n
    let s := if writes then csrWrite s n x else s
    .ok (if reads then s.setReg v.d old else s)

/-! ### Translation, objects and windows (R391 to R393) -/

/-- R391: TLB entries removed from every cluster TLB and every micro-TLB. -/
def dropEntries (s : State) (goes : TlbEntry → Bool) : State :=
  { s with tlb := s.tlb.filter (fun e => !goes e), micro := s.micro.filter (fun x => !goes x.entry) }

/-- R184, R391: an access that has been translated in some context is still to perform: a piece of a bank command's broadcast operand that waits
    for the host. Every other access performs in the step that translates it. -/
def accessesLeft (s : State) (mine : Nat → Bool) : Bool := s.cmds.any (fun c => !c.places.isEmpty && mine c.ctx)

/-- R391: entries are removed once the accesses of their contexts have performed, whichever entry each went through (DEDUCED, log 87). -/
def invalidate (s : State) (mine : Nat → Bool) (goes : TlbEntry → Bool) : Eff :=
  if accessesLeft s mine then .wait s .hardware else .ok (dropEntries s goes)

/-- R391: TLBINV. -/
def tlbInvOp (v : View) (s : State) : Eff :=
  let b := (s.cur.reg v.b).toNat
  let ctx := natBits b 31 16
  let va := (s.cur.reg v.a).toNat
  if !isSup s then .trap s Cause.access 0 none
  else
    match b % 4 with
    | 0 => invalidate s (fun _ => true) (fun _ => true)
    | 1 => invalidate s (· == ctx) (fun e => e.ctx == ctx)
    | 2 => invalidate s (· == ctx) (fun e => e.ctx == ctx && va / 2 ^ e.bits == e.vbase)
    | _ => .trap s Cause.illegal (illegalVal 8 s.cur.cv.member v.word0) none

/-- R115: the counts and byte strides of a tile's dimensions, dimension 0 in elements; a buffer is a row of bytes. -/
def declDims (r : List Byte) : List (Nat × Nat) :=
  if fieldAt r 8 1 % 4 = 0 then [(fieldAt r 0x10 8, 1)]
  else (List.range (fieldAt r 0x0A 1)).map (fun i => (fieldAt r (0x18 + 4 * i) 4, if i = 0 then 2 ^ fieldAt r 9 1 else fieldAt r (0x20 + 8 * i) 8))

/-- R115: the runs of bytes a declaration covers, one per row of dimension 0. -/
def declRuns (base : Nat) (dims : List (Nat × Nat)) : List Span :=
  match dims with
  | [] => []
  | (n, e) :: rest =>
    rest.foldl (fun (runs : List Span) d => (List.range d.1).flatMap (fun i => runs.map (fun x => { x with first := x.first + i * d.2 }))) [{ first := base, count := n * e }]

/-- R115: the runs consist of whole 8-byte cells together. -/
def wholeCells (runs : List Span) : Bool :=
  runs.all (fun x =>
    let ends := fun (a : Nat) => a % 8 == 0 || (List.range 8).all (fun i => inSpans runs (a / 8 * 8 + i))
    ends x.first && ends (x.first + x.count))

/-- R115, R116: BAD_FIELD. -/
def declBad (r : List Byte) : Bool :=
  let kind := fieldAt r 8 1
  let esize := fieldAt r 9 1
  let ndim := fieldAt r 0x0A 1
  let lease := fieldAt r 0x0C 4
  let len := fieldAt r 0x10 8
  let mode := kind / 4 % 4
  let defop := kind / 16
  let tile := kind % 4 == 1
  kind % 4 > 1 || mode > 1 || defop > 12 || (defop != 0 && mode == 0) || fieldAt r 0x0B 1 != 0 || (lease != 0 && (lease < 64 || lease > 65536))
  || (if tile then
        esize > 3 || ndim == 0 || ndim > 4 || len != 0
        || (List.range 4).any (fun i => let d := fieldAt r (0x18 + 4 * i) 4; if i < ndim then d == 0 || d > 65536 else d != 0)
        || (List.range 3).any (fun i => let d := fieldAt r (0x28 + 8 * i) 8; if i + 1 < ndim then d == 0 || d > 2 ^ 40 else d != 0)
      else esize != 0 || ndim != 0 || len == 0 || len > 2 ^ 36 || !zeroAt r 0x18 64)
  || (mode == 1 && !wholeCells (declRuns (fieldAt r 0 8) (declDims r)))

/-- Numbers in the order given, each once. -/
def distinct : List Nat → List Nat
  | [] => []
  | x :: l => x :: (distinct l).filter (· != x)

/-- R115: the virtual lines that hold a covered byte. -/
def declLines (runs : List Span) : List Nat :=
  distinct (runs.flatMap (fun x => (List.range ((x.first + x.count - 1) / 128 - x.first / 128 + 1)).map (x.first / 128 + ·)))

/-- What OBJDECL finds at a covered page: the physical line, or UNMAPPED (3) or NOT_LOCAL (4). -/
def declLine (s : State) (line : Nat) : State × Except Nat Nat :=
  let va := line * 128
  if va ≥ 0x00FD000000000000 then (s, .error 3)
  else
    match translate s s.me .amo va with
    | (s, .error _) => (s, .error 3)
    | (s, .ok (pa, perms)) =>
      let far := match pa / 2 ^ 50 with
        | 0 => false
        | 1 => natBits pa 43 40 != s.modId
        | _ => true
      if far then (s, .error 4)
      else match placeOf s pa 128 with
        | some (.device _ a) => (s, if perms.getLsbD 7 then .error 4 else .ok (a / 128))
        | _ => (s, .error 3)

/-- R116: statuses 3 and 4: the virtual lines with their physical ones, or the status. -/
def declMap (s : State) : List Nat → State × Except Nat (List (Nat × Nat))
  | [] => (s, .ok [])
  | v :: vs =>
    let (s, here) := declLine s v
    let (s, rest) := declMap s vs
    match here, rest with
    | .error 3, _ => (s, .error 3)
    | _, .error 3 => (s, .error 3)
    | .error e, _ => (s, .error e)
    | _, .error e => (s, .error e)
    | .ok p, .ok l => (s, .ok ((v, p) :: l))

/-- R115: the covered bytes of one line of a map, in physical addresses. -/
def coveredIn (runs : List Span) (p : Nat × Nat) : List Span :=
  runs.filterMap (fun x =>
    let lo := max x.first (p.1 * 128)
    let hi := min (x.first + x.count) (p.1 * 128 + 128)
    if lo < hi then some { first := p.2 * 128 + (lo - p.1 * 128), count := hi - lo } else none)

/-- A span put among spans in ascending order that share nothing and do not touch. -/
def addSpan : List Span → Span → List Span
  | [], x => [x]
  | y :: l, x =>
    if x.first + x.count < y.first then x :: y :: l
    else if y.first + y.count < x.first then y :: addSpan l x
    else
      let lo := min x.first y.first
      addSpan l { first := lo, count := max (x.first + x.count) (y.first + y.count) - lo }

/-- Spans in ascending order, each number in one of them at most. -/
def ascending (l : List Span) : List Span := l.foldl addSpan []

/-- The latest default-object lease on some lines (R117). -/
def defaultLeases (s : State) (lines : List Nat) : Nat := lines.foldl (fun m l => max m (s.expiryOf (leaseKey none s.modId s.modId l))) 0

/-- R129: DRAM and the L2 hold the same bytes of some lines, those of the L2 where they are to be written back. -/
def settleDram (s : State) (lines : List Nat) : State :=
  (lines.filter (fun l => (mapGet s.stale l).isSome)).foldl (fun s l => if setHas s.dirty l then cleanLine s l else dropLine s l) s

/-- R115 to R117: a declaration whose record has been read: the status, or the object tagged, with its id and the
    time when the leases that its lines had have expired. -/
def declare (s : State) (r : List Byte) : State × Except Nat (Nat × Nat) :=
  if declBad r then (s, .error 1)
  else
    let base := BitVec.ofNat 64 (fieldAt r 0 8)
    let runs := declRuns base.toNat (declDims r)
    let vlines := declLines runs
    if vlines.length > 2 ^ 29 then (s, .error 2)
    else
      match declMap s vlines with
      | (s, .error e) => (s, .error e)
      | (s, .ok m) =>
        let lines := distinct (m.map (·.2))
        if lines.any (fun l => (s.objOfLine l).isSome) then (s, .error 5)
        else
          match (List.range 262144).find? (fun i => (mapGet s.objs i).isNone) with
          | none => (s, .error 6)
          | some id =>
            let kind := fieldAt r 8 1
            let lease := fieldAt r 0x0C 4
            let o : Obj :=
              { mode := if natBit kind 2 then .accord else .lease, tile := natBit kind 0, base, len := fieldAt r 0x10 8, defop := kind / 16,
                lease := if lease = 0 then 2048 else lease, lines := ascending (lines.map (fun l => { first := l, count := 1 })),
                bytes := ascending (m.flatMap (coveredIn runs)), virt := runs, ctx := s.cur.ctx }
            ({ (if o.mode = .accord then settleDram s lines else s) with objs := mapSet s.objs id o }, .ok (id, defaultLeases s lines))

/-- R392: OBJDECL. -/
def objDeclOp (v : View) (s : State) : Eff :=
  let done := fun (s : State) (id : Nat) => Eff.ok (s.setReg v.d (BitVec.ofNat 64 (id * 2 ^ 32)))
  match s.cur.wait with
  | .homes id due => if s.now < due then .wait s .hardware else done s id
  | _ =>
    let va := s.cur.reg v.a
    if va.toNat % 64 ≠ 0 then .trap s Cause.misalign va none
    else
      match fetchRecord s s.me va 64 with
      | (s, .error .wait) => .wait s .hardware
      | (s, .error (.fault _ a)) => .trap s Cause.loadFault a none
      | (s, .ok r) =>
        match declare s r with
        | (s, .error e) => .ok (s.setReg v.d (BitVec.ofNat 64 e))
        | (s, .ok (id, due)) =>
          if s.now < due then .wait { s with cur := { s.cur with wait := .homes id due } } .hardware else done s id

/-- R132: a context's observations of some cells go; OBSLOST says so when there was one. -/
def forgetCells (gone : Nat → Bool) (t : Strand) : Strand :=
  let keep := t.obs.filter (fun e => !gone e.cell)
  if keep.length = t.obs.length then t else { t with obs := keep, astat := t.astat ||| 2 }

/-- R128, R132: some cells are cells no more: their siblings and counters go, and every observation of them. -/
def dropCells (s : State) (gone : Nat → Bool) : State :=
  { s with cells := s.cells.filter (fun p => !gone p.1), cur := forgetCells gone s.cur, others := s.others.map (fun p => (p.1, forgetCells gone p.2)) }

/-- R117, R132: an object's tags cleared: its cells keep their primary siblings, and its observations go. -/
def untag (s : State) (id : Nat) (o : Obj) : State :=
  dropCells { s with objs := mapSet s.objs id { o with lines := [], bytes := [] } } (inSpans o.bytes)

/-- R117: the latest lease an object granted. -/
def objectLeases (s : State) (id : Nat) : Nat :=
  (List.range 128).foldl (fun m i => max m (s.expiryOf (leaseKey (some id) s.modId s.modId i))) 0

/-- R392: OBJDROP. -/
def objDropOp (v : View) (s : State) : Eff :=
  let done := fun (s : State) (id : Nat) => Eff.ok ({ s with objs := mapDel s.objs id }.setReg v.d 0)
  match s.cur.wait with
  | .homes id due => if s.now < due then .wait s .hardware else done s id
  | _ =>
    let id := (s.cur.reg v.a).toNat % 2 ^ 18
    let status := fun (n : Word) => Eff.ok (s.setReg v.d n)
    match mapGet s.objs id with
    | none => status 8
    | some o =>
      if o.lines.isEmpty then status 8
      else if !isSup s && o.ctx != s.cur.ctx then status 10
      else if o.mode ≠ .lease && o.mode ≠ .accord then status 9
      else
        let due := objectLeases s id
        let s := untag s id o
        if s.now < due then .wait { s with cur := { s.cur with wait := .homes id due } } .hardware else done s id

/-- R8, R16, R38, R123, R393: NCWSET: reserved bits are not kept, a register at or above the capacity takes ACCESS, and the write waits while the
    host holds the line. -/
def ncwSetOp (v : View) (s : State) : Eff :=
  let c := (s.cur.reg v.b).toNat % 2 ^ 16
  let x := s.cur.reg v.a
  if !isSup s && c != s.cur.ctx then .trap s Cause.access 0 none
  else
    let d := descAddr s c
    let pa := d + 0x80 + 8 * (v.imm16 % 16)
    if pa + 8 > s.ceil then .trap s Cause.access 0 none
    else
      match hostWait s (.device s.modId pa) 8 with
      | some s => .wait s .hardware
      | none => .ok (portWrite s (.device s.modId pa) (bytesOfNat 8 (x &&& ncwBits).toNat) .cached)

/-- TRAP (R385): retire, then take trap cause 18. -/
def execTrap (r : RF) (s : State) : Res := guarded (some (r.view 60 0)) s trapOp

/-- TRAP_X (R385): TRAP with a code in IMM16. -/
def execTrapX (x : XF) (s : State) : Res := guarded (some (x.view 60 0)) s trapOp

/-- ERET (R213): return from a trap, resuming parked copies. -/
def execEret (r : RF) (s : State) : Res := guarded (some (r.view 60 1)) s eretOp

/-- ERET_X (R213): ERET in extended length. -/
def execEretX (x : XF) (s : State) : Res := guarded (some (x.view 60 1)) s eretOp

/-- HALT (R386): end the unit after its writes perform and its copies and stashes are settled. -/
def execHalt (r : RF) (s : State) : Res := guarded (some (r.view 60 2)) s haltOp

/-- HALT_X (R386): HALT in extended length. -/
def execHaltX (x : XF) (s : State) : Res := guarded (some (x.view 60 2)) s haltOp

/-- YIELD (R387): offer the core to a ready unit in the other slot. -/
def execYield (r : RF) (s : State) : Res := guarded (some (r.view 60 3)) s yieldOp

/-- YIELD_X (R387): YIELD in extended length. -/
def execYieldX (x : XF) (s : State) : Res := guarded (some (x.view 60 3)) s yieldOp

/-- CSRRD (R388): read a CSR (extended form only). -/
def execCsrrd (x : XF) (s : State) : Res := guarded (some (x.view 60 4)) s (csrOp true false)

/-- CSRWR (R388): write a CSR (extended form only). -/
def execCsrwr (x : XF) (s : State) : Res := guarded (some (x.view 60 5)) s (csrOp false true)

/-- CSRSWP (R388): swap a CSR, carrying CTADMIT commands (extended form only). -/
def execCsrswp (x : XF) (s : State) : Res := guarded (some (x.view 60 6)) s (csrOp true true)

/-- TLBINV (R391): remove TLB and walk-cache entries module-wide. -/
def execTlbinv (r : RF) (s : State) : Res := guarded (some (r.view 60 7)) s tlbInvOp

/-- TLBINV_X (R391): TLBINV in extended length. -/
def execTlbinvX (x : XF) (s : State) : Res := guarded (some (x.view 60 7)) s tlbInvOp

/-- OBJDECL (R392): declare an object and tag its lines at the homes. -/
def execObjdecl (r : RF) (s : State) : Res := guarded (some (r.view 60 8)) s objDeclOp

/-- OBJDECL_X (R392): OBJDECL in extended length. -/
def execObjdeclX (x : XF) (s : State) : Res := guarded (some (x.view 60 8)) s objDeclOp

/-- OBJDROP (R392): drop an object, purge its observations and free its descriptor. -/
def execObjdrop (r : RF) (s : State) : Res := guarded (some (r.view 60 9)) s objDropOp

/-- OBJDROP_X (R392): OBJDROP in extended length. -/
def execObjdropX (x : XF) (s : State) : Res := guarded (some (x.view 60 9)) s objDropOp

/-- NCWSET (R393): write non-coherent window 0 of a context. -/
def execNcwset (r : RF) (s : State) : Res := guarded (some (r.view 60 10)) s ncwSetOp

/-- NCWSET_X (R393): NCWSET naming its window. -/
def execNcwsetX (x : XF) (s : State) : Res := guarded (some (x.view 60 10)) s ncwSetOp

/-! ### Commands as they reach the scheduler (R87) -/

/-- CTADMIT_ADMIT (R88): an ADMIT of the record at an address of the executing strand's context; one that cannot be read admits nothing. -/
def execCtadmitAdmit (va : Word) (s : State) : Res :=
  match fetchRecord s s.me va 64 with
  | (s, .error .wait) => .next (s.post 64 (.ctadmitAdmit va))
  | (s, .error (.fault _ _)) => .next s
  | (s, .ok r) => .next (ctAdmit s r).1

/-- CTADMIT_WITHDRAW (R88): a WITHDRAW of the contract that the record at an address names; one that cannot be read withdraws nothing. -/
def execCtadmitWithdraw (va : Word) (s : State) : Res :=
  match fetchRecord s s.me va 64 with
  | (s, .error .wait) => .next (s.post 64 (.ctadmitWithdraw va))
  | (s, .error (.fault _ _)) => .next s
  | (s, .ok r) => .next (ctWithdraw s r).1

end Sys2Proof.Machine
end

