-- ==== Sys2Proof/Machine/SchedOps.lean ====
section
/-! DEFINITION. Scheduling instructions: major 0x3D (R66 to R69, R75 to R79, R394 to R397). -/

namespace Sys2Proof.Machine

open Sys2Proof

/-- The active job of the executing unit. -/
def jobOfCur (s : State) : Option Job := (s.launchOfUnit s.cur).bind (fun l => s.jobOf l.job)

/-- R67, R394: a device launch from a block: the result. A unit outside every phase is treated as one whose
    phase is being cancelled. -/
def deviceLaunch (s : State) (lpb : Word) : State × Word :=
  match jobOfCur s with
  | none => (s, 2)
  | some j =>
    if j.phaseCancel || j.jobCancel || !j.live then (s, 2)
    else if j.devPending ≥ 4096 then (s, 1)
    else
      let (s, t) := takeLaunch s (schedAgent j.ctx) j none lpb s.curRef.cluster
      let j := (s.jobOf j.id).getD j
      match t with
      | .refused aux => (s.setJob { j with anyCancelled := true }, BitVec.ofNat 64 (2 + aux))
      | .empty h => (s, BitVec.ofNat 64 (h * 2 ^ 32))
      | .placed h => (s.setJob { j with devPending := j.devPending + 1 }, BitVec.ofNat 64 (h * 2 ^ 32))

/-- R394: LAUNCH. -/
def launchOp (v : View) (s : State) : Eff :=
  let va := s.cur.reg v.a
  if va.toNat % 64 ≠ 0 then .trap s Cause.misalign va none
  else
    let (s, r) := deviceLaunch s va
    .ok (s.setReg v.d r)

/-- R66: the executing unit's TRIGGER reaches its launch. -/
def unitTrigger (s : State) : State :=
  match s.launchOfUnit s.cur with
  | none => s
  | some l =>
    let u := s.cur.unitId
    if l.triggered.contains u then s else checkTrigger (s.setLaunch { l with triggered := u :: l.triggered }) l.handle

/-- R394: TRIGGER, a release at DEVICE scope. -/
def triggerOp (_ : View) (s : State) : Eff := afterWrites s 3 (fun s => .ok (unitTrigger s))

/-- R395: a launch that a unit of another phase names. -/
def outsidePhase (s : State) (handle : Nat) : Bool :=
  match s.launchOf handle with
  | none => false
  | some l => (s.launchOfUnit s.cur).map (·.job) != some l.job

/-- R395: the oldest active job with a tag; one that has ended is active no more. -/
def jobTagged (s : State) (tag : Word) : Option Nat :=
  ((s.sched.jobs ++ s.sched.heldJobs).filter (fun j => j.tag == tag && !j.ended)).foldl (fun m j => match m with | none => some j.id | some i => some (min i j.id)) none

/-- R395: a cancel sent to its level's counter: whether the target was active. -/
def cancelAt (s : State) (level : Nat) (x : Word) : State × Bool :=
  match level with
  | 0 =>
    (match s.launchOf (x.toNat / 2 ^ 32) with
      | none => (s, false)
      | some l => cancelUnit s l (x.toNat % 2 ^ 20))
  | 1 =>
    let h := x.toNat % 2 ^ 32
    (if (s.launchOf h).isSome then (cancelLaunch s h false, true) else (s, false))
  | 2 =>
    (match jobOfCur s with
      | none => (s, false)
      | some j => (cancelPhase s j.id false, j.live))
  | _ =>
    (match (if x = 0 then (jobOfCur s).map (·.id) else jobTagged s x) with
      | none => (s, false)
      | some id => (cancelJob s id, !(s.jobOf id).any Job.ended))

/-- R395: CANCEL. -/
def cancelOp (v : View) (s : State) : Eff :=
  let level := v.imm16 % 4
  let x := s.cur.reg v.a
  let barred := match level with
    | 0 => outsidePhase s (x.toNat / 2 ^ 32)
    | 1 => outsidePhase s (x.toNat % 2 ^ 32)
    | 2 => false
    | _ => x != 0
  if !isSup s && barred then .trap s Cause.access 0 none
  else
    let (s, found) := cancelAt s level x
    .ok (s.setReg v.d (boolWord (!found)))

/-- R75, R394: the executing context owns a queue. -/
def ownsQueue (s : State) (q : Nat) : Bool :=
  let o := ((s.sched.pqown[q]?).getD 0).toNat
  4 ≤ q && natBit o 16 && o % 2 ^ 16 == s.cur.ctx

/-- R76, R394: PQPUSH, a release at DEVICE scope. -/
def pqPushOp (v : View) (s : State) : Eff :=
  let q := v.imm16 % 32
  if !ownsQueue s q then .trap s Cause.access (BitVec.ofNat 64 q) none
  else
    afterWrites s 3 (fun s =>
      let (s, done) := pushEntry s q { key := (s.cur.reg v.a).setWidth 32, payload := s.cur.reg v.b }
      .ok (s.setReg v.d (boolWord (!done))))

/-- R396: PQPOP: an entry, NOWAIT's answer, or a wait in arrival order. -/
def pqPopOp (v : View) (s : State) : Eff :=
  let q := v.imm16 % 32
  let put := fun (s : State) (p k : Word) => Eff.ok ((s.setReg v.d p).setReg (v.d + 1) k)
  match s.cur.wait with
  | .popDone p k => put s p (k.setWidth 64)
  | _ =>
    if !ownsQueue s q then .trap s Cause.access (BitVec.ofNat 64 q) none
    else
      match popEntry s q with
      | some (s, e) => put s e.payload (e.key.setWidth 64)
      | none =>
        if natBit v.imm16 5 then put s 0 (BitVec.allOnes 64)
        else .wait { s with popQueue := s.popQueue ++ [(q, s.curRef)] } (.pop q)

/-- R397: HEART. -/
def heartWord (s : State) (sel : Nat) : Word :=
  match ((s.launchOfUnit s.cur).bind (·.contract)).bind s.contractOf with
  | none => BitVec.allOnes 64
  | some c =>
    match c.running with
    | none => BitVec.allOnes 64
    | some r =>
      match sel % 4 with
      | 0 => BitVec.ofNat 64 (c.budget - r.time s.now)
      | 1 => BitVec.ofNat 64 r.deadline
      | 2 => BitVec.ofNat 64 r.n
      | _ => BitVec.ofNat 64 (c.bankbud - r.bankUsed)

/-- R397: HEART. -/
def heartOp (v : View) (s : State) : Eff := .ok (s.setReg v.d (heartWord s v.imm16))

/-- LAUNCH (R394): start a device launch from a parameter block. -/
def execLaunch (r : RF) (s : State) : Res := guarded (some (r.view 61 0)) s launchOp

/-- LAUNCH_X (R394): LAUNCH in extended length. -/
def execLaunchX (x : XF) (s : State) : Res := guarded (some (x.view 61 0)) s launchOp

/-- TRIGGER (R66): mark this unit's trigger; a release at DEVICE scope. -/
def execTrigger (r : RF) (s : State) : Res := guarded (some (r.view 61 1)) s triggerOp

/-- TRIGGER_X (R66): TRIGGER in extended length. -/
def execTriggerX (x : XF) (s : State) : Res := guarded (some (x.view 61 1)) s triggerOp

/-- CANCEL (R395): cancel a unit (base form level 0). -/
def execCancel (r : RF) (s : State) : Res := guarded (some (r.view 61 2)) s cancelOp

/-- CANCEL_X (R395): CANCEL naming unit, launch, phase or job level. -/
def execCancelX (x : XF) (s : State) : Res := guarded (some (x.view 61 2)) s cancelOp

/-- PQPUSH (R394): push onto queue 0 (base form). -/
def execPqpush (r : RF) (s : State) : Res := guarded (some (r.view 61 3)) s pqPushOp

/-- PQPUSH_X (R394): PQPUSH naming its queue; serves a waiting pop. -/
def execPqpushX (x : XF) (s : State) : Res := guarded (some (x.view 61 3)) s pqPushOp

/-- PQPOP (R396): pop queue 0, waiting when empty (base form). -/
def execPqpop (r : RF) (s : State) : Res := guarded (some (r.view 61 4)) s pqPopOp

/-- PQPOP_X (R396): PQPOP naming its queue and NOWAIT. -/
def execPqpopX (x : XF) (s : State) : Res := guarded (some (x.view 61 4)) s pqPopOp

/-- HEART (R397): read the remaining budget of the release (base form). -/
def execHeart (r : RF) (s : State) : Res := guarded (some (r.view 61 5)) s heartOp

/-- HEART_X (R397): HEART with its selector. -/
def execHeartX (x : XF) (s : State) : Res := guarded (some (x.view 61 5)) s heartOp

end Sys2Proof.Machine
end

