-- ==== Sys2Proof/Machine/Boot.lean ====
section
/-! DEFINITION. Reset and boot, the layout change, Lomux training and failures, refresh, temperature, and the fatal stop with its dump (R13 to R34, R57, R58). -/

namespace Sys2Proof.Machine

open Sys2Proof

/-! ### The layout (R15, R20 to R22) -/

/-- Bits of a channel set that are 1. -/
def countChannels (b : BitVec 512) : Nat := if b = BitVec.allOnes 512 then 512 else ((List.range 512).filter (fun c => b.getLsbD c)).length

/-- R20, R22: the channels a layout change leaves active. -/
def layoutLeft (s : State) (asked : BitVec 512) : BitVec 512 :=
  s.pkg.recActive &&& ~~~(s.pkg.chFenced ||| s.pkg.recPending ||| asked)

/-- A location in a scratchpad of this module. -/
def ownScratch (s : State) (loc : Nat) : Bool := 2 ^ 52 + s.modId * 2 ^ 32 ≤ loc && loc < 2 ^ 52 + (s.modId + 1) * 2 ^ 32

/-- R20: steps 1 to 6. Objects live in the DRAM that is zeroed, and no lease or cached line outlasts the zeroing. -/
def relayout (s : State) (asked : BitVec 512) : State :=
  let act := layoutLeft s asked
  let gen := s.pkg.layoutGen + 1
  let far := fun (l : List Nat) => l.filter (fun x => ownLines ≤ x)
  { s with
    pkg := { s.pkg with recActive := act, recPending := 0, recGen := gen, layoutGen := gen, chActive := act, chFenced := 0,
                        dramCeil := BitVec.ofNat 64 (countChannels act * Config.channelBytes) },
    mem := Memory.clear s.mem 0 (2 ^ 50), full := s.full.filter (fun x => !ownScratch s (4 * x)), rowClear := [], poison := far s.poison, latent := far s.latent, correctable := far s.correctable,
    homeWrites := [], stale := [], dirty := [], l2 := [], objs := [], objCache := [], cells := s.cells.filter (fun p => 2 ^ 50 ≤ p.1), expiry := [],
    cores := s.cores.map (fun p => (p.1, { p.2 with l1 := [] })) }

/-- R22: LAYOUT, posted once a layout change is over. -/
def postLayout (s : State) : State := postEvent s 9 0 s.pkg.layoutGen.toNat (BitVec.ofNat 64 (countChannels s.pkg.chActive))

/-! ### Lomux training (R24, R25, R28) -/

/-- R23, R32: SIZE and MOD of a DOMAIN value are in rule. -/
def domainOk (v : Word) : Bool :=
  let n := natBits v.toNat 4 0
  (n == 1 || n == 2 || n == 4 || n == 8 || n == 16) && natBits v.toNat 11 8 < n

/-- R25: the module a port is cabled to. -/
def neighbour (size mod port : Nat) : Nat :=
  if size = 2 then 1 - mod
  else
    let w := ringWidth size
    let h := size / w
    let x := mod % w
    let y := mod / w
    match port with
    | 0 => y * w + (x + 1) % w
    | 1 => y * w + (x + w - 1) % w
    | 2 => (y + 1) % h * w + x
    | _ => (y + h - 1) % h * w + x

/-- R25, R28: one port trained against DOMAIN: it comes up, and with it the peer's port it is cabled to; it stays down miscabled; or it fails. -/
def trainPort (s : State) (port : Nat) (peer : Option PeerInfo) : State :=
  match peer with
  | none => postEvent s 11 port 0 0
  | some p =>
    if p.cabled && p.size == s.domSize && p.mod == neighbour s.domSize s.modId port then
      { s with pkg := { s.pkg with domain := s.pkg.domain ||| BitVec.twoPow 64 (16 + port), down := s.pkg.down.filter (fun d => d != (p.mod, peerPort port)) } }
    else postEvent s 10 port 0 (BitVec.ofNat 64 (p.mod % 16 + p.size % 32 * 2 ^ 8))

/-- R25, R32: the ports whose LIVE bit is clear trained; none trains in a domain of one module, or against a DOMAIN out of rule. -/
def trainPorts (s : State) (peers : List (Option PeerInfo)) : State :=
  if s.domSize ≤ 1 || !domainOk s.pkg.domain then s
  else (List.range 4).foldl (fun s i => if s.pkg.domain.getLsbD (16 + i) then s else trainPort s i (peers.getD i none)) s

/-! ### Fatal stop and dump (R57, R58) -/

/-- R58: size of the dump. -/
def dumpSizeBytes : Nat := 0x62800

/-- Bytes made up to a length with zeros. -/
def padTo (n : Nat) (bs : List Byte) : List Byte := bs ++ List.replicate (n - bs.length) 0

/-- R58: the code of a strand's state. -/
def strandCode : StrandSt → Nat
  | .empty => 0 | .running => 1 | .ready => 2 | .waiting => 3 | .trapped => 4

/-- R58: the strand record of a slot. -/
def strandRecord (s : State) (u : SlotRef) : List Byte :=
  let t := s.strand u
  let t := if t.st = .empty then lookupSlot s.ghosts u else t
  if t.st = .empty then List.replicate 1024 0
  else
    let vec := fun (w : Word) => if u.isConductor then (0 : Word) else w
    padTo 1024 (wordsBytes
      ([BitVec.ofNat 64 (1 + 2 * strandCode t.st), t.pc, t.strandId, t.gang, t.launch, t.trapcause, t.trappc, t.trapval, vec t.vl, vec t.vtype, vec t.vstart,
        vec t.rstate, vec t.rsidx, t.fflags, t.astat, vec t.cbgen] ++ t.s.toList))

/-- R58: a core's two records, the running context's first. -/
def coreRecords (s : State) (core : Nat) : List Byte :=
  let a : SlotRef := { core, slot := 0 }
  let b : SlotRef := { core, slot := 1 }
  if (s.strand b).st = .running then strandRecord s b ++ strandRecord s a else strandRecord s a ++ strandRecord s b

/-- R58: a priority queue's entry: count, smallest key, host-queue flag (log 29). -/
def queueRecord (s : State) (q : Nat) : List Byte :=
  let l := (s.sched.queues[q]?).getD []
  let key := match l with
    | [] => 0
    | e :: es => es.foldl (fun m x => min m x.key.toNat) e.key.toNat
  padTo 64 (bytesOfNat 8 l.length ++ bytesOfNat 8 key ++ bytesOfNat 8 (if q < 4 then 1 else 0))

/-- R58: a contract's entry: period, deadline, budget, release count, overrun count (log 29). -/
def contractRecord (s : State) (id : Nat) : List Byte :=
  match s.contractOf id with
  | none => List.replicate 64 0
  | some c => padTo 64 (bytesOfNat 8 c.period ++ bytesOfNat 8 c.deadline ++ bytesOfNat 8 c.budget ++ bytesOfNat 8 c.releases ++ bytesOfNat 8 c.overruns)

/-- The objects that an OBJDECL or OBJDROP is at work on at the homes. -/
def homesWaits (s : State) : List Nat :=
  (s.allStrands.map (·.2)).filterMap (fun t => match t.wait with
    | .homes id _ => some id
    | _ => none)

/-- R58, R117, R122: an object of a slice awaits lease expiry: one dropped or switched to STASHED whose own leases run, or one declared over
    lines that the default object has leased. -/
def awaitsExpiry (s : State) (slice : Nat) (id : Nat) (o : Obj) : Bool :=
  let runs := fun (k : Option Nat) => decide (s.now < s.expiryOf (leaseKey k s.modId s.modId slice))
  let stashing := match o.mode with
    | .stashed _ _ => true
    | _ => false
  if o.lines.isEmpty || stashing then runs (some id)
  else (homesWaits s).contains id && (spanIndices o.lines).any (fun l => l % 128 == slice) && runs none

/-- R58: a slice's object cache: valid descriptors, objects awaiting lease expiry, pool slots in use (log 29). -/
def sliceRecord (s : State) (slice : Nat) : List Byte :=
  let late := s.objs.filter (fun p => awaitsExpiry s slice p.1 p.2)
  padTo 256 (bytesOfNat 8 (s.objCache.filter (fun p => p.1 == slice)).length ++ bytesOfNat 8 late.length ++ bytesOfNat 8 (32768 - poolFree s (slice * 128)))

/-- R58: a channel's entry. -/
def channelWord (s : State) (c : Nat) : List Byte :=
  bytesOfNat 8 (((mapGet s.corrected c).getD 0) % 2 ^ 32 + (if s.pkg.chFenced.getLsbD c then 2 ^ 32 else 0) + (if s.pkg.chActive.getLsbD c then 2 ^ 33 else 0))

/-- R58: a bank's status word as BSTAT reports it: 0 where the channel is not active (R183). -/
def statusWord (s : State) (b : Nat) : List Byte :=
  bytesOfNat 8 (if s.pkg.chActive.getLsbD (b / 16) then (s.bluAt b).status else 0).toNat

/-- R58: the sections, in kind order. -/
def dumpSections (s : State) : List Byte :=
  (List.range 128).flatMap (coreRecords s) ++ (List.range 32).flatMap (queueRecord s) ++ (List.range 256).flatMap (contractRecord s)
  ++ (List.range 128).flatMap (sliceRecord s) ++ (List.range 8192).flatMap (statusWord s)
  ++ (List.range 512).flatMap (channelWord s) ++ (List.range 16).flatMap (fun i => strandRecord s { core := 128 + i, slot := 0 })

/-- R58: offset, size of one item, count and kind of each section. -/
def dumpTable : List (Nat × Nat × Nat × Nat) :=
  [(0x1000, 1024, 256, 1), (0x41000, 64, 32, 2), (0x41800, 64, 256, 3), (0x45800, 256, 128, 4), (0x4D800, 8, 8192, 5), (0x5D800, 8, 512, 6),
   (0x5E800, 1024, 16, 7)]

/-- R23: PKG_ID. STEP is the stepping, 1. -/
def pkgId (s : State) : Word := BitVec.ofNat 64 (0x00090100 + s.modId * 16)

/-- R57: the dump header. -/
def dumpHeader (s : State) (cause : Nat) (dseq : Word) (body : List Byte) : List Byte :=
  let table := dumpTable.flatMap (fun e => bytesOfNat 8 e.1 ++ bytesOfNat 4 e.2.1 ++ bytesOfNat 2 e.2.2.1 ++ bytesOfNat 2 e.2.2.2)
  padTo 4096 (bytesOfNat 4 0x5044574B ++ bytesOfNat 2 1 ++ bytesOfNat 2 cause ++ bytesOfNat 8 s.gtime.toNat ++ bytesOfNat 4 s.host.hseqAccepted.toNat
    ++ bytesOfNat 4 0 ++ bytesOfNat 8 s.host.dseqPosted.toNat ++ bytesOfNat 8 s.host.hostAck.toNat ++ bytesOfNat 8 (pkgId s).toNat
    ++ bytesOfNat 2 s.pkg.layoutGen.toNat ++ bytesOfNat 6 0 ++ bytesOfNat 8 dseq.toNat ++ padTo 128 table
    ++ bytesOfNat 4 dumpSizeBytes ++ bytesOfNat 4 (crc32c body))

/-- R57: the host region of the dump is used. -/
def dumpToHost (s : State) : Bool := s.host.dumpBase != 0 && s.host.dumpSize.toNat ≥ dumpSizeBytes

/-- R57: the host link is up. -/
def linkUp (s : State) : Bool := s.host.mode != 0

/-- R57: the base address of the dump, 0 for none. -/
def dumpAddress (s : State) : Word := if dumpToHost s then s.host.dumpBase else s.host.dumpDev

/-- R16, R57: the fallback dump in device memory, every line of it written whole. What DUMP_DEV puts at or above the ceiling is not written
    (log 29). -/
def dumpToDevice (s : State) (dump : List Byte) : State :=
  let at0 := s.host.dumpDev.toNat
  let bytes := dump.take (s.ceil - at0)
  let apart := fun (l : Nat) => l < at0 / 128 || (at0 + bytes.length) / 128 ≤ l
  { s with pkg := { s.pkg with dumpAt := some at0 }, mem := Memory.writeBytes s.mem at0 bytes, stale := s.stale.filter (fun p => apart p.1), dirty := s.dirty.filter apart,
           poison := s.poison.filter apart, latent := s.latent.filter apart, correctable := s.correctable.filter apart }

/-- R57: a fatal error: FATAL is posted, the dump is written, and the clocks stop. -/
def fatalStop (s : State) (cause : Nat) : State :=
  if s.pkg.fatal.isSome then s
  else
    let dseq := if linkUp s then s.host.nextDseq else 0
    let s := if linkUp s then postEvent s 13 0 cause (dumpAddress s) else s
    let body := dumpSections s
    let bytes := dumpHeader s cause dseq body ++ body
    let s := { s with pkg := { s.pkg with fatal := some cause } }
    if dumpToHost s then { s with mem := Memory.writeBytes s.mem (2 ^ 51 + s.host.dumpBase.toNat) bytes }
    else if s.host.dumpDev ≠ 0 then dumpToDevice s bytes
    else s

/-! ### Reset and the boot stages (R32 to R34) -/

/-- R32: what a reset leaves: the management flash, the fuses, what DRAM and the rest of memory hold, and the other modules; the rest starts as
    State.reset says. CH_ACTIVE, LAYOUT_GEN and CH_FENCED come from the retirement record (R23). -/
def resetPart (s : State) : State :=
  let p := s.pkg
  { State.reset with
    mem := s.stale.foldl (fun m p => Memory.writeBytes m (p.1 * 128) p.2) s.mem, full := s.full.filter (fun x => !ownScratch s (4 * x)),
    syncs := s.syncs.filter (fun x => !ownScratch s x), cells := s.cells.filter (fun p => 2 ^ 50 ≤ p.1), poison := s.poison, latent := s.latent,
    correctable := s.correctable, peers := s.peers, news := s.news, free := s.free,
    pkg := { Package.reset with
      layoutGen := p.recGen, chActive := p.recActive, chFenced := p.recPending, dramCeil := BitVec.ofNat 64 (countChannels p.recActive * Config.channelBytes),
      recActive := p.recActive, recPending := p.recPending, recGen := p.recGen, imageA := p.imageA, imageB := p.imageB, sizeA := p.sizeA, sizeB := p.sizeB,
      down := p.down.filter (fun d => d.1 != s.modId), preferred := p.preferred, fusedMin := p.fusedMin } }

/-- R33: an image the boot ROM accepts. -/
def accepts (s : State) (image : List (Nat × Byte)) : Bool := Config.imageVerifies image && s.pkg.fusedMin ≤ Config.imageVersion image

/-- R34, R55: the slot the boot ROM starts from, false for A: the one whose update has been committed last while it is accepted, else A, else
    B. That it stays the first choice after one reset is the model's reading (DEDUCED, log 64). -/
def bootSlot (s : State) : Option Bool :=
  let good := fun (b : Bool) => accepts s (if b then s.pkg.imageB else s.pkg.imageA)
  (s.pkg.preferred.toList ++ [false, true]).find? good

/-- BOOT_STATUS set. -/
def bootTo (s : State) (st : Nat) : State := { s with pkg := { s.pkg with bootStatus := BitVec.ofNat 64 st } }

/-- R34: recovery mode: a plain PCIe endpoint. -/
def recoverAt (s : State) (st : Nat) : State := let s := bootTo s st; { s with host := { s.host with mode := 2 } }

/-- R32: 1 s in cycles (R2). -/
def domainWait : Nat := 1000000000

/-- R32: the present stage ends; none when the part is in no stage that ends by itself. -/
def endStage (s : State) (ok cxl : Bool) : Option State :=
  match s.pkg.bootStatus.toNat with
  | 1 => some (bootTo s (if ok then 2 else 0x81))
  | 2 =>
    (match (if ok then bootSlot s else none) with
      | none => some (recoverAt s 0x82)
      | some b => let s := bootTo s 3; some { s with pkg := { s.pkg with running := some b } })
  | 3 => some (bootTo s (if ok then 4 else 0x83))
  | 4 => some (if !ok || layoutLeft s 0 == 0 then recoverAt s 0x84 else bootTo (postLayout (relayout s 0)) 5)
  | 5 => some (bootTo s (if ok then 6 else 0x85))
  | 6 =>
    if s.host.mode ≠ 0 then none
    else if ok then some ({ s with host := { s.host with mode := if cxl then 1 else 2 } }.post domainWait (.domainWaitTimeout [none, none, none, none]))
    else some (bootTo s 0x86)
  | 7 => some (bootTo s (if ok then 8 else 0x87))
  | _ => none

/-- RESET (R32): power-on or reset. -/
def execReset (s : State) : Res := .next (resetPart s)

/-- BOOT_STAGE_DONE (R32): the present boot stage ends; nothing happens where none ends by itself. -/
def execBootStageDone (ok cxl : Bool) (s : State) : Res := .next ((endStage s ok cxl).getD s)

/-- R32: stage 0x07 against a DOMAIN value. -/
def startDomain (s : State) (v : Word) (peers : List (Option PeerInfo)) : State :=
  let s := { s with pkg := { s.pkg with domain := v &&& 0xF1F } }
  if domainOk v then trainPorts (bootTo s 7) peers else bootTo s 0x87

/-- DOMAIN_WRITE (R32): ignored but at BOOT_STATUS 0x06 and 0x87. -/
def execDomainWrite (v : Word) (peers : List (Option PeerInfo)) (s : State) : Res :=
  .next (if s.pkg.bootStatus = 6 ∨ s.pkg.bootStatus = 0x87 then startDomain s v peers else s)

/-- DOMAIN_WAIT_TIMEOUT (R32): no DOMAIN write came: a domain of one module. -/
def execDomainWaitTimeout (peers : List (Option PeerInfo)) (s : State) : Res :=
  .next (if s.pkg.bootStatus = 6 then startDomain s 1 peers else s)

/-! ### Links, refresh, temperature -/

/-- LOMUX_PORT_DOWN (R28): a port of this module, or of another on whose routes requests then fail. -/
def execLomuxPortDown (mod port : Nat) (s : State) : Res :=
  if port ≥ 4 || mod ≥ s.domSize || s.domSize ≤ 1 then .next s
  else if mod ≠ s.modId then .next { s with pkg := { s.pkg with down := if s.pkg.down.contains (mod, port) then s.pkg.down else (mod, port) :: s.pkg.down } }
  else if s.pkg.domain.getLsbD (16 + port) then
    .next (postEvent { s with pkg := { s.pkg with domain := s.pkg.domain &&& ~~~(BitVec.twoPow 64 (16 + port)) } } 11 port 0 0)
  else .next s

/-- ROUTE_ERROR (R28): a store of a unit that had left its core ends in an error, which the next fence or release
    reports. Loads and atomics end within their own steps. -/
def execRouteError (u : SlotRef) (va : Word) (s : State) : Res :=
  .next (if (s.strand u).st = .empty then s else deferErr s u Cause.storeFault va)

/-- LINK_LEVEL_RETRY (R23, R27): LINK_RETRY counts it, saturating. -/
def execLinkLevelRetry (port : Nat) (s : State) : Res :=
  let x := s.pkg.linkRetry
  let n := natBits x.toNat (16 * port + 15) (16 * port)
  .next (if port ≥ 4 ∨ n = 65535 then s else { s with pkg := { s.pkg with linkRetry := x + BitVec.twoPow 64 (16 * port) } })

/-- R16: a line of this module's device memory, or of another's. -/
def lineExists (s : State) (l : Nat) : Bool :=
  let (m, pa) := s.deviceOf (l * 128)
  m < s.domSize && (m != s.modId || l < ownLines) && pa < s.ceilOf m

/-- R17, R18: a line of this module read by the patrol scrub. -/
def scrubLine (s : State) (l : Nat) : State := if l * 128 < s.ceil then eccRead s l else s

/-- REFRESH (R17): refresh, with the lines that the patrol scrub reads in its window; before them, the lines in which a symbol has gone wrong since
    the last one (R18). -/
def execRefresh (found : Patrol) (s : State) : Res :=
  let s := { s with correctable := (found.weak.filter (lineExists s)).foldl setAdd s.correctable,
                    latent := (found.lost.filter (lineExists s)).foldl setAdd s.latent }
  .next (found.scrubbed.foldl scrubLine s)

/-- R31: what a sample of the sensors brings: a trip alone when one is reached, else a warning where a sensor has
    come to its threshold since the last sample. -/
def sampleHeat (s : State) (tlogic tdram : Byte) : State :=
  let old := s.pkg.thermStat
  let flags := natBits old.toNat 17 16
  let word := fun (f : Nat) => BitVec.ofNat 64 (tlogic.toNat + tdram.toNat * 2 ^ 8 + f * 2 ^ 16)
  let put := fun (f : Nat) => { s with pkg := { s.pkg with thermStat := word f } }
  let came := (tlogic.toNat ≥ 95 && natBits old.toNat 7 0 < 95) || (tdram.toNat ≥ 85 && natBits old.toNat 15 8 < 85)
  if tlogic.toNat ≥ 105 || tdram.toNat ≥ 95 then fatalStop (put (flags ||| 2)) 1
  else if came then
    let s := put (flags ||| 1)
    postEvent s 12 0 s.pkg.thermStat.toNat 0
  else put flags

/-- THERMAL_SAMPLE (R31). -/
def execThermalSample (tlogic tdram : Byte) (s : State) : Res := .next (sampleHeat s tlogic tdram)

/-- FW_ASSERT (R57). -/
def execFwAssert (s : State) : Res := .next (fatalStop s 2)

/-- INTERNAL_UE (R57). -/
def execInternalUe (s : State) : Res := .next (fatalStop s 3)

/-- DIE_LINK_FAILURE (R57). -/
def execDieLinkFailure (s : State) : Res := .next (fatalStop s 4)

end Sys2Proof.Machine
end

