-- ==== Sys2Proof/Machine/HostEv.lean ====
section
/-! DEFINITION. The host's registers, submission, the sillage window, reconcile slots and the management mailbox (R36, R43 to R56). -/

namespace Sys2Proof.Machine

open Sys2Proof

/-- R34: the part is in recovery mode. -/
def inRecovery (s : State) : Bool := s.pkg.bootStatus == 0x82 || s.pkg.bootStatus == 0x84

/-- HOST_CTL.OPEN. -/
def windowOpen (s : State) : Bool := s.host.ctl.getLsbD 0

/-! ### Submission (R43, R44) -/

/-- R44: the first reason to drop an ENQ write, none when it is accepted. -/
def enqReason (s : State) (whole : Bool) (data : BitVec 128) : Option Nat :=
  let x := data.toNat
  let hseq := natBits x 63 32
  let acc := s.host.hseqAccepted.toNat
  if !windowOpen s then some 1
  else if !whole || natBits x 127 122 != 0 || natBits x 69 64 != 0 then some 2
  else if (acc + 2 ^ 32 - hseq) % 2 ^ 32 < 2 ^ 31 then some 3
  else if hseq ≠ (acc + 1) % 2 ^ 32 then some 4
  else if ((s.sched.queues[natBits x 121 120]?).getD []).length ≥ 65536 then some 5
  else none

/-- R44: one ENQ write judged. -/
def submit (s : State) (whole : Bool) (data : BitVec 128) : State :=
  let x := data.toNat
  let q := natBits x 121 120
  let hseq := natBits x 63 32
  match enqReason s whole data with
  | some r =>
    let n := s.host.submitRejects
    postEvent { s with host := { s.host with submitRejects := if n = BitVec.allOnes 64 then n else n + 1 } } 4 q r (BitVec.ofNat 64 hseq)
  | none =>
    let s := { s with host := { s.host with hseqAccepted := BitVec.ofNat 32 hseq } }
    (pushEntry s q { key := BitVec.ofNat 32 x, payload := BitVec.ofNat 64 (natBits x 119 64) }).1.post 0 .jobPop

/-- ENQ (R44). In recovery mode BAR2 is not there (R34). -/
def execEnq (whole : Bool) (data : BitVec 128) (s : State) : Res := .next (if inRecovery s then s else submit s whole data)

/-! ### HOST_CTL and the sillage window (R49 to R52) -/

/-- R51: OPEN and CTXH written. -/
def openWrite (s : State) (v : Word) : State :=
  let on := v.getLsbD 0 && s.host.silBase != 0
  let ctl : Word := (v &&& 0xFFFF00000000) ||| boolWord on
  releaseBacklog { s with host := { s.host with ctl, opened := s.host.opened || on } }

/-- A reconcile command that has not performed: its slot is busy. -/
def slotBusy (s : State) (slot : Nat) : Bool := ((mapGet s.host.slots slot).map (fun r => r.stat.getLsbD 0)).getD false

/-- R52: the step of a reconcile command that is still to perform. -/
def pendingReconcile (s : State) (i : Instr) : Bool :=
  match i with
  | .reconcileCount n _ => slotBusy s n
  | .reconcileBlend n _ => slotBusy s n
  | .reconcileRead n _ => slotBusy s n
  | _ => false

/-- R52: commands not yet performed end CANCELLED. -/
def cancelSlots (s : State) : State :=
  let agenda := s.agenda.filter (fun p => !pendingReconcile s p.2)
  { s with agenda, host := { s.host with slots := s.host.slots.map (fun p => if p.2.stat.getLsbD 0 then (p.1, { p.2 with stat := 0x70 }) else p) } }

/-- R52: REATTACH, its four steps as one. -/
def reattach (s : State) (v : Word) : State :=
  let h := s.host
  let s := cancelSlots { s with host := { h with ctl := v &&& 0xFFFF00000000, incarnation := h.incarnation + 1 } }
  postEvent s 16 0 s.host.incarnation.toNat (s.host.hseqAccepted.setWidth 64)

/-- R51, R52: a write of HOST_CTL. -/
def hostCtlWrite (s : State) (v : Word) : State :=
  if inRecovery s then s else if v.getLsbD 1 then reattach s v else openWrite s v

/-- OPEN (R51). -/
def execOpenWindow (v : Word) (s : State) : Res := .next (hostCtlWrite s v)

/-- REATTACH (R52). -/
def execReattach (v : Word) (s : State) : Res := .next (hostCtlWrite s (v ||| 2))

/-- R50: a write of HOST_ACK_DSEQ. -/
def ackWrite (s : State) (v : Word) : State :=
  if inRecovery s then s
  else if s.host.hostAck.toNat ≤ v.toNat ∧ v.toNat ≤ s.host.dseqPosted.toNat then releaseBacklog { s with host := { s.host with hostAck := v } }
  else { s with host := { s.host with ackerr := true } }

/-- HOST_ACK_DSEQ (R50). -/
def execHostAckDseq (v : Word) (s : State) : Res := .next (ackWrite s v)

/-- MSIX_MODERATION_EXPIRY (R50): something may still be unread: vector 0 is raised, or comes again when the interval of now has passed. In the
    fatal state, where GTIME stands still, it comes in its order (log 27). -/
def execMsixModerationExpiry (s : State) : Res :=
  .next (if s.pkg.fatal.isSome && s.host.hostAck.toNat < s.host.dseqPosted.toNat then raiseNow s else raiseMsix s)

/-! ### Reconcile slots (R54) -/

/-- A slot that nothing has written. -/
def RecSlot.blank : RecSlot := { cell := 0, value := 0, cmd := 0, stat := 0, result := 0, dot := 0 }

/-- The slot with an index. -/
def slotAt (s : State) (slot : Nat) : RecSlot := (mapGet s.host.slots slot).getD .blank

/-- The state with a slot replaced. -/
def setSlot (s : State) (slot : Nat) (r : RecSlot) : State := { s with host := { s.host with slots := mapSet s.host.slots slot r } }

/-- R54: STAT of an ended command. -/
def recStat (code count : Nat) : Word := BitVec.ofNat 64 (code * 16 + count % 8 * 256)

/-- R54: a command ends with a code and a sibling count. -/
def endSlot (s : State) (slot : Nat) (r : RecSlot) (code count : Nat) : State := setSlot s slot { r with stat := recStat code count }

/-- R54: a command performed at its home, with what its kind does to the cell and the slot. The home reads the cell's line, and what is
    uncorrectable there is detected (R18); STAT has no code for it, and the command acts on the cell as it stands (DESIGN CHOICE, log 74). -/
def reconcile (s : State) (slot : Nat) (cmd : Word) (act : State → RecSlot → Nat → AccCell → State) : State :=
  let r := { slotAt s slot with cmd := cmd &&& 0xFF }
  let pa := r.cell.toNat
  if natBits cmd.toNat 3 0 ≥ 12 then endSlot s slot r 4 0
  else if pa % 8 ≠ 0 then endSlot s slot r 3 0
  else if pa ≥ s.ceil then endSlot s slot r 2 0
  else if (s.accordCell pa).isNone then endSlot s slot r 1 0
  else act (readHome s (.device s.modId pa) 8 .cached).1 r pa (s.cellAt pa)

/-- R54: FROZEN, or OK. -/
def frozenCode (c : AccCell) : Nat := if c.frozen then 5 else 0

/-- R54: COUNT. -/
def recCount (slot : Nat) (s : State) (r : RecSlot) (_ : Nat) (c : AccCell) : State :=
  endSlot s slot { r with result := c.primary, dot := (c.sibs.getLast?.map (·.dot)).getD 0 } (frozenCode c) c.sibs.length

/-- R54: READ. -/
def recRead (slot : Nat) (s : State) (r : RecSlot) (_ : Nat) (c : AccCell) : State :=
  match c.sibs[natBits r.cmd.toNat 7 6]? with
  | some x => endSlot s slot { r with result := x.val, dot := x.dot } (frozenCode c) c.sibs.length
  | none => endSlot s slot r 6 c.sibs.length

/-- R54: BLEND, as a strand's with the slot's host agent; it waits while the host holds the cell's line (R38). -/
def recBlend (slot : Nat) (s : State) (r : RecSlot) (pa : Nat) (c : AccCell) : State :=
  unlessHeld s pa 8 (.reconcileBlend slot r.cmd) (fun s => match accordBlend c (natBits r.cmd.toNat 3 0) r.value (agentBits s (3840 + slot)) false [] with
  | (c', .error _) => endSlot { s with cells := if c'.frozen then mapSet s.cells pa c' else s.cells } slot r 5 c.sibs.length
  | (c', .ok (y, d)) => endSlot (setCell s pa c') slot { r with result := y, dot := d.getD 0 } 0 c'.sibs.length)

/-- RECONCILE_COUNT (R54). -/
def execReconcileCount (slot : Nat) (cmd : Word) (s : State) : Res :=
  .next (if slot < 256 then reconcile s slot cmd (recCount slot) else s)

/-- RECONCILE_BLEND (R54). -/
def execReconcileBlend (slot : Nat) (cmd : Word) (s : State) : Res :=
  .next (if slot < 256 then reconcile s slot cmd (recBlend slot) else s)

/-- RECONCILE_READ (R54). -/
def execReconcileRead (slot : Nat) (cmd : Word) (s : State) : Res :=
  .next (if slot < 256 then reconcile s slot cmd (recRead slot) else s)

/-- R54: a write of CMD starts the command, unless one is busy. -/
def cmdWrite (s : State) (slot : Nat) (v : Word) : State :=
  if slotBusy s slot then s
  else
    let r := { slotAt s slot with cmd := v &&& 0xFF }
    let start := fun (i : Instr) => (setSlot s slot { r with stat := 1 }).post 1 i
    match natBits v.toNat 5 4 with
    | 0 => start (.reconcileCount slot v)
    | 1 => start (.reconcileBlend slot v)
    | 2 => start (.reconcileRead slot v)
    | _ => endSlot s slot r 4 0

/-- R54: a write of a reconcile-slot register. One of CELL or VALUE while BUSY = 1 takes effect, and a command in progress reads its operands when it
    performs: R54 speaks only of a write of CMD (DESIGN CHOICE, log 82). -/
def slotWrite (s : State) (off : Nat) (v : Word) : State :=
  let slot := (off - 0x10000) / 64
  let r := slotAt s slot
  match off % 64 with
  | 0x00 => setSlot s slot { r with cell := v }
  | 0x08 => setSlot s slot { r with value := v }
  | 0x10 => cmdWrite s slot v
  | _ => s

/-! ### The management mailbox (R20, R33, R55, R56) -/

/-- A command ends: BUSY clears and the status stands. -/
def mbDone (s : State) (status : Nat) : State := { s with host := { s.host with mbStat := BitVec.ofNat 64 (status * 256) } }

/-- MB_DATA byte. -/
def mbByte (s : State) (i : Nat) : Byte := (mapGet s.host.mbData i).getD 0

/-- MB_DATA as bytes from its start. -/
def mbBytes (s : State) (n : Nat) : List Byte := (List.range n).map (mbByte s)

/-- MB_DATA with bytes put from its start. -/
def mbPut (s : State) (bs : List Byte) : State :=
  { s with host := { s.host with mbData := (bs.zipIdx).foldl (fun m p => mapSet m p.2 p.1) s.host.mbData } }

/-- R34, R55: a command that recovery mode does not serve. -/
def mbServed (s : State) (f : State → State) : Res := .next (if inRecovery s then mbDone s 2 else f s)

/-- R20: a unit, bank command or copy is resident. -/
def workResident (s : State) : Bool :=
  s.allStrands.any (fun p => p.2.st != .empty) || s.cmds.any (fun c => c.st != .complete) || s.cores.any (fun p => p.2.copies.toList.any (·.isSome))

/-- R20, R22, R55: a host-requested layout change. In the fatal state, where no layout can be built, it is refused as BUSY (DESIGN CHOICE,
    log 63). -/
def layoutChange (s : State) (peers : List (Option PeerInfo)) : State :=
  let asked : BitVec 512 := BitVec.ofNat 512 (natOfBytes (mbBytes s 64))
  if s.pkg.fatal.isSome || workResident s then mbDone s 1
  else if layoutLeft s asked = 0 then mbDone s 2
  else mbDone (postLayout (trainPorts (relayout s asked) peers)) 0

/-- LAYOUT_CHANGE (R20). -/
def execLayoutChange (peers : List (Option PeerInfo)) (s : State) : Res := mbServed s (fun s => layoutChange s peers)

/-- R55: the slot a firmware update writes. -/
def updateSlot (s : State) : Bool := match s.pkg.running with
  | some b => !b
  | none => s.host.mbArg1.getLsbD 0

/-- An image slot. -/
def imageOf (s : State) (slot : Bool) : List (Nat × Byte) := if slot then s.pkg.imageB else s.pkg.imageA

/-- The state with an image slot replaced. -/
def setImage (s : State) (slot : Bool) (m : List (Nat × Byte)) : State :=
  { s with pkg := if slot then { s.pkg with imageB := m } else { s.pkg with imageA := m } }

/-- R55: bytes of the largest image. -/
def imageLimit : Nat := 0x1000000

/-- R55: FW_BEGIN. -/
def fwBegin (s : State) : State :=
  if s.host.mbArg0.toNat > imageLimit then mbDone s 2
  else
    let slot := updateSlot s
    let s := setImage s slot []
    let size := s.host.mbArg0.toNat
    mbDone { s with pkg := if slot then { s.pkg with writing := some slot, sizeB := size } else { s.pkg with writing := some slot, sizeA := size } } 0

/-- FW_BEGIN (R55). -/
def execFwBegin (s : State) : Res := .next (fwBegin s)

/-- R55: the size that the last FW_BEGIN stated for a slot. -/
def imageSize (s : State) (slot : Bool) : Nat := if slot then s.pkg.sizeB else s.pkg.sizeA

/-- R55: FW_CHUNK: the image's bytes of 4 KiB, up to its size. One with no FW_BEGIN before it, and one that begins at or past the size FW_BEGIN stated, are BAD_ARG: R55 is silent on
    both (DESIGN CHOICE, log 63). -/
def fwChunk (s : State) : State :=
  let off := s.host.mbArg0.toNat
  match s.pkg.writing with
  | none => mbDone s 2
  | some slot =>
    if off % 4096 ≠ 0 ∨ imageSize s slot ≤ off then mbDone s 2
    else mbDone (setImage s slot (((mbBytes s 4096).take (imageSize s slot - off)).zipIdx.foldl (fun m p => mapSet m (off + p.2) p.1) (imageOf s slot))) 0

/-- FW_CHUNK (R55). -/
def execFwChunk (s : State) : Res := .next (fwChunk s)

/-- R33, R34, R55: FW_COMMIT: a slot that passes is the one the next reset boots from. With no FW_BEGIN before it, BAD_ARG: R55 is silent
    (DESIGN CHOICE, log 63). -/
def fwCommit (s : State) : State :=
  match s.pkg.writing with
  | none => mbDone s 2
  | some slot =>
    let image := imageOf s slot
    let good := accepts s image
    let status := if good then 0 else 3
    let s := if good then { s with pkg := { s.pkg with preferred := some slot } } else s
    mbDone (postEvent s 15 (if slot then 1 else 0) status (BitVec.ofNat 64 (Config.imageVersion image))) status

/-- FW_COMMIT (R55). -/
def execFwCommit (s : State) : Res := .next (fwCommit s)

/-- R55, R56: a slot's image as bytes, of the size that FW_BEGIN stated. -/
def imageBytes (s : State) (slot : Bool) : List Byte := (List.range (imageSize s slot)).map (fun i => (mapGet (imageOf s slot) i).getD 0)

/-- R56: the signed part of a report. -/
def reportBody (s : State) : List Byte :=
  let slot := s.pkg.running.getD false
  let image := imageOf s slot
  [0x4B, 0x57, 0x41, 0x54] ++ bytesOfNat 2 1 ++ bytesOfNat 2 0 ++ bytesOfNat 8 (pkgId s).toNat ++ (List.range 16).map (Config.partByte 0)
  ++ bytesOfNat 4 s.pkg.fusedMin ++ bytesOfNat 4 (Config.imageVersion image) ++ bytesOfNat 2 s.pkg.layoutGen.toNat
  ++ bytesOfNat 1 (if slot then 1 else 0) ++ bytesOfNat 5 0 ++ sha384 (imageBytes s slot)
  ++ sha384 (bytesOfNat 64 s.pkg.chActive.toNat) ++ mbBytes s 32 ++ bytesOfNat 8 s.gtime.toNat ++ bytesOfNat 8 0

/-- R56: a report with both signatures. -/
def reportBytes (s : State) : List Byte :=
  let b := reportBody s
  b ++ (List.range 384).map (Config.signature 0 b) ++ (List.range 16224).map (Config.signature 1 b)

/-- ATTEST (R56). -/
def execAttest (s : State) : Res := mbServed s (fun s => mbDone { s with host := { s.host with report := reportBytes s } } 0)

/-- ATTEST_READ (R55). -/
def execAttestRead (s : State) : Res :=
  mbServed s (fun s =>
    let off := s.host.mbArg0.toNat
    if off % 4096 ≠ 0 ∨ s.host.report.length ≤ off then mbDone s 2 else mbDone (mbPut s ((s.host.report.drop off).take 4096)) 0)

/-- R55: CERT_READ. An ARG0 above 1 names no chain and is BAD_ARG, and an offset at or past the chain's end answers OK and copies nothing: R55 is
    silent (DESIGN CHOICE, log 63). -/
def certRead (s : State) : State :=
  let chain := s.host.mbArg0.toNat
  let off := s.host.mbArg1.toNat
  if chain > 1 then mbDone s 2
  else
    let n := Config.certLength chain
    let s := mbPut s ((List.range (min 4096 (n - off))).map (fun i => Config.partByte (1 + chain) (off + i)))
    mbDone { s with host := { s.host with mbArg0 := BitVec.ofNat 64 n } } 0

/-- CERT_READ (R55). -/
def execCertRead (s : State) : Res := mbServed s certRead

/-- DUMP_NOW (R57). -/
def execDumpNow (s : State) : Res := mbServed s (fun s => mbDone (fatalStop s 5) 0)

/-- R55: DUMP_READ, from the region that the fallback dump was written to at the stop. An offset past its end, or to bytes that the ceiling kept
    from being written, is BAD_ARG (log 29). -/
def dumpRead (s : State) : State :=
  let off := s.host.mbArg0.toNat
  if s.pkg.fatal.isNone then mbDone s 4
  else
    match s.pkg.dumpAt with
    | none => mbDone s 2
    | some at0 =>
      let n := min 4096 (min dumpSizeBytes (s.ceil - at0) - off)
      if n = 0 then mbDone s 2 else mbDone (mbPut s (Memory.readBytes s.mem (at0 + off) n)) 0

/-- DUMP_READ (R55). -/
def execDumpRead (s : State) : Res := mbServed s dumpRead

/-- R55: the step of a command byte. With no training results given, no peer answers. -/
def mbStep (code : Nat) : Option Instr :=
  match code with
  | 0x01 => some (.layoutChange [none, none, none, none])
  | 0x10 => some .fwBegin
  | 0x11 => some .fwChunk
  | 0x12 => some .fwCommit
  | 0x20 => some .attest
  | 0x21 => some .attestRead
  | 0x22 => some .certRead
  | 0x30 => some .dumpNow
  | 0x31 => some .dumpRead
  | _ => none

/-- R55: a write of MB_CMD starts a command, unless one is busy. A code that the table does not list is BAD_ARG: R55 is silent (DESIGN CHOICE,
    log 63). -/
def mbCmdWrite (s : State) (v : Word) : State :=
  if s.host.mbStat.getLsbD 0 then s
  else
    let s := { s with host := { s.host with mbCmd := v &&& 0xFF } }
    match mbStep (v.toNat % 256) with
    | some i => { s with host := { s.host with mbStat := 1 } }.post 0 i
    | none => mbDone s 2

/-! ### Registers (R23, R36, R51) -/

/-- R35, R41: the offset by which a register write reaches Device Control 2 in configuration space, past BAR0 and BAR2 (log 65). -/
def devControl2 : Nat := 0x20000

/-- R36: a write of a register; offsets from 0x1_0000 are those of BAR2's slots. SIL_BASE and SIL_SIZE are locked while the window is open.
    Bit 6 of Device Control 2 is AtomicOp Requester Enable (PRESUMED, log 65). -/
def regWrite (s : State) (off : Nat) (v : Word) : State :=
  let h := s.host
  let put := fun (h : HostPort) => if inRecovery s then s else { s with host := h }
  match off with
  | 0x00C8 => if s.pkg.bootStatus = 6 ∨ s.pkg.bootStatus = 0x87 then startDomain s v [] else s
  | 0x1000 => hostCtlWrite s v
  | 0x1020 => if windowOpen s then s else put { h with silBase := v &&& ~~~(0xFFF : Word) }
  | 0x1028 => if windowOpen s then s else put { h with silSize := if 8 ≤ v.toNat ∧ v.toNat ≤ 20 then v else 8 }
  | 0x1038 => ackWrite s v
  | 0x1048 => put { h with silMod := v &&& 0xFFFF }
  | 0x1050 => put { h with dumpBase := v &&& ~~~(0xFFF : Word) }
  | 0x1058 => put { h with dumpSize := v }
  | 0x1060 => put { h with dumpDev := v &&& ~~~(0xFFF : Word) }
  | 0x2000 => mbCmdWrite s v
  | 0x2010 => { s with host := { h with mbArg0 := v } }
  | 0x2018 => { s with host := { h with mbArg1 := v } }
  | _ =>
    if 0x3000 ≤ off ∧ off + 8 ≤ 0x4000 then
      { s with host := { h with mbData := ((bytesOfNat 8 v.toNat).zipIdx).foldl (fun m p => mapSet m (off - 0x3000 + p.2) p.1) h.mbData } }
    else if 0x10000 ≤ off ∧ off < 0x14000 then (if inRecovery s then s else slotWrite s off v)
    else if off = devControl2 then { s with host := { h with atomicEnable := v.getLsbD 6 } }
    else s

/-- REGISTER_WRITE (R51). -/
def execRegisterWrite (off : Nat) (v : Word) (s : State) : Res := .next (regWrite s off v)

/-- R51: HOST_STAT. -/
def hostStat (s : State) : Word :=
  BitVec.ofNat 64 (s.host.mode + (if windowOpen s then 4 else 0) + (if s.host.ackerr then 16 else 0) + s.host.incarnation.toNat * 256)

/-- R23, R51, R54, R55: the value a register reads. -/
def regRead (s : State) (off : Nat) : Word :=
  let h := s.host
  match off with
  | 0x0000 => pkgId s
  | 0x0008 => s.pkg.bootStatus
  | 0x0010 => s.pkg.layoutGen.setWidth 64
  | 0x0018 => s.pkg.dramCeil
  | 0x00C0 => s.pkg.thermStat
  | 0x00C8 => s.pkg.domain
  | 0x00D0 => s.pkg.linkRetry
  | 0x1000 => h.ctl
  | 0x1008 => hostStat s
  | 0x1010 => h.hseqAccepted.setWidth 64
  | 0x1018 => h.submitRejects
  | 0x1020 => h.silBase
  | 0x1028 => h.silSize
  | 0x1030 => h.dseqPosted
  | 0x1038 => h.hostAck
  | 0x1040 => h.silLost
  | 0x1048 => h.silMod
  | 0x1050 => h.dumpBase
  | 0x1058 => h.dumpSize
  | 0x1060 => h.dumpDev
  | 0x2000 => h.mbCmd
  | 0x2008 => h.mbStat
  | 0x2010 => h.mbArg0
  | 0x2018 => h.mbArg1
  | _ =>
    if 0x0040 ≤ off ∧ off < 0x0080 then BitVec.ofNat 64 (s.pkg.chActive.toNat / 2 ^ (8 * (off - 0x40)))
    else if 0x0080 ≤ off ∧ off < 0x00C0 then BitVec.ofNat 64 (s.pkg.chFenced.toNat / 2 ^ (8 * (off - 0x80)))
    else if 0x3000 ≤ off ∧ off + 8 ≤ 0x4000 then BitVec.ofNat 64 (natOfBytes ((List.range 8).map (fun i => mbByte s (off - 0x3000 + i))))
    else if 0x10000 ≤ off ∧ off < 0x14000 ∧ !inRecovery s then
      let r := slotAt s ((off - 0x10000) / 64)
      match off % 64 with
      | 0x00 => r.cell
      | 0x08 => r.value
      | 0x10 => r.cmd
      | 0x18 => r.stat
      | 0x20 => r.result
      | 0x28 => r.dot
      | _ => 0
    else if off = devControl2 ∧ h.atomicEnable = true then 0x40
    else 0

/-- R51: what a read of a register clears. -/
def clearRead (s : State) (off : Nat) : State :=
  match off with
  | 0x00C0 => { s with pkg := { s.pkg with thermStat := s.pkg.thermStat &&& ~~~(0x10000 : Word) } }
  | 0x00D0 => { s with pkg := { s.pkg with linkRetry := 0 } }
  | 0x1008 => { s with host := { s.host with ackerr := false } }
  | 0x1018 => { s with host := { s.host with submitRejects := 0 } }
  | _ => s

/-- CLEAR_ON_READ (R51): the value goes to the host and is cleared. -/
def execClearOnRead (off : Nat) (s : State) : Res :=
  .next (clearRead { s with host := { s.host with response := bytesOfNat 8 (regRead s off).toNat, responsePoison := false } } off)

end Sys2Proof.Machine
end

