-- ==== Sys2Proof/Machine/HostMem.lean ====
section
/-! DEFINITION. Device memory seen by the host and host memory seen by the device, as steps of their own (R35 to R42). -/

namespace Sys2Proof.Machine

open Sys2Proof

/-! ### Host reads and writes of device memory -/

/-- A host access in CXL mode. -/
def inCxl (s : State) : Bool := s.host.mode == 1

/-- A host access through BAR4, which recovery mode does not expose (R34, R36). -/
def hasBar4 (s : State) : Bool := s.host.mode == 2 && !inRecovery s

/-- R18, R39: bytes read for the host: primary siblings in accord objects, poison with poisoned lines. -/
def hostRead (s : State) (pa n : Nat) : State :=
  let (s, bs, bad) := (piecesOf pa n).foldl (fun (s, bs, bad) x =>
    let p : Place := .device s.modId (pa + x.1)
    let (s, b) := readHome s p x.2 .cached
    (s, bs ++ b, bad || poisoned s p)) (s, ([] : List Byte), false)
  { s with host := { s.host with response := bs, responsePoison := bad } }

/-- A host read that is answered with no data: an Unsupported Request (R36), or the ACCESS of a CXL.mem request (R16, log 66). -/
def hostRefused (s : State) : State := { s with host := { s.host with response := [], responsePoison := false } }

/-- R39: a line of an accord object. -/
def inAccord (s : State) (pa : Nat) : Bool := match s.objOfLine (pa / 128) with
  | some (_, o) => o.mode == .accord
  | none => false

/-- R39: a host write of a whole cell: a sibling of host agent 3,839 with the empty observed set, or a drop. -/
def hostCell (s : State) (pa : Nat) (o : Obj) (v : Nat) : State :=
  match storeCell s pa o (BitVec.ofNat 64 v) [] (agentBits s 3839) with
  | (s, .ok _ _) => s
  | (s, .bad c) => postEvent s 18 0 c (BitVec.ofNat 64 pa)

/-- Enabled bytes of a doubleword written as plain memory. -/
def hostBytes (s : State) (pa : Nat) : List (Option Byte) → State
  | [] => s
  | none :: l => hostBytes s (pa + 1) l
  | some b :: l => hostBytes (writeHome s (.device s.modId pa) [b] .cached) (pa + 1) l

/-- R39: the part of a host write within one doubleword. -/
def hostDouble (s : State) (pa : Nat) (l : List (Option Byte)) : State :=
  let cell := pa / 8 * 8
  match s.accordCell cell with
  | none => hostBytes s pa l
  | some o =>
    if l.all (·.isNone) then s
    else if l.length = 8 ∧ l.all (·.isSome) then hostCell s cell o (natOfBytes (l.map (·.getD 0)))
    else postEvent s 17 0 0 (BitVec.ofNat 64 cell)

/-- The doublewords of a host write; `fuel` bounds them. -/
def hostDoubles : Nat → State → Nat → List (Option Byte) → State
  | 0, s, _, _ => s
  | k + 1, s, pa, l =>
    if l.isEmpty then s
    else
      let n := 8 - pa % 8
      hostDoubles k (hostDouble s pa (l.take n)) (pa + n) (l.drop n)

/-- R18, R39, R109, R123: a host write of enabled bytes; one of whole lines that hold no cell stores them whole. What it brings about at the
    ports of stashed lines comes once its bytes are there. The host keeps what it may hold (R38). -/
def hostWrite (s : State) (pa : Nat) (l : List (Option Byte)) : State :=
  let kept := s.snoop
  let s := { s with snoop := [] }
  let whole := pa % 128 = 0 && l.length % 128 = 0 && l.all (·.isSome)
    && (List.range (l.length / 128)).all (fun i => !inAccord s (pa + 128 * i))
  let s :=
    if whole then (List.range (l.length / 128)).foldl (fun s i =>
      writeHome s (.device s.modId (pa + 128 * i)) (((l.drop (128 * i)).take 128).map (·.getD 0)) .cached) s
    else hostDoubles (l.length / 8 + 2) s pa l
  let s := (piecesOf pa l.length).foldl (fun s x => storedAt s (.device s.modId (pa + x.1)) x.2) s
  { s with snoop := kept }

/-- R38: the entry that leaves before a line is allocated in the full filter of its slice: the least recently allocated of those that no held
    read has asked for. -/
def snoopVictim (s : State) (line : Nat) : Option Nat :=
  let mine := s.snoop.filter (fun l => l % 128 == line % 128)
  if s.snoop.contains line || mine.length < 16384 then none else (mine.filter (fun l => !s.heldReads.any (fun h => h.line == l))).getLast?

/-- R38, R39: a host read through CXL.mem. It allocates a filter entry, but for a line of an accord object; in a full filter it is held until
    the line that leaves has come back. -/
def cxlRead (s : State) (pa n : Nat) : State :=
  let line := pa / 128
  if inAccord s pa then hostRead s pa n
  else
    match snoopVictim s line with
    | some v => { askHost s [v] with heldReads := s.heldReads ++ [{ pa, n, line := v }] }
    | none =>
      let s := hostRead s pa n
      if s.snoop.contains line then s else { s with snoop := line :: s.snoop }

/-- R16: a CXL.mem request within the HDM range, or nothing: there is no CXL.mem outside CXL mode (R35). -/
def cxlWrite (s : State) (pa : Nat) (l : List (Option Byte)) : State := if inCxl s && decide (pa + l.length ≤ s.ceil) then hostWrite s pa l else s

/-- CXL_MEM_READ (R38, R39). -/
def execCxlMemRead (pa n : Nat) (s : State) : Res :=
  .next (if !inCxl s then s else if pa + n > s.ceil then hostRefused s else cxlRead s pa n)

/-- MEMWR (R39). -/
def execMemwr (pa : Nat) (data : List Byte) (s : State) : Res := .next (cxlWrite s pa (data.map some))

/-- MEMWRPTL (R39). -/
def execMemwrptl (pa : Nat) (data : List (Option Byte)) (s : State) : Res := .next (cxlWrite s pa data)

/-- BAR4_READ (R36, R39): at or above the ceiling no data comes back (Unsupported Request). -/
def execBar4Read (pa n : Nat) (s : State) : Res :=
  .next (if !hasBar4 s then s else if pa + n > s.ceil then hostRefused s else hostRead s pa n)

/-- BAR4_WRITE (R36, R39). -/
def execBar4Write (pa : Nat) (data : List (Option Byte)) (s : State) : Res :=
  .next (if hasBar4 s && decide (pa + data.length ≤ s.ceil) then hostWrite s pa data else s)

/-- R38: the data that comes back with the host's answer about a line, taken into memory. -/
def takeBack (s : State) (pa : Nat) (data : List Byte) : State :=
  if data.isEmpty then s else hostWrite s pa ((data.take (128 - pa % 128)).map some)

/-- R38: the writes that waited at a home for the host's answer about a line perform, in their order. -/
def putHeld (s : State) (line : Nat) : State :=
  let mine := s.homeWrites.filter (fun w => w.pa / 128 == line)
  mine.foldl (fun s w => putNow s w.pa w.bytes w.use) { s with homeWrites := s.homeWrites.filter (fun w => w.pa / 128 != line) }

/-- R38, R163: the host has answered about a line: what waited for it goes on, and the line goes down to DRAM for a bank command that takes it. After BISnpInv the host holds it no more; after BISnpData alone it may
    still hold a copy. -/
def answered (s : State) (line : Nat) : State :=
  let s := if setHas s.snoopInv line then putHeld (dropSnoop s line) line else s
  let s := if s.cmds.any (fun c => c.take.contains line) then cleanLine s line else s
  let held := s.heldReads.filter (fun h => h.line == line)
  let s := { s with heldReads := s.heldReads.filter (fun h => h.line != line), cmds := s.cmds.map (fun c => { c with take := c.take.filter (· != line) }) }
  held.foldl (fun s h => cxlRead s h.pa h.n) s

/-- BIRSP (R38): the host's answer about a line, with its data when the host held it dirty. Data of a line that the filter does not hold
    changes nothing. -/
def execBirsp (pa : Nat) (data : List Byte) (s : State) : Res :=
  .next (if inCxl s then answered (if s.snoop.contains (pa / 128) then takeBack s pa data else s) (pa / 128) else s)

/-! ### Host lines (R40 to R42) -/

/-- The bytes of a 64-byte host line. -/
def hostLineBytes (s : State) (ha : Nat) : List Byte := Memory.readBytes s.mem ((Place.host (ha / 64 * 64)).loc s.modId) 64

/-- R40: a snoop: data back when the line is M, and the state after. -/
def snoopHost (s : State) (ha : Nat) (after : Mesi → Option Mesi) : Res :=
  if !inCxl s then .next s
  else
    let i := ha / 64
    let st := hostState s.hostLines i
    let bs := if st = some .modified then hostLineBytes s ha else []
    let s := { s with host := { s.host with response := bs, responsePoison := false } }
    .next (match st with
      | none => s
      | some m => if after m = some m then s else { s with hostLines := setHostLine s.hostLines i (after m) })

/-- SNPINV (R40). -/
def execSnpinv (ha : Nat) (s : State) : Res := snoopHost s ha (fun _ => none)

/-- SNPDATA (R40). -/
def execSnpdata (ha : Nat) (s : State) : Res := snoopHost s ha (fun _ => some .shared)

/-- SNPCUR (R40). -/
def execSnpcur (ha : Nat) (s : State) : Res := snoopHost s ha some

/-- Bytes of host memory that the host sends. -/
def hostSends (s : State) (ha : Nat) (data : List Byte) : State :=
  { s with mem := Memory.writeBytes s.mem ((Place.host ha).loc s.modId) data }

/-- HOST_LINE_RESPONSE (R40): the line's bytes and its state, E where the host grants it; a line the cache holds M has
    no request outstanding. -/
def execHostLineResponse (ha : Nat) (exclusive : Bool) (data : List Byte) (s : State) : Res :=
  if !inCxl s then .next s
  else
    let i := ha / 64
    match hostState s.hostLines i with
    | some .modified => .next s
    | _ => .next { hostSends s (i * 64) (data.take 64) with hostLines := setHostLine s.hostLines i (some (if exclusive then .exclusive else .shared)) }

/-- HOST_READ_COMPLETION (R42): host data for a device load in the fallback. -/
def execHostReadCompletion (ha : Nat) (data : List Byte) (s : State) : Res :=
  .next (if s.host.mode = 2 then hostSends s ha data else s)

/-- ATOMICOP_COMPLETION (R41): the old value at the host's completer; with none, the completer refuses AtomicOps there
    and the instruction takes ACCESS. -/
def execAtomicopCompletion (ha : Nat) (data : List Byte) (s : State) : Res :=
  if s.host.mode = 0 then .next s
  else
    let h := s.host
    if data.isEmpty then .next { s with host := { h with atomicRefused := setAdd h.atomicRefused ha } }
    else .next (hostSends { s with host := { h with atomicRefused := setDel h.atomicRefused ha } } ha data)

/-- R42, R46: the zero-length read behind the stores that ended units of the jobs left has been answered: jobs that waited for it complete. -/
def jobsArrived (s : State) : State :=
  let mine := s.sched.jobs.filter (·.hostStores)
  mine.foldl (fun s j => s.post 0 (.jobComplete j.id))
    { s with sched := { s.sched with jobs := s.sched.jobs.map (fun j => { j with hostStores := false }) } }

/-- R42: a unit's earlier host stores have arrived: a release or fence that made the read goes on, and the counts that waited for one are made. -/
def storesArrived (s : State) (u : SlotRef) : State :=
  let t := s.strand u
  let s := if t.st = .empty then s else s.setStrand u { t with hostStores := false, zeroRead := if t.zeroRead = .sent then .answered else t.zeroRead }
  settleSyncs { s with lateSyncs := s.lateSyncs.map (fun x => if x.read = some u then { x with read := none } else x) }

/-- ZERO_LENGTH_READ_COMPLETION (R42): the read of a unit, or, under core number 255, the one that the scheduler makes for the jobs (log 77). -/
def execZeroLengthReadCompletion (u : SlotRef) (s : State) : Res :=
  .next (if s.host.mode ≠ 2 then s else if u.core = 255 then jobsArrived s else storesArrived s u)

end Sys2Proof.Machine
end

