-- ==== Sys2Proof/Machine/Fabric.lean ====
section
/-! DEFINITION. Accesses as they perform at homes, ports and walkers, as steps of their own (R99, R107, R118, R119, R135, R138, R145, R155, R327). -/

namespace Sys2Proof.Machine

open Sys2Proof

/-- A core or conductor of the part (R3). -/
def agentCore (core : Nat) : Bool := core < 144

/-- A step of an agent that is there, and nothing otherwise: a name or an address that the part does not have is no event of its
    (log 50). -/
def whenThere (there : Bool) (s : State) (f : State → State) : Res := .next (if there then f s else s)

/-- A plain target in this module's memory. -/
def plainTarget (s : State) (pa : Nat) : Target := { place := .device s.modId pa, nc := false, window := false }

/-- A range of device memory of this module. -/
def inDram (s : State) (pa n : Nat) : Bool := n ≠ 0 && pa + n ≤ s.ceil

/-- R118: the line of an L1 miss read at its home, with a lease where the object gives one. -/
def homeLine (s : State) (core pa : Nat) : State :=
  let line := pa / 128
  let g := plainTarget s (line * 128)
  let (s, data) := readHome s g.place 128 .cached
  if poisoned s g.place then s
  else
    match leaseable s g with
    | none => s
    | some (obj, lease) =>
      let e := s.now + lease
      let key := leaseKey obj s.modId s.modId line
      let s := { s with expiry := mapSet s.expiry key (max e (s.expiryOf key)) }
      let k := s.core core
      s.setCore core { k with l1 := l1Fill k.l1 { line, data, expiry := some e, passed := false } }

/-- HOME_READ (R118). -/
def execHomeRead (core pa : Nat) (s : State) : Res :=
  whenThere (agentCore core && inDram s pa 1) s (fun s => homeLine s core pa)

/-- The running unit of a core, else its first slot. -/
def mainSlot (s : State) (core : Nat) : SlotRef := (runningOn s core).getD { core, slot := 0 }

/-- HOME_WRITE (R119): a store of a core performed at its home; a store of an accord cell is ACCORD_STORE. -/
def execHomeWrite (core pa : Nat) (data : List Byte) (s : State) : Res :=
  whenThere (agentCore core && inDram s pa data.length && pa / 128 == (pa + data.length - 1) / 128 && (s.accordCell pa).isNone) s (fun s =>
    unlessHeld s pa data.length (.homeWrite core pa data) (fun s => storedAt (storePlain s (s.agentOf (mainSlot s core)) (plainTarget s pa) data .weak).1 (.device s.modId pa) data.length))

/-- WRITE_ACK (R119): the acknowledgments that have become due reach their unit. -/
def execWriteAck (u : SlotRef) (s : State) : Res :=
  let t := s.strand u
  whenThere (t.st != .empty) s (fun s => s.setStrand u { t with acks := t.acks.filter (fun a => a.due > s.now) })

/-- R118: the L1 copies of an object's lines whose lease has ended are invalid. -/
def dropExpired (s : State) (o : Obj) : State :=
  let live := fun (x : L1Line) => !inSpans o.lines x.line || (match x.expiry with | none => true | some e => s.now < e)
  { s with cores := s.cores.map (fun p => (p.1, { p.2 with l1 := p.2.l1.filter live })) }

/-- R117, R214: an OBJDROP that its unit has left at the homes: once its leases have expired the descriptor is freed. -/
def dropLeft (s : State) (obj : Nat) (o : Obj) : State :=
  if o.lines.isEmpty && !(s.allStrands.any (fun p => match p.2.wait with | .homes id _ => id == obj | _ => false)) && objectLeases s obj ≤ s.now then
    { s with objs := mapDel s.objs obj }
  else s

/-- LEASE_EXPIRY (R117, R118): leases of an object end. -/
def execLeaseExpiry (obj : Nat) (s : State) : Res :=
  match mapGet s.objs obj with
  | none => .next s
  | some o => .next (dropLeft (dropExpired s o) obj o)

/-- R35, R39: an AtomicOp of the host on an accord cell: its write carries host agent 3,839, and one that would fault a strand is dropped
    (DESIGN CHOICE, log 67). On an uncorrectable line it writes nothing and its answer is poisoned (R18). -/
def hostAccordAmo (s : State) (f : AmoFn) (cell : Nat) (o : Obj) (cmp y : Nat) : State :=
  let p : Place := .device s.modId cell
  let s := (readHome s p 8 .cached).1
  if poisoned s p then { s with host := { s.host with response := bytesOfNat 8 (s.cellAt cell).primary.toNat, responsePoison := true } }
  else match accordAmo s cell o f y cmp (agentBits s 3839) with
  | (s, .ok old) => { s with host := { s.host with response := bytesOfNat 8 old.toNat, responsePoison := false } }
  | (s, .error c) => postEvent { s with host := { s.host with response := [], responsePoison := false } } 18 0 c (BitVec.ofNat 64 cell)

/-- R35: an AtomicOp of the host performed by the part as its completer: FetchAdd, Swap or CAS of 4 or 8 bytes, or CAS of 16. The old value
    goes back, poisoned with its line (R18). -/
def hostAmo (s : State) (f : AmoFn) (pa n : Nat) (cmp y : Nat) : State :=
  let p : Place := .device s.modId pa
  match s.accordAt p with
  | some (cell, o) => if n = 8 then hostAccordAmo s f cell o cmp y else hostRefused s
  | none =>
    let (s, bs) := readHome s p n .cached
    let s := { s with host := { s.host with response := bs, responsePoison := poisoned s p } }
    if poisoned s p then s
    else
      match amoNew f n (natOfBytes bs) (y % 2 ^ (8 * n)) (cmp % 2 ^ (8 * n)) with
      | none => s
      | some v => hostWrite s pa ((bytesOfNat n v).map some)

/-- R35: the host's AtomicOps: a form that PCIe has, of a width it has. -/
def hostAmoForm (f : AmoFn) (n : Nat) : Bool := atomicForm f && (n == 4 || n == 8 || (n == 16 && f == .cas))

/-- R109, R155, R324: an AMO, CAS or CAS.Q of a unit performed at the home. Its old value is its instruction's. -/
def unitAmo (s : State) (u : SlotRef) (f : AmoFn) (pa n : Nat) (cmp y : BitVec 128) : State :=
  let g := plainTarget s pa
  storedAt (if n = 16 then (casQAt s (s.agentOf u) g cmp.toNat y.toNat).1
    else (amoAt s (s.agentOf u) g f n (y.setWidth 64) (cmp.setWidth 64)).1) g.place n

/-- HOME_AMO (R35, R155): an AMO, CAS or CAS.Q performed at the home, of a unit or of the host. -/
def execHomeAmo (u : Option SlotRef) (f : AmoFn) (pa n : Nat) (cmp y : BitVec 128) (s : State) : Res :=
  let fits := inDram s pa n && pa % n == 0
  match u with
  | some r => whenThere (fits && (s.strand r).st != .empty && (n == 4 || n == 8 || (n == 16 && f == .cas))) s (fun s =>
      unlessHeld s pa n (.homeAmo u f pa n cmp y) (fun s => unitAmo s r f pa n cmp y))
  | none => whenThere (fits && s.host.mode != 0 && !inRecovery s && hostAmoForm f n) s (fun s => hostAmo s f pa n cmp.toNat y.toNat)

/-- ACCORD_STORE (R135). -/
def execAccordStore (u : SlotRef) (pa : Nat) (v : Word) (s : State) : Res :=
  whenThere ((s.strand u).st != .empty && pa % 8 == 0 && (s.accordCell pa).isSome) s (fun s =>
    unlessHeld s pa 8 (.accordStore u pa v) (fun s => (storeAt s (s.agentOf u) (plainTarget s pa) 8 v 0 .weak).1))

/-- R138: a BLEND or BLEND.C of a unit performed at the home of a cell. -/
def blendHome (s : State) (u : SlotRef) (pa : Nat) (op : BitVec 4) (cond : Bool) (v : Word) : State :=
  match accordBlend (s.cellAt pa) op.toNat v (agentBits s (agentNumber u)) cond (obsDots (s.strand u).obs pa) with
  | (c, .error _) => { s with cells := if c.frozen then mapSet s.cells pa c else s.cells }
  | (c, .ok (_, some d)) => let s := setCell s pa c; s.setStrand u ((s.strand u).observe pa [d])
  | (_, .ok (_, none)) => s

/-- ACCORD_BLEND (R138). -/
def execAccordBlend (u : SlotRef) (pa : Nat) (op : BitVec 4) (cond : Bool) (v : Word) (s : State) : Res :=
  whenThere ((s.strand u).st != .empty && pa % 8 == 0 && (s.accordCell pa).isSome) s (fun s =>
    unlessHeld s pa 8 (.accordBlend u pa op cond v) (fun s => blendHome s u pa op cond v))

/-- SCRATCHPAD_PORT_ACCESS (R107): a word access at the port: a store of n bytes, or a read. -/
def execScratchpadPortAccess (core off n : Nat) (store : Option Word) (s : State) : Res :=
  whenThere (core < 128 && off + n ≤ Config.scratchBytes) s (fun s =>
    let p : Place := .scratch s.modId core off
    match store with
    | some v => portWrite s p (bytesOfNat n v.toNat) .cached
    | none => (readHome s p n .cached).1)

/-- FE_DEADLINE (R327, R328): GTIME has reached the deadline of a unit's waiting load: the wait ends, and its place is another's. -/
def execFeDeadline (u : SlotRef) (s : State) : Res :=
  let due := fun (w : PortWait) => w.who == u && w.store.isNone && (match w.deadline with | some d => d ≤ s.now | none => false)
  whenThere (s.portQueue.any due) s (fun s => unqueue (wake s u .portDeadline) due)

/-- PAGE_WALK (R99): a walk for a cluster: it fills the TLB, or it ends in the fault its access takes. -/
def execPageWalk (cluster ctx : Nat) (sup : Bool) (kind : AccessKind) (va : Word) (s : State) : Res :=
  whenThere (cluster < 16) s (fun s => (translate s { who := { core := cluster * 8, slot := 0 }, ctx, sup } kind va.toNat).1)

/-- NC_PAGE_ACCESS (R145): an access of n bytes at the channel controller, past the L1 and the L2. -/
def execNcPageAccess (pa n : Nat) (store : Option Word) (s : State) : Res :=
  whenThere (inDram s pa n) s (fun s =>
    let p : Place := .device s.modId pa
    match store with
    | some v => portWrite s p (bytesOfNat n v.toNat) .bypass
    | none => (readHome s p n .bypass).1)

end Sys2Proof.Machine
end

