-- ==== Sys2Proof/Machine/Runtime.lean ====
section
/-! DEFINITION. The scheduler's own steps: jobs, gangs, pre-emption, restore, contracts, the watchdog, and a convoy refused before it runs (R46, R61, R72 to R91, R214 to R219, R270). -/

namespace Sys2Proof.Machine

open Sys2Proof

/-! ### Jobs (R45, R46, R61) -/

/-- R61: active jobs. One held behind another of its contract counts as active: R61 does not say (DESIGN CHOICE, log 68). -/
def jobCount (s : State) : Nat := s.sched.jobs.length + s.sched.heldJobs.length

/-- R43, R61: the lowest-numbered host queue that holds an entry. -/
def hostQueue (s : State) : Option Nat := (List.range 4).find? (fun q => !((s.sched.queues[q]?).getD []).isEmpty)

/-- R43: CTXH. -/
def hostCtx (s : State) : Nat := natBits s.host.ctl.toNat 47 32

/-- R45, R61: one host entry popped: its job starts, or is refused. The next pop follows. -/
def popJob (s : State) : State :=
  if jobCount s ≥ 1024 then s
  else
    match hostQueue s with
    | none => s
    | some q =>
      match popEntry s q with
      | none => s
      | some (s, e) =>
        let s := s.post 0 .jobPop
        match readJob s (hostCtx s) e.payload with
        | (s, .error (r, d)) => postEvent s 3 q r d
        | (s, .ok j) => startJob s j

/-- JOB_POP (R61). -/
def execJobPop (s : State) : Res := .next (popJob s)

/-- R46: the DONE word written in the job's context; false when it cannot be. -/
def writeJobDone (s : State) (j : Job) : State × Bool :=
  let v : Word := if j.anyCancelled then j.tag ||| BitVec.twoPow 64 63 else j.tag
  match resolve s (schedAgent j.ctx) .store none j.doneVa 8 8 with
  | (s, .error _) => (s, false)
  | (s, .ok g) =>
    if unreachable s g.place || windowBars s g || farBarred s j.ctx g.place 8 then (s, false)
    else
      match writeSpan s g.place (bytesOfNat 8 v.toNat) { agent := 0, unit := none } g.use with
      | (s, some _) => (s, false)
      | (s, none) => (s, true)

/-- R46: a job that has ended leaves: its DONE word, JOB_DONE, and the job held behind it. R61 does not say which of several held jobs of a
    contract starts next, nor whether one may while the job before it still makes its writes visible: the one held first starts, once that job
    has left (DESIGN CHOICE, log 68). -/
def finishJob (s : State) (j : Job) : State :=
  let (s, wrote) := if j.doneVa = 0 then (s, true) else writeJobDone s j
  let s := { s with sched := { s.sched with jobs := s.sched.jobs.filter (fun x => x.id != j.id) } }
  let s := if j.notify || !wrote then postEvent s 1 0xFFFF ((if j.anyCancelled then 1 else 0) + (if wrote then 0 else 2)) j.tag else s
  let s := s.post 0 .jobPop
  match s.sched.heldJobs.find? (fun x => x.contract == j.contract) with
  | none => s
  | some x => startJob { s with sched := { s.sched with heldJobs := s.sched.heldJobs.filter (fun y => y.id != x.id) } } x

/-- R38, R46: the host holds the line of a job's DONE word: it is asked for it. -/
def doneHeld (s : State) (j : Job) : Option State :=
  if j.doneVa = 0 then none
  else
    match resolve s (schedAgent j.ctx) .store none j.doneVa 8 8 with
    | (_, .error _) => none
    | (s, .ok g) => hostWait s g.place 8

/-- R38, R42, R46: a job that has ended waits until its writes are visible at SYSTEM scope, with every write that waits at a home (log 31), and, where the host holds the line of its DONE word, for
    the host's answer; then it leaves. -/
def leaveJob (s : State) (j : Job) : State :=
  if s.now < j.visible then s.post (j.visible - s.now) (.jobComplete j.id)
  else if j.hostStores && s.host.mode == 2 then s
  else if !s.homeWrites.isEmpty then s.post 64 (.jobComplete j.id)
  else
    match doneHeld s j with
    | some s => s.post 64 (.jobComplete j.id)
    | none => finishJob s j

/-- JOB_COMPLETE (R46, R64): a job whose last phase has completed or that has been cancelled ends; one whose phases still end one after
    another goes on. -/
def execJobComplete (job : Nat) (s : State) : Res :=
  match s.jobOf job with
  | none => .next s
  | some j => .next (if j.ended then leaveJob s j else settleJob s job)

/-! ### Gangs (R72, R73) -/

/-- The table indices at which what a module tells of its objects differs from what it told before. -/
def changedObjs (old new : List (Nat × Obj)) : List Nat :=
  ((old ++ new).map (·.1)).filter (fun i => mapGet old i != mapGet new i)

/-- R128, R132: the cells of a module's objects that it no longer has as they were: what their siblings and counters were goes, and so do all
    observations of them. -/
def farGone (s : State) (mod : Nat) (old new : List (Nat × Obj)) (loc : Nat) : Bool :=
  2 ^ 50 ≤ loc && loc < 2 ^ 51 && (s.deviceOf loc).1 == mod && (changedObjs old new).any (fun i =>
    [mapGet old i, mapGet new i].any (fun o => match o with
      | some o => inSpans o.lines ((s.deviceOf loc).2 / 128)
      | none => false))

/-- The package registers with the ports of a module that are down as it tells them: one that it has retrained, or that its reset has brought
    back, is down no more (R28). -/
def Package.withDown (p : Package) (mod : Nat) (ports : List Nat) : Package :=
  { p with down := ports.map (fun i => (mod, i)) ++ p.down.filter (fun d => d.1 != mod) }

/-- What one module has told of itself kept: its capacity, its reservations, its objects and its ports (R16, R28, R106, R113, log 55). An object
    of its that is gone, or another, takes its cells and their observations with it (R128, R132). -/
def learnOne (s : State) (x : News) : State :=
  if x.mod < 16 ∧ x.mod ≠ s.modId then
    dropCells { s with peers := mapSet s.peers x.mod x.peer, pkg := s.pkg.withDown x.mod x.down } (farGone s x.mod (s.peer x.mod).objs x.peer.objs)
  else s

/-- What other modules have told by now taken in, in the order it came (log 55). -/
def learn (s : State) : State :=
  (s.news.filter (fun x => x.due ≤ s.now)).foldl learnOne { s with news := s.news.filter (fun x => s.now < x.due) }

/-- GANG_PLACE (R72): every gang that may be tried is offered. Each module's scheduler tells the others of what it places (log 55). -/
def execGangPlace (s : State) : Res := let s := learn s; .next ((dueGangs s).foldl offerGang s)

/-- PLACEMENT_BACKOFF_EXPIRY (R72, R74): a gang whose wait is over and whose turn it is is tried again. -/
def execPlacementBackoffExpiry (handle gang : Nat) (s : State) : Res :=
  match (dueGangs s).find? (fun w => w.handle == handle && w.gang == gang) with
  | some w => .next (offerGang s w)
  | none => .next s

/-! ### Pre-emption and restore (R214 to R219) -/

/-- R214: a unit in its slot is asked to halt. A running one whose convoy in flight is to reach an element does so in its next step; otherwise
    it is halted at once, with no effect of the convoy. The write-out follows (R216). -/
def askHalt (s : State) (u : SlotRef) (progress : Option Nat) : State :=
  let t : Strand := s.strand u
  let s : State :=
    match progress with
    | some p =>
      if t.st == .running && t.wait == .none then s.setStrand u { t with cv := { t.cv with limit := some p } }
      else haltNow (if t.wait.settled then s else leavePort s u) u t.wait.settled
    | none => haltNow (if t.wait.settled then s else leavePort s u) u t.wait.settled
  s.post 160 (.writeOutComplete u)

/-- STRAND_HALT (R214): a pre-emption request reaches a unit's core. -/
def execStrandHalt (u : SlotRef) (progress : Option Nat) (s : State) : Res :=
  match (s.strand u).st with
  | .empty | .trapped => .next s
  | _ => .next (askHalt s u progress)

/-- R73: a unit written out alone: its gang waits for a place again, once the rest of it has left its cores too. -/
def requeue (s : State) (t : Strand) : State :=
  match t.record with
  | none => s
  | some r => waitAgain s (t.launch.toNat % 2 ^ 32) (t.gang.toNat % 2 ^ 20) [r]

/-- WRITE_OUT_COMPLETE (R216): a halted unit is in its save record and its slot is free. One that has not come to its halt yet is looked at
    again. -/
def execWriteOutComplete (u : SlotRef) (s : State) : Res :=
  let t := s.strand u
  if t.st = .running ∧ t.cv.limit.isSome then .next (s.post 1 (.writeOutComplete u))
  else if t.halted = true ∧ t.record.isSome then .next ((requeue (writeOut s u) t).post 0 .gangPlace)
  else .next s

/-- R217: a saved context may go into a slot: the slot is empty and of its kind, the context is ready, and its reservation has room. -/
def mayRestore (s : State) (v : Saved) (u : SlotRef) : Bool :=
  u.ok && (s.strand u).st == .empty && u.isConductor == v.conductor && recordReady s v
    && (v.conductor || roomAt (reservations s u.core) v.unit.scratchBase v.unit.scratchSize)

/-- CONTEXT_RESTORE (R217): the unit saved in the record at an address restored into a free slot, at its reservation base. -/
def execContextRestore (sr : Nat) (u : SlotRef) (s : State) : Res :=
  match s.sched.saved.find? (fun v => v.record == sr) with
  | none => .next s
  | some v => .next (if mayRestore s v u then restore (dropBack s sr) v u else s)

/-- R218, R219: a dirty tile of a core goes to the record of the context that owns it, which then owns it there no more. -/
def tileBack (s : State) (core tile : Nat) (t : Tile) (r : SaveRec) : State :=
  let s := saveTile s r tile t
  let k := s.core core
  s.setCore core { k with tiles := k.tiles.setIfInBounds tile { t with owner := none, dirty := false } }

/-- TILE_WRITEBACK (R219): a dirty tile goes to its context's record. -/
def execTileWriteback (core tile : Nat) (s : State) : Res :=
  match (s.core core).tiles[tile]? with
  | none => .next s
  | some t =>
    match t.owner.bind s.saveRec with
    | some r => .next (if t.dirty then tileBack s core tile t r else s)
    | none => .next s

/-! ### Contracts (R86, R89, R91) -/

/-- R86: the running release of another contract is pre-empted: its clock stops and its units leave their cores. -/
def preemptRelease (s : State) (c : Contract) : State :=
  match c.running with
  | none => s
  | some r =>
    let used := r.used + (match r.since with | some t => s.now - t | none => 0)
    let s := s.setContract { c with running := some { r with used, since := none } }
    let mine := s.allStrands.filter (fun p => p.2.st != .empty && (match s.launchOfUnit p.2 with | some l => l.contract == some c.id | none => false))
    mine.foldl (fun s p => displace s (p.2.launch.toNat % 2 ^ 32) (p.2.gang.toNat % 2 ^ 20)) s

/-- R86: the release that has started pre-empts those of its partition with later deadlines. -/
def preemptOthers (s : State) (c : Contract) : State :=
  match earliest s c.clusters with
  | some e =>
    if e.id = c.id then
      closeStacks ((s.sched.contracts.filter (fun x => x.id != c.id && x.clusters == c.clusters && (x.running.bind (·.since)).isSome)).foldl preemptRelease s)
    else s
  | none => s

/-- R61, R89: a release: a phase instantiated, a miss, or nothing. -/
def release (s : State) (c : Contract) : State :=
  let n := c.nextRel
  let c := { c with nextRel := n + 1 }
  let s := (s.setContract c).post (releaseTime c (n + 1) - s.now) (.contractRelease c.id)
  if c.running.isSome then s.setContract { c with misses := c.misses + 1 }
  else
    match s.sched.jobs.find? (fun j => j.contract == some c.id && !j.live && !j.jobCancel && j.phase < j.phases) with
    | none => s
    | some j =>
      let r : Release := { n, deadline := releaseTime c n + c.deadline, used := 0, since := none, dispatched := false, bankUsed := 0, stopped := false }
      let c := { c with releases := c.releases + 1, running := some r }
      settleJob (instantiate (preemptOthers (s.setContract c) c) j.id) j.id

/-- CONTRACT_RELEASE (R89). -/
def execContractRelease (id : Nat) (s : State) : Res :=
  match s.contractOf id with
  | none => .next s
  | some c => .next (if releaseTime c c.nextRel ≤ s.now then release s c else s)

/-- BUDGET_OVERRUN (R91): a release whose partition time has reached C is stopped. It is stopped once the cycle in which the time reached C is over
    (log 32), for a release whose last unit halts in that cycle is DONE. -/
def execBudgetOverrun (id : Nat) (s : State) : Res :=
  match s.contractOf id with
  | none => .next s
  | some c =>
    match c.running with
    | some r =>
      .next (if r.since.isNone || r.stopped then s
        else if r.time s.now = c.budget then s.post 1 (.budgetOverrun id)
        else if c.budget < r.time s.now then stopRelease s id else s)
    | none => .next s

/-! ### Watchdog (R78, R80, R81) -/

/-- R48: SRC of WATCHDOG. -/
def watchdogSrc (u : SlotRef) : Nat := if u.isConductor then 0x100 + (u.core - 128) else u.core

/-- R81: a unit whose counter has reached WDOG: stopped, saved, told of and cancelled. One that has taken the CANCEL trap is terminated by the
    same steps (R78). -/
def expire (s : State) (u : SlotRef) : State :=
  let s := homesGoOn s (s.strand u)
  let t := collect s (s.strand u)
  let l := s.launchOfUnit t
  let s := saveStopped (s.setStrand u t) u Cause.watchdog 0 t.pc
  let s := postEvent s 7 (watchdogSrc u) t.unitId ((l.map s.tagOf).getD 0)
  let s := endUnit s u false false
  match l with
  | some l => if l.wdscope then cancelLaunch s l.handle false else s
  | none => s

/-- WATCHDOG_EXPIRY (R80, R81): the counter is judged; when a progress event has restarted it, it is judged again later. -/
def execWatchdogExpiry (u : SlotRef) (s : State) : Res :=
  let t := s.strand u
  let wdog := t.wdog.toNat
  if t.st = .empty || wdog = 0 then .next s
  else
    let t := popCredit s t
    let s := s.setStrand u t
    if s.now < t.wdCount + wdog then .next (s.post (t.wdCount + wdog - s.now) (.watchdogExpiry u))
    else .next (expire s u)

/-! ### A convoy refused before it runs (R270) -/

/-- ILLEGAL_ENCODING (R270): the executing strand's convoy traps with its reason and member. One that has been asked to halt is halted at the
    handler it has entered (R214). -/
def execIllegalEncoding (reason member : Nat) (word : Word32) (s : State) : Res :=
  let trapped := trapEntry s Cause.illegal (illegalVal reason member word) s.cur.pc
  .next (if s.cur.st ≠ .running then s else if s.cur.cv.limit.isSome then halted trapped else trapped)

end Sys2Proof.Machine
end

