-- ==== Sys2Proof/Machine/Scalar.lean ====
section
/-! DEFINITION. Scalar integer, field, immediate and branch instructions: majors 0x00 to 0x13 (R281 to R292). -/

namespace Sys2Proof.Machine

open Sys2Proof

/-- R281: an ALU instruction of two operands. -/
def binary (f : Word → Word → Word) : View → State → Eff := regOp (fun t v => f (t.reg v.a) (t.reg v.b))

/-- R281, R283: an instruction that reads A only. -/
def unary (f : Word → Word) : View → State → Eff := regOp (fun t v => f (t.reg v.a))

/-- R281: sh := b[5:0]. -/
def shiftOf (b : Word) : Nat := b.toNat % 64

/-- R281: bits [127:64] of a signed product. -/
def mulHigh (a b : Word) : Word := BitVec.ofInt 64 (a.toInt * b.toInt / (2 ^ 64 : Int))

/-- R281: bits [127:64] of an unsigned product. -/
def mulHighU (a b : Word) : Word := BitVec.ofNat 64 (a.toNat * b.toNat / 2 ^ 64)

/-- R282: the quotient of two w-bit signed values, saturating. -/
def divSigned {w : Nat} (a b : BitVec w) : BitVec w :=
  if b = 0 then (if a = 0 then 0 else if a.toInt < 0 then BitVec.intMin w else BitVec.intMax w)
  else if a = BitVec.intMin w ∧ b = BitVec.allOnes w then BitVec.intMax w
  else a.sdiv b

/-- R282: the unsigned quotient. -/
def divUnsigned (a b : Word) : Word := if b = 0 then (if a = 0 then 0 else BitVec.allOnes 64) else a / b

/-- R282: the signed remainder, with the sign of the dividend. -/
def remSigned (a b : Word) : Word := if b = 0 then a else a.srem b

/-- R282: the unsigned remainder. -/
def remUnsigned (a b : Word) : Word := if b = 0 then a else a % b

/-- R281: leading zeros. -/
def clz64 (a : Word) : Word := BitVec.ofNat 64 (64 - bitLen a.toNat)

/-- The lowest set bit from i up; n when there is none. -/
def lowestSet (x : Nat) : Nat → Nat → Nat
  | 0, i => i
  | k + 1, i => if x.testBit i then i else lowestSet x k (i + 1)

/-- R281: trailing zeros. -/
def ctz64 (a : Word) : Word := BitVec.ofNat 64 (lowestSet a.toNat 64 0)

/-- The number of one bits among the n lowest. -/
def popCount (x : Nat) : Nat → Nat
  | 0 => 0
  | k + 1 => (if x.testBit k then 1 else 0) + popCount x k

/-- R281: bits reversed. -/
def revBits (x : Nat) : Nat → Nat
  | 0 => 0
  | k + 1 => (if x.testBit k then 2 ^ (63 - k) else 0) + revBits x k

/-- R281: bytes reversed. -/
def revBytes (a : Word) : Word := BitVec.ofNat 64 (natOfBytes (bytesOfNat 8 a.toNat).reverse)

/-- R281: the 128-bit carry-less product. -/
def clmul128 (a b : Word) : Nat := clmulNat 64 a.toNat b.toNat

/-- R283: sign extension from n bits. -/
def sextWord (n : Nat) (a : Word) : Word := BitVec.ofInt 64 (sextNat n a.toNat)

/-- R283: zero extension from n bits. -/
def zextWord (n : Nat) (a : Word) : Word := BitVec.ofNat 64 (a.toNat % 2 ^ n)

/-- R284: EXTR's field. -/
def extract (a b : Word) : Word :=
  let lo := natBits b.toNat 5 0
  let len := natBits b.toNat 13 8 + 1
  let f := a.toNat / 2 ^ lo % 2 ^ len
  if b.getLsbD 15 then BitVec.ofInt 64 (sextNat len f) else BitVec.ofNat 64 f

/-- R284: INSR's result. -/
def insertField (d a b : Word) : Word :=
  let lo := natBits b.toNat 5 0
  let len := natBits b.toNat 13 8 + 1
  let mask := BitVec.ofNat 64 ((2 ^ len - 1) * 2 ^ lo)
  maskedWrite d (BitVec.ofNat 64 (a.toNat * 2 ^ lo)) mask

/-- R286: the immediate operand: sext(IMM, 10), or the literal. -/
def immOf (v : View) : Word := if v.hasLit then v.lit else v.imm.signExtend 64

/-- R286, R287: an instruction of A and an immediate. -/
def immediate (f : Word → Word → Word) : View → State → Eff := regOp (fun t v => f (t.reg v.a) (immOf v))

/-- R287: the shift amount of major 0x06. -/
def shiftImm (f : Word → Nat → Word) : View → State → Eff := regOp (fun t v => f (t.reg v.a) (v.imm.toNat % 64))

/-- R281: a rotate right. -/
def rotRight (a : Word) (n : Nat) : Word := a.rotateRight n

/-- R290: a branch taken when a relation holds. -/
def branch (rel : Word → Word → Bool) (v : View) (s : State) : Eff :=
  if rel (s.cur.reg v.a) (s.cur.reg v.b) then .jump s (s.cur.pc + (v.imm.signExtend 64 <<< 2)) else .ok s

/-- R289: LPC. -/
def loadPc (v : View) (s : State) : Eff :=
  .ok (s.setReg v.d (s.cur.pc + (if v.hasLit then v.lit else v.off.signExtend 64 <<< 2)))

/-- R291: JAL. -/
def jumpLink (v : View) (s : State) : Eff :=
  .jump (s.setReg v.d (s.cur.pc + 4)) (s.cur.pc + (v.off.signExtend 64 <<< 2))

/-- R291: JALR. -/
def jumpReg (v : View) (s : State) : Eff :=
  let t := s.cur.reg v.a + (v.imm.signExtend 64 <<< 2)
  if t &&& 3 ≠ 0 then .trap s Cause.misalign t none else .jump (s.setReg v.d (s.cur.pc + 4)) t

/-- ADD (R281): s[D] := s[A] + s[B] mod 2^64. -/
def execAdd (r : RF) (s : State) : Res := guarded (some (r.view 0 0)) s (binary (fun a b => a + b))

/-- SUB (R281): s[D] := s[A] − s[B]. -/
def execSub (r : RF) (s : State) : Res := guarded (some (r.view 0 1)) s (binary (fun a b => a - b))

/-- AND (R281): bitwise and. -/
def execAnd (r : RF) (s : State) : Res := guarded (some (r.view 0 2)) s (binary (fun a b => a &&& b))

/-- OR (R281): bitwise or. -/
def execOr (r : RF) (s : State) : Res := guarded (some (r.view 0 3)) s (binary (fun a b => a ||| b))

/-- XOR (R281): bitwise exclusive or. -/
def execXor (r : RF) (s : State) : Res := guarded (some (r.view 0 4)) s (binary (fun a b => a ^^^ b))

/-- ANDN (R281): s[A] & ~s[B]. -/
def execAndn (r : RF) (s : State) : Res := guarded (some (r.view 0 5)) s (binary (fun a b => a &&& ~~~b))

/-- SLL (R281): shift left by s[B][5:0]. -/
def execSll (r : RF) (s : State) : Res := guarded (some (r.view 0 6)) s (binary (fun a b => a <<< shiftOf b))

/-- SRL (R281): logical shift right. -/
def execSrl (r : RF) (s : State) : Res := guarded (some (r.view 0 7)) s (binary (fun a b => a >>> shiftOf b))

/-- SRA (R281): arithmetic shift right. -/
def execSra (r : RF) (s : State) : Res := guarded (some (r.view 0 8)) s (binary (fun a b => a.sshiftRight (shiftOf b)))

/-- ROR (R281): rotate right. -/
def execRor (r : RF) (s : State) : Res := guarded (some (r.view 0 9)) s (binary (fun a b => rotRight a (shiftOf b)))

/-- SLT (R281): signed set-less-than. -/
def execSlt (r : RF) (s : State) : Res := guarded (some (r.view 0 10)) s (binary (fun a b => boolWord (a.slt b)))

/-- SLTU (R281): unsigned set-less-than. -/
def execSltu (r : RF) (s : State) : Res := guarded (some (r.view 0 11)) s (binary (fun a b => boolWord (a.ult b)))

/-- MIN (R281): signed minimum. -/
def execMin (r : RF) (s : State) : Res := guarded (some (r.view 0 12)) s (binary (fun a b => if b.slt a then b else a))

/-- MAX (R281): signed maximum. -/
def execMax (r : RF) (s : State) : Res := guarded (some (r.view 0 13)) s (binary (fun a b => if a.slt b then b else a))

/-- MINU (R281): unsigned minimum. -/
def execMinu (r : RF) (s : State) : Res := guarded (some (r.view 0 14)) s (binary (fun a b => if b.ult a then b else a))

/-- MAXU (R281): unsigned maximum. -/
def execMaxu (r : RF) (s : State) : Res := guarded (some (r.view 0 15)) s (binary (fun a b => if a.ult b then b else a))

/-- MUL (R281): low 64 bits of the product. -/
def execMul (r : RF) (s : State) : Res := guarded (some (r.view 0 16)) s (binary (fun a b => a * b))

/-- MULH (R281): high 64 bits of the signed product. -/
def execMulh (r : RF) (s : State) : Res := guarded (some (r.view 0 17)) s (binary mulHigh)

/-- MULHU (R281): high 64 bits of the unsigned product. -/
def execMulhu (r : RF) (s : State) : Res := guarded (some (r.view 0 18)) s (binary mulHighU)

/-- DIV (R282): signed quotient, saturating, never trapping. -/
def execDiv (r : RF) (s : State) : Res := guarded (some (r.view 0 19)) s (binary divSigned)

/-- DIVU (R282): unsigned quotient. -/
def execDivu (r : RF) (s : State) : Res := guarded (some (r.view 0 20)) s (binary divUnsigned)

/-- REM (R282): signed remainder. -/
def execRem (r : RF) (s : State) : Res := guarded (some (r.view 0 21)) s (binary remSigned)

/-- REMU (R282): unsigned remainder. -/
def execRemu (r : RF) (s : State) : Res := guarded (some (r.view 0 22)) s (binary remUnsigned)

/-- CLZ (R281): count leading zeros. -/
def execClz (r : RF) (s : State) : Res := guarded (some (r.view 0 23)) s (unary clz64)

/-- CTZ (R281): count trailing zeros. -/
def execCtz (r : RF) (s : State) : Res := guarded (some (r.view 0 24)) s (unary ctz64)

/-- POPC (R281): population count. -/
def execPopc (r : RF) (s : State) : Res := guarded (some (r.view 0 25)) s (unary (fun a => BitVec.ofNat 64 (popCount a.toNat 64)))

/-- BREV (R281): bit reverse. -/
def execBrev (r : RF) (s : State) : Res := guarded (some (r.view 0 26)) s (unary (fun a => BitVec.ofNat 64 (revBits a.toNat 64)))

/-- BSWAP (R281): byte swap. -/
def execBswap (r : RF) (s : State) : Res := guarded (some (r.view 0 27)) s (unary revBytes)

/-- CLMUL (R281): low 64 bits of the carry-less product. -/
def execClmul (r : RF) (s : State) : Res := guarded (some (r.view 0 28)) s (binary (fun a b => BitVec.ofNat 64 (clmul128 a b)))

/-- CLMULH (R281): high bits of the carry-less product. -/
def execClmulh (r : RF) (s : State) : Res := guarded (some (r.view 0 29)) s (binary (fun a b => BitVec.ofNat 64 (clmul128 a b / 2 ^ 64)))

/-- SEXT_B (R283): sign-extend from 8 bits. -/
def execSextB (r : RF) (s : State) : Res := guarded (some (r.view 1 0)) s (unary (sextWord 8))

/-- ZEXT_B (R283): zero-extend from 8 bits. -/
def execZextB (r : RF) (s : State) : Res := guarded (some (r.view 1 3)) s (unary (zextWord 8))

/-- SEXT_H (R283): sign-extend from 16 bits. -/
def execSextH (r : RF) (s : State) : Res := guarded (some (r.view 1 1)) s (unary (sextWord 16))

/-- ZEXT_H (R283): zero-extend from 16 bits. -/
def execZextH (r : RF) (s : State) : Res := guarded (some (r.view 1 4)) s (unary (zextWord 16))

/-- SEXT_W (R283): sign-extend from 32 bits. -/
def execSextW (r : RF) (s : State) : Res := guarded (some (r.view 1 2)) s (unary (sextWord 32))

/-- ZEXT_W (R283): zero-extend from 32 bits. -/
def execZextW (r : RF) (s : State) : Res := guarded (some (r.view 1 5)) s (unary (zextWord 32))

/-- EXTR (R284): extract a bit field described by s[B]. -/
def execExtr (r : RF) (s : State) : Res := guarded (some (r.view 1 6)) s (binary extract)

/-- INSR (R284): insert a bit field into s[D]. -/
def execInsr (r : RF) (s : State) : Res := guarded (some (r.view 1 7)) s (regOp (fun t v => insertField (t.reg v.d) (t.reg v.a) (t.reg v.b)))

/-- CSEL (R285): select s[A] or s[B] on s[D] ≠ 0. -/
def execCsel (r : RF) (s : State) : Res := guarded (some (r.view 1 8)) s (regOp (fun t v => if t.reg v.d ≠ 0 then t.reg v.a else t.reg v.b))

/-- ADDI (R286): add a 10-bit signed immediate. -/
def execAddi (i : IF) (s : State) : Res := guarded (some (i.view 2)) s (immediate (fun a b => a + b))

/-- ADDI_L (R286): ADDI with a 64-bit literal. -/
def execAddiL (i : ILF) (s : State) : Res := guarded (some (i.view 2)) s (immediate (fun a b => a + b))

/-- ANDI (R286): and with an immediate. -/
def execAndi (i : IF) (s : State) : Res := guarded (some (i.view 3)) s (immediate (fun a b => a &&& b))

/-- ANDI_L (R286): ANDI with a literal. -/
def execAndiL (i : ILF) (s : State) : Res := guarded (some (i.view 3)) s (immediate (fun a b => a &&& b))

/-- ORI (R286): or with an immediate. -/
def execOri (i : IF) (s : State) : Res := guarded (some (i.view 4)) s (immediate (fun a b => a ||| b))

/-- ORI_L (R286): ORI with a literal. -/
def execOriL (i : ILF) (s : State) : Res := guarded (some (i.view 4)) s (immediate (fun a b => a ||| b))

/-- XORI (R286): exclusive-or with an immediate. -/
def execXori (i : IF) (s : State) : Res := guarded (some (i.view 5)) s (immediate (fun a b => a ^^^ b))

/-- XORI_L (R286): XORI with a literal. -/
def execXoriL (i : ILF) (s : State) : Res := guarded (some (i.view 5)) s (immediate (fun a b => a ^^^ b))

/-- SLTI (R286): signed compare with an immediate. -/
def execSlti (i : IF) (s : State) : Res := guarded (some (i.view 7)) s (immediate (fun a b => boolWord (a.slt b)))

/-- SLTI_L (R286): SLTI with a literal. -/
def execSltiL (i : ILF) (s : State) : Res := guarded (some (i.view 7)) s (immediate (fun a b => boolWord (a.slt b)))

/-- SLTIU (R286): unsigned compare with a sign-extended immediate. -/
def execSltiu (i : IF) (s : State) : Res := guarded (some (i.view 8)) s (immediate (fun a b => boolWord (a.ult b)))

/-- SLTIU_L (R286): SLTIU with a literal. -/
def execSltiuL (i : ILF) (s : State) : Res := guarded (some (i.view 8)) s (immediate (fun a b => boolWord (a.ult b)))

/-- LI (R288): load a 10-bit signed immediate. -/
def execLi (i : IF) (s : State) : Res := guarded (some (i.view 9)) s (regOp (fun _ v => immOf v))

/-- LI_L (R288): load a 64-bit literal. -/
def execLiL (i : ILF) (s : State) : Res := guarded (some (i.view 9)) s (regOp (fun _ v => immOf v))

/-- SLLI (R287): shift left by an immediate. -/
def execSlli (i : SF) (s : State) : Res := guarded (some (i.view 0)) s (shiftImm (fun a n => a <<< n))

/-- SRLI (R287): logical shift right by an immediate. -/
def execSrli (i : SF) (s : State) : Res := guarded (some (i.view 1)) s (shiftImm (fun a n => a >>> n))

/-- SRAI (R287): arithmetic shift right by an immediate. -/
def execSrai (i : SF) (s : State) : Res := guarded (some (i.view 2)) s (shiftImm (fun a n => a.sshiftRight n))

/-- RORI (R287): rotate right by an immediate. -/
def execRori (i : SF) (s : State) : Res := guarded (some (i.view 3)) s (shiftImm (fun a n => rotRight a n))

/-- LPC (R289): s[D] := P + sext(OFF, 15) × 4. -/
def execLpc (j : JF) (s : State) : Res := guarded (some (j.view 10)) s loadPc

/-- LPC_L (R289): s[D] := P + literal. -/
def execLpcL (j : JLF) (s : State) : Res := guarded (some (j.view 10)) s loadPc

/-- BEQ (R290): branch if equal. -/
def execBeq (b : BF) (s : State) : Res := guarded (some (b.view 12)) s (branch (fun a b => a == b))

/-- BNE (R290): branch if not equal. -/
def execBne (b : BF) (s : State) : Res := guarded (some (b.view 13)) s (branch (fun a b => a != b))

/-- BLT (R290): branch if signed less. -/
def execBlt (b : BF) (s : State) : Res := guarded (some (b.view 14)) s (branch (fun a b => a.slt b))

/-- BGE (R290): branch if signed greater or equal. -/
def execBge (b : BF) (s : State) : Res := guarded (some (b.view 15)) s (branch (fun a b => !a.slt b))

/-- BLTU (R290): branch if unsigned less. -/
def execBltu (b : BF) (s : State) : Res := guarded (some (b.view 16)) s (branch (fun a b => a.ult b))

/-- BGEU (R290): branch if unsigned greater or equal. -/
def execBgeu (b : BF) (s : State) : Res := guarded (some (b.view 17)) s (branch (fun a b => !a.ult b))

/-- JAL (R291): jump and link PC-relative. -/
def execJal (j : JF) (s : State) : Res := guarded (some (j.view 18)) s jumpLink

/-- JALR (R291): jump and link to s[A] + imm × 4, trapping MISALIGN when the target is not word aligned. -/
def execJalr (i : IF) (s : State) : Res := guarded (some (i.view 19)) s jumpReg

end Sys2Proof.Machine
end

