-- ==== Sys2Proof/Machine/Tiles.lean ====
section
/-! DEFINITION. Outer products, tile moves, drains, histograms, the companding curve and the codebook banks: majors 0x30 to 0x32 (R221 to R233, R251, R254, R255, R354 to R367). -/

namespace Sys2Proof.Machine

open Sys2Proof

/-! ### Rows (R354) -/

/-- R354: the active rows of a row set from VSTART on, each with its own effect. -/
def runRows (s : State) (v : View) (lo hi : Nat) (f : State → Nat → State × Acc) : Eff :=
  let t := s.cur
  let i := max (startOf t) lo
  vecEnd (vecLoop f (maskOf t v) (endOf t hi - i) i s)

/-- R354: the instruction has no row to act on. -/
def noRows (t : Strand) : Bool := endOf t 128 ≤ startOf t

/-- Word c of a tile row. -/
def rowWord (x : BitVec 4096) (c : Nat) : Nat := elemOf x.toNat 32 c

/-- The words of a tile row. -/
def rowWords (x : BitVec 4096) : List Nat := (List.range 128).map (rowWord x)

/-- A tile row. -/
def State.row (s : State) (n r : Nat) : BitVec 4096 := ((s.tile n).rows[r]?).getD 0

/-- R354: a row written, its flags raised with it. -/
def State.setRow (s : State) (n r : Nat) (x : Nat) (fl : Flags) : State :=
  let y := s.tile n
  let s := s.setTile n { y with rows := y.rows.setIfInBounds r (BitVec.ofNat 4096 x) }
  { s with cur := s.cur.raise fl }

/-- The words and flags a row's computation gives. -/
def packRow (l : List (Nat × Flags)) : Nat × Flags := (packElems 32 (l.map (·.1)), l.foldl (fun a p => a ||| p.2) 0)

/-- R249, R354: a rounding row instruction advances SBASE by 16,384, with no row to act on too. -/
def rowRounding (c : Bool) (v : View) (e : Eff) : Eff := roundingIf c v 16384 e

/-! ### Outer products (R356, R357) -/

/-- R356: one word of an outer product: the exact sum, rounded, clamped or wrapped. -/
def opaccWord (v : View) (neg : Bool) (rm r : Nat) (w : Nat) (xs ys : List Nat) : Nat × Flags :=
  let ta := Check.tA v
  let tb := Check.tB v
  if Check.tD v == .fp32 then
    let ps := (xs.zip ys).map (fun p => mulNum (decodeFloat ta p.1) (decodeFloat tb p.2))
    let bad := ps.foldl (fun a p => a ||| p.2) (0 : Flags)
    let (z, fl) := if bad != 0 then (Num.nan, bad) else sumNum rm (fp32 w :: ps.map (fun p => if neg then p.1.negate else p.1))
    let (b, fl') := roundNum z .fp32 rm v.w2.sat r
    (b, fl ||| fl')
  else
    let rd := fun (u : Bool) (x : Nat) => if u then (x : Int) else sextNat 8 x
    let p : Int := (xs.zip ys).foldl (fun a p => a + rd (natBit v.imm16 8) p.1 * rd (natBit v.imm16 9) p.2) 0
    let z := sextNat 32 w + (if neg then -p else p)
    if v.w2.sat then narrowInt z 32 false true else (bitsOf 32 z, 0)

/-- R356: the depth of the operand types. -/
def opaccDepth (v : View) : Nat := if (Check.tA v).width = 16 then 1 else 2

/-- R356: row r of an outer product, given the elements of B. -/
def opaccRow (v : View) (neg : Bool) (a : Src) (ys : List Nat) (s : State) (r : Nat) : State × Acc :=
  let d := opaccDepth v
  match elemsAt a ((List.range d).map (d * r + ·)) with
  | .error (c, x, _) => (s, .bad c x)
  | .ok xs =>
    let rm := rmOf s.cur v
    let t := s.cur
    let old := s.row v.d r
    let (x, fl) := packRow ((List.range 128).map (fun c =>
      opaccWord v neg rm (roundBits t rm (r * 128 + c)) (rowWord old c) xs ((ys.drop (d * c)).take d)))
    (s.setRow v.d r x fl, .val 0)

/-- R356, R357: OPACC and OPACCN. Traps of pops and of B come before any row. -/
def opacc (neg : Bool) (v : View) (s : State) : Eff :=
  if noRows s.cur then rowRounding (Check.tD v == .fp32) v (.ok s)
  else
    let n := Check.vlmax v
    let (s, a, ea) := fetchVec (touchTile s v.d) v false n (Check.tA v)
    let (s, b, eb) := fetchVec s v true n (Check.tB v)
    match lowerTrap (crossCap s.cur ea) (crossCap s.cur eb) with
    | some (c, x, _) => .trap s c x none
    | none =>
      match elemsAt b (List.range n) with
      | .error (c, x, _) => .trap s c x none
      | .ok ys => rowRounding (Check.tD v == .fp32) v (runRows s v 0 128 (opaccRow v neg a ys))

/-! ### Tile moves (R358, R359) -/

/-- R358: ACCZ. -/
def acczOp (v : View) (s : State) : Eff :=
  if noRows s.cur then .ok s else runRows (touchTile s v.d) v 0 128 (fun s r => (s.setRow v.d r 0 0, .val 0))

/-- R359: one word of an ACCLD row: a weak load that waits for its bytes. -/
def accldWord (s : State) (va : Word) : State × Acc :=
  match resolve s s.me .load none va 4 4 with
  | (s, .error c) => (s, .bad c va)
  | (s, .ok g) =>
    if arrivalPending s g.place 4 then (s, .wait)
    else
      match loadAt s s.me g 4 .weak with
      | (s, .val x) => (s, .val x)
      | (s, .fault c) => (s, .bad c va)
      | (s, .wait) => (s, .wait)

/-- R359: words of a row read at rising addresses: their bits at their places, or what stopped them. -/
def accldWords (s : State) (base : Word) : List Nat → Nat → State × Acc
  | [], g => (s, .val g)
  | c :: cs, g =>
    match accldWord s (base + BitVec.ofNat 64 (4 * c)) with
    | (s, .val x) => accldWords s base cs (g + x * 2 ^ (32 * c))
    | r => r

/-- R359: the columns of a row in the order of their addresses. -/
def risingColumns (base : Word) : List Nat :=
  let wraps := fun (c : Nat) => (base + BitVec.ofNat 64 (4 * c)).toNat < base.toNat
  (List.range 128).filter wraps ++ (List.range 128).filter (fun c => !wraps c)

/-- R359: ACCLD. -/
def accldOp (v : View) (s : State) : Eff :=
  if noRows s.cur then .ok s
  else
    runRows (touchTile s v.d) v 0 128 (fun s r =>
      let base := s.cur.reg v.a + BitVec.ofNat 64 r * s.cur.reg v.b
      match accldWords s base (risingColumns base) 0 with
      | (s, .val x) => (s.setRow v.d r x 0, .val 0)
      | e => e)

/-- R358: row0 of ACCRD and ACCWR. -/
def firstRow (t : Strand) (v : View) : Nat := (t.reg v.b).toNat % 128

/-- R358: one past the last row of ACCRD and ACCWR. -/
def lastRow (t : Strand) (v : View) : Nat := min 128 (firstRow t v + Check.lm v / 2)

/-- R358: ACCRD. -/
def accrdOp (v : View) (s : State) : Eff :=
  if noRows s.cur then .ok s
  else
    let row0 := firstRow s.cur v
    runRows (touchTile s v.a) v row0 (lastRow s.cur v) (fun s r =>
      ({ s with cur := writeGroup s.cur (v.d + 2 * (r - row0)) 2 (s.row v.a r).toNat }, .val 0))

/-- R358: ACCWR. -/
def accwrOp (v : View) (s : State) : Eff :=
  if noRows s.cur then .ok s
  else
    let row0 := firstRow s.cur v
    runRows (touchTile s v.d) v row0 (lastRow s.cur v) (fun s r =>
      (s.setRow v.d r (readGroup s.cur (v.a + 2 * (r - row0)) 2) 0, .val 0))

/-- R354: a tile word as an exact value of a type. -/
def tileNum (t : ET) (x : Nat) : Num := if t == .fp32 then fp32 x else Num.ofInt (sextNat 32 x)

/-- R358: ACCSCALE. -/
def accscaleOp (v : View) (s : State) : Eff :=
  if noRows s.cur then rowRounding true v (.ok s)
  else
    let rm := rmOf s.cur v
    let fs := readGroup s.cur v.a 2
    rowRounding true v (runRows (touchTile s v.d) v 0 128 (fun s r =>
      let t := s.cur
      let old := s.row v.d r
      let (x, fl) := packRow ((List.range 128).map (fun c =>
        let (z, fl) := mulNum (tileNum (ET.ofCode v.w1.eta.toNat) (rowWord old c)) (fp32 (elemOf fs 32 c))
        let (b, fl') := roundNum z .fp32 rm v.w2.sat (roundBits t rm (r * 128 + c))
        (b, fl ||| fl')))
      (s.setRow v.d r x fl, .val 0)))

/-! ### DRAIN (R360 to R362) -/

/-- R362: the entries that qualify, with their levels, in ascending order. -/
def levelsOf (b : Bank) (bi : Nat) : List (Nat × Num) :=
  (List.range (2 ^ bi)).filterMap (fun j =>
    let y := fp32 (b.entry j % 2 ^ 32)
    if b.valid.getLsbD j && !y.isNan then some (j, y) else none)

/-- R362: the first entry whose key is least. -/
def leastBy (lt : Num → Num → Bool) : List (Nat × Num) → Nat × Num → Nat × Num
  | [], best => best
  | p :: ps, best => leastBy lt ps (if lt p.2 best.2 then p else best)

/-- R362: |v − level|. -/
def distance (x y : Num) : Num := (sumNum 0 [x, y.negate]).1.abs

/-- R362: nearest among qualifying entries; none when there are none and v is no NaN. -/
def nearest (levels : List (Nat × Num)) (x : Num) : Option (Nat × Flags) :=
  if x.isNan then some (0, Flags.nv)
  else
    match levels with
    | [] => none
    | p :: ps =>
      if x.isInf then
        match levels.find? (fun q => q.2 == x) with
        | some q => some (q.1, 0)
        | none => some ((leastBy (fun y z => if x.neg then ltNum y z else ltNum z y) ps p).1, Flags.nx)
      else
        let q := leastBy ltNum (ps.map (fun q => (q.1, distance x q.2))) (p.1, distance x p.2)
        some (q.1, Flags.when (!q.2.isZero) Flags.nx)

/-- R360: CBK. -/
def cbkOf (v : View) : Nat := natBits v.imm16 11 8

/-- R361: the code of one word, or its trap. -/
def drainCode (s : State) (v : View) (levels : List (Nat × Num)) (rm r x s8 f key : Nat) : Except (Nat × Word) (Nat × Flags) :=
  let td := Check.tD v
  if s8 = 255 then .ok (if td.isFloat then ((fmtOf td).nan, 0) else (0, Flags.nv))
  else
    let x := tileNum (ET.ofCode v.w1.eta.toNat) x
    let (z, fl) := if natBit v.imm16 1 then mulNum x (fp32 f) else (x, 0)
    let z := z.scale (127 - (s8 : Int))
    let res : Except (Nat × Word) (Nat × Flags) :=
      if td.isFloat then .ok (roundNum z td rm v.w2.sat r)
      else if td == .ci8 then ci8Elem s z rm r key
      else if td.isCoded then
        match nearest levels z with
        | some y => .ok y
        | none => if substOf s.cur (cbkOf v) then .ok (0, 0) else .error (Cause.cbInvalid, BitVec.ofNat 64 (4096 + cbkOf v))
      else .ok (toInteger z td.width (natBit v.imm16 2) rm v.w2.sat r)
    match res with
    | .ok (y, g) => .ok (y, fl ||| g)
    | e => e

/-- The codes of a row, or the first trap. -/
def codesOf : List (Except (Nat × Word) (Nat × Flags)) → Except (Nat × Word) (List (Nat × Flags))
  | [] => .ok []
  | .error e :: _ => .error e
  | .ok p :: ps =>
    match codesOf ps with
    | .ok l => .ok (p :: l)
    | .error e => .error e

/-- R361: the codes of row r. -/
def drainCodes (s : State) (v : View) (levels : List (Nat × Num)) (r : Nat) : Except (Nat × Word) (List (Nat × Flags)) :=
  let t := s.cur
  let rm := rmOf t v
  let scales := readGroup t v.b 2
  let factors := readGroup t (v.b + 2) 2
  let row := s.row v.d r
  codesOf ((List.range 128).map (fun c =>
    drainCode s v levels rm (roundBits t rm (r * 128 + c)) (rowWord row c)
      (if natBit v.imm16 0 then elemOf scales 8 0 else elemOf scales 8 (r * 4 + c / 32)) (elemOf factors 32 c) (r * 128 + c)))

/-- R361: the pieces of a row checked, the lowest first: where they go, or the first that fails. -/
def drainCheck (s : State) (va : Word) : List Nat → State × Except (Nat × Word) (List Target)
  | [] => (s, .ok [])
  | i :: is =>
    let a := va + BitVec.ofNat 64 (8 * i)
    match resolve s s.me .store none a 8 8 with
    | (s, .error c) => (s, .error (c, a))
    | (s, .ok g) =>
      if windowBars s g || (s.accordAt g.place).isSome then (s, .error (Cause.access, a))
      else
        match drainCheck s va is with
        | (s, .ok gs) => (s, .ok (g :: gs))
        | r => r

/-- R361: row r drained. -/
def drainRow (v : View) (levels : List (Nat × Num)) (s : State) (r : Nat) : State × Acc :=
  let w := (Check.tD v).width
  let rb := 16 * w
  let va := s.cur.reg v.a + BitVec.ofNat 64 (r * rb)
  if (s.cur.reg v.a).toNat % 16 ≠ 0 then (s, .bad Cause.misalign va)
  else
    match drainCodes s v levels r with
    | .error (c, x) => (s, .bad c x)
    | .ok l =>
      match drainCheck s va (List.range (rb / 8)) with
      | (s, .error (c, a)) => (s, .bad c a)
      | (s, .ok gs) =>
        match piecesHeld s gs with
        | some s => (s, .wait)
        | none =>
          let x := packElems w (l.map (·.1))
          let (s, _) := storePieces s gs ((List.range (rb / 8)).map (fun i => BitVec.ofNat 64 (elemOf x 64 i))) va
          ({ s with cur := s.cur.raise (l.foldl (fun a p => a ||| p.2) 0) }, .val 0)

/-- R360: DRAIN. -/
def drainOp (v : View) (s : State) : Eff :=
  if noRows s.cur then rowRounding (!(Check.tD v).isCoded) v (.ok s)
  else
    let td := Check.tD v
    let s := touchTile s v.d
    let s := if td == .ci8 then touchBank s (curveBank s.cur) else if td.isCoded then touchBank s (cbkOf v) else s
    let levels := if td.isCoded then levelsOf (s.bank (cbkOf v)) td.width else []
    rowRounding (!td.isCoded) v (runRows s v 0 128 (drainRow v levels))

/-! ### HISTO and SCALEPICK (R254, R255, R363, R364) -/

/-- R363: HB. -/
def histBase (x : Word) : Int := sextNat 10 (natBits x.toNat 25 16)

/-- R254: one element counted: counts packed in 64-bit fields, and whether a NaN was met. -/
def histStep (t : ET) (hb : Int) (acc : Nat × Bool) (x : Nat) : Nat × Bool :=
  match tileNum t x with
  | .nan => (acc.1, true)
  | .inf _ => (acc.1 + 2 ^ (64 * 63), acc.2)
  | .fin _ m e _ =>
    if m = 0 then acc
    else
      let b := e + (bitLen m : Int) - 1 - hb
      (acc.1 + 2 ^ (64 * (max 0 (min 63 b)).toNat), acc.2)

/-- R254: rows from lo to hi − 1 counted under a mask. -/
def histRows (s : State) (v : View) (lo hi : Nat) (acc : Nat × Bool) : Nat × Bool :=
  let t := ET.ofCode v.w1.eta.toNat
  let hb := histBase (s.cur.reg v.b)
  ((List.range (hi - lo)).map (lo + ·)).foldl (fun acc r =>
    if (maskOf s.cur v).testBit r then (rowWords (s.row v.a r)).foldl (histStep t hb) acc else acc) acc

/-- R354, R363: HISTO: it counts each block as it comes, all rows before the first block with it, and leaves the counts for its convoy's
    retirement when there is no further block. -/
def histoOp (v : View) (s : State) : Eff :=
  let s := touchTile s v.a
  let t := s.cur
  let member := t.cv.member
  let acc :=
    match t.cv.hist.find? (fun p => p.1 == member) with
    | some (_, x, nv) => histRows s v (startOf t) (endOf t 128) (x, nv)
    | none => histRows s v 0 (endOf t 128) (0, false)
  if t.cv.limit.isSome then
    .ok { s with cur := { t with cv := { t.cv with hist := (member, acc.1, acc.2) :: t.cv.hist.filter (fun p => p.1 != member) } } }
  else
    .ok { s with cur := ({ t with cv := { t.cv with counts := t.cv.counts ++ [(v.d, acc.1)] } }).raise (Flags.when acc.2 Flags.nv) }

/-- R255: b of a histogram: the first bin at which the running count reaches k. -/
def pickBin (g k : Nat) : Nat → Nat → Nat → Nat
  | 0, b, _ => b
  | n + 1, b, sum =>
    let sum := sum + elemOf g 32 b
    if sum ≥ k then b else pickBin g k n (b + 1) sum

/-- R255: scalepick of a histogram under a topexp. -/
def scalePick (g : Nat) (hb : Int) (p : Nat) (top : Int) : Nat :=
  let n := (List.range 64).foldl (fun a b => a + elemOf g 32 b) 0
  if n = 0 then 127
  else
    let k := max 1 (ceilDiv (n * p) 65536)
    let e : Int := 127 + hb + pickBin g k 63 0 0 + 1 - top
    (max 0 (min 254 e)).toNat

/-- R255: topexp of a type but CI8. -/
def topExp (t : ET) : Int :=
  match t with
  | .int4 => 2 | .int8 => 6 | .e4m3 => 8 | _ => 15

/-- R255: floor(log2 X16) of a positive finite X16; none otherwise, which the spec leaves open. -/
def curveTop (x16 : Num) : Option Int :=
  match x16 with
  | .fin false m e _ => if m = 0 then none else some (e + (bitLen m : Int) - 1)
  | _ => none

/-- R364: SCALEPICK. The lookup of CI8's curve comes before any row of its convoy; where the curve has no positive finite X16, R255 gives
    topexp no value: it is a free function of X16 (R258, log 3). -/
def scalepickOp (v : View) (s : State) : Eff :=
  let pick := fun (s : State) (top : Int) =>
    let x := s.cur.reg v.b
    let g := readGroup s.cur v.a 1
    s.holdReg v.d (BitVec.ofNat 64 (scalePick g (histBase x) (x.toNat % 65536) top))
  if Check.tD v == .ci8 then
    let n := curveBank s.cur
    let s := touchBank s n
    if !(s.bank n).valid.getLsbD 0x78 then
      if substOf s.cur n then wholeOnly s (.ok (s.holdReg v.d 255)) else .trap s Cause.cbInvalid (BitVec.ofNat 64 (0x780 + n)) none
    else
      let x16 := (s.bank n).entry 0x78 / 2 ^ 32
      wholeOnly s (.ok (pick s ((curveTop (fp32 x16)).getD (Config.curveTop x16))))
  else wholeOnly s (.ok (pick s (topExp (Check.tD v))))

/-! ### Banks (R222, R232, R251, R365 to R367) -/

/-- R232, R366: an update of a bank: its contents, and its generation one on. -/
def bankUpdate (s : State) (n : Nat) (b : Bank) : State :=
  let s := s.setBank n b
  let g := s.cur.cbgen.toNat
  { s with cur := { s.cur with cbgen := BitVec.ofNat 64 (setElem g 4 n (elemOf g 4 n + 1)) } }

/-- A bank with one entry replaced. -/
def Bank.put (b : Bank) (i x : Nat) (valid : Bool) : Bank :=
  { b with entries := BitVec.ofNat 16384 (setElem b.entries.toNat 64 i x), valid := BitVec.ofNat 256 (setElem b.valid.toNat 1 i (if valid then 1 else 0)) }

/-- R222: the pattern of an invalid entry. -/
def inval : Nat := 0x7FFF7FFF7FFF7FFF

/-- R222: an entry written by CBLD or CBSET is valid. -/
def entryValid (raw : Bool) (x : Nat) : Bool := raw || x != inval

/-- R250, R251: the exact value of code m of a segment from X[s] to X[s + 1]. -/
def ci8Value (x0 x1 : Num) (k : Nat) : Num :=
  ((sumNum 0 [(mulNum x0 (Num.ofInt (8 - (k : Int)))).1, (mulNum x1 (Num.ofInt (k : Int))).1]).1).scale (-3)

/-- R251: entry c of a curve. -/
def curveEntry (g c : Nat) : Nat :=
  let sg := c % 128 / 8
  let x0 := fp32 (elemOf g 32 sg)
  let x1 := fp32 (elemOf g 32 (sg + 1))
  let v := rne32 (ci8Value x0 x1 (c % 8))
  (if c ≥ 128 then setElem v 1 31 (1 - elemOf v 1 31) else v) + elemOf g 32 (sg + 1) * 2 ^ 32

/-- R365: the breakpoints are in rule. -/
def curveOk (g : Nat) : Bool :=
  let x := fun (i : Nat) => fp32 (elemOf g 32 i)
  (x 0).isZero && (List.range 17).all (fun i => !(x i).isNan && !(x i).isInf) && (List.range 16).all (fun i => ltNum (x i) (x (i + 1)))

/-- R365: PWLSET. -/
def pwlsetOp (v : View) (s : State) : Eff :=
  let s := touchBank s v.d
  let b := s.bank v.d
  let g := readGroup s.cur v.a 1
  if curveOk g then
    .ok (bankUpdate s v.d { b with entries := BitVec.ofNat 16384 (packElems 64 ((List.range 256).map (curveEntry g))), valid := BitVec.allOnes 256 })
  else
    let s := bankUpdate s v.d { b with valid := 0 }
    .ok { s with cur := s.cur.raise Flags.nv }

/-- R366: the entries s[B] names, or the whole bank when B = 0. -/
def bankRange (t : Strand) (v : View) : List Nat :=
  let x := if v.b = 0 then 0 else (t.reg v.b).toNat
  let count := natBits x 16 8
  (List.range (if v.b = 0 ∨ count = 0 then 256 else count)).map (fun i => (x + i) % 256)

/-- R367: the read phase of CBLD. -/
def cbldRead (s : State) : List Word → State × Except (Nat × Word) (List Nat)
  | [] => (s, .ok [])
  | va :: vas =>
    match resolve s s.me .load none va 8 8 with
    | (s, .error c) => (s, .error (c, va))
    | (s, .ok g) =>
      match loadAt s s.me g 8 .weak with
      | (s, .fault c) => (s, .error (c, va))
      | (s, .wait) => (s, .error (0, va))
      | (s, .val x) =>
        match cbldRead s vas with
        | (s, .ok xs) => (s, .ok (x :: xs))
        | e => e

/-- R366, R367: CBLD. One that is abandoned in its write phase has written the first entries of its range. -/
def cbldOp (v : View) (s : State) : Eff :=
  let s := touchBank s v.d
  let range := bankRange s.cur v
  match cbldRead s (range.zipIdx.map (fun p => s.cur.reg v.a + BitVec.ofNat 64 (8 * p.2))) with
  | (s, .error (0, _)) => .wait s .hardware
  | (s, .error (c, va)) => .trap s c va none
  | (s, .ok xs) =>
    let put := fun (ps : List (Nat × Nat)) => ps.foldl (fun b p => b.put p.1 p.2 (entryValid (natBit v.imm16 0) p.2)) (s.bank v.d)
    match s.cur.cv.limit with
    | some n => .ok (s.setBank v.d (put ((range.zip xs).take n)))
    | none => .ok (bankUpdate s v.d (put (range.zip xs)))

/-- R366: CBSET. -/
def cbsetOp (v : View) (s : State) : Eff :=
  let s := touchBank s v.d
  let x := (s.cur.reg v.a).toNat
  .ok (bankUpdate s v.d ((s.bank v.d).put ((s.cur.reg v.b).toNat % 256) x (entryValid (natBit v.imm16 0) x)))

/-- R366: CBINV. -/
def cbinvOp (v : View) (s : State) : Eff :=
  let s := touchBank s v.d
  let gone := (bankRange s.cur v).foldl (fun m i => m ||| BitVec.twoPow 256 i) 0
  let b := s.bank v.d
  .ok (bankUpdate s v.d { b with valid := b.valid &&& ~~~gone })

/-- R366, R367: CBUSE. -/
def cbuseOp (v : View) (s : State) : Eff :=
  let old := s.cur.cbuse
  .ok ({ s with cur := { s.cur with cbuse := s.cur.reg v.a &&& 0xFFFFFFFF } }.setReg v.d old)

/-- R366: CBSTAT. -/
def cbstatOp (v : View) (s : State) : Eff :=
  let s := touchBank s v.a
  let b := s.bank v.a
  let i := (s.cur.reg v.b).toNat % 256
  .ok (s.setReg v.d (BitVec.ofNat 64 (match v.imm16 % 4 with
    | 0 => if b.valid.getLsbD i then b.entry i else inval
    | 1 => (setBits b.valid.toNat 256).length
    | _ => elemOf b.valid.toNat 1 i)))

/-- OPACC (R356): outer-product accumulate into a tile under VTYPE. -/
def execOpacc (r : RF) (s : State) : Res := guarded (some (r.view 48 0)) s (opacc false)

/-- OPACC_X (R356): extended OPACC with types, stream and expanded operands. -/
def execOpaccX (x : XF) (s : State) : Res := guarded (some (x.view 48 0)) s (opacc false)

/-- OPACCN (R356): negated outer-product accumulate. -/
def execOpaccn (r : RF) (s : State) : Res := guarded (some (r.view 48 1)) s (opacc true)

/-- OPACCN_X (R356): extended OPACCN. -/
def execOpaccnX (x : XF) (s : State) : Res := guarded (some (x.view 48 1)) s (opacc true)

/-- ACCZ (R358): zero a tile's active rows. -/
def execAccz (r : RF) (s : State) : Res := guarded (some (r.view 48 2)) s acczOp

/-- ACCZ_X (R358): extended ACCZ. -/
def execAcczX (x : XF) (s : State) : Res := guarded (some (x.view 48 2)) s acczOp

/-- ACCLD (R359): load tile rows from memory. -/
def execAccld (r : RF) (s : State) : Res := guarded (some (r.view 48 3)) s accldOp

/-- ACCLD_X (R359): extended ACCLD with a row mask. -/
def execAccldX (x : XF) (s : State) : Res := guarded (some (x.view 48 3)) s accldOp

/-- ACCRD (R358): read tile rows into vector registers. -/
def execAccrd (r : RF) (s : State) : Res := guarded (some (r.view 48 4)) s accrdOp

/-- ACCRD_X (R358): extended ACCRD. -/
def execAccrdX (x : XF) (s : State) : Res := guarded (some (x.view 48 4)) s accrdOp

/-- ACCWR (R358): write tile rows from vector registers. -/
def execAccwr (r : RF) (s : State) : Res := guarded (some (r.view 48 5)) s accwrOp

/-- ACCWR_X (R358): extended ACCWR. -/
def execAccwrX (x : XF) (s : State) : Res := guarded (some (x.view 48 5)) s accwrOp

/-- ACCSCALE (R358): scale tile columns by FP32 factors. -/
def execAccscale (r : RF) (s : State) : Res := guarded (some (r.view 48 6)) s accscaleOp

/-- ACCSCALE_X (R358): extended ACCSCALE. -/
def execAccscaleX (x : XF) (s : State) : Res := guarded (some (x.view 48 6)) s accscaleOp

/-- DRAIN (R361): quantise tile rows with block scales and store them. -/
def execDrain (r : RF) (s : State) : Res := guarded (some (r.view 49 0)) s drainOp

/-- DRAIN_X (R361): extended DRAIN with types, options and a row mask. -/
def execDrainX (x : XF) (s : State) : Res := guarded (some (x.view 49 0)) s drainOp

/-- HISTO (R363): add a tile's magnitudes to a histogram. -/
def execHisto (r : RF) (s : State) : Res := guarded (some (r.view 49 1)) s histoOp

/-- HISTO_X (R363): extended HISTO. -/
def execHistoX (x : XF) (s : State) : Res := guarded (some (x.view 49 1)) s histoOp

/-- SCALEPICK (R364): choose an E8 scale from a histogram (extended form only). -/
def execScalepick (x : XF) (s : State) : Res := guarded (some (x.view 49 2)) s scalepickOp

/-- PWLSET (R365): write the CI8 curve into a bank. -/
def execPwlset (r : RF) (s : State) : Res := guarded (some (r.view 49 3)) s pwlsetOp

/-- PWLSET_X (R365): PWLSET in extended length. -/
def execPwlsetX (x : XF) (s : State) : Res := guarded (some (x.view 49 3)) s pwlsetOp

/-- CBLD (R366): load codebook entries from memory. -/
def execCbld (r : RF) (s : State) : Res := guarded (some (r.view 50 0)) s cbldOp

/-- CBLD_X (R366): CBLD with the raw bit. -/
def execCbldX (x : XF) (s : State) : Res := guarded (some (x.view 50 0)) s cbldOp

/-- CBSET (R366): set one codebook entry. -/
def execCbset (r : RF) (s : State) : Res := guarded (some (r.view 50 1)) s cbsetOp

/-- CBSET_X (R366): CBSET with the raw bit. -/
def execCbsetX (x : XF) (s : State) : Res := guarded (some (x.view 50 1)) s cbsetOp

/-- CBINV (R366): invalidate a range of entries. -/
def execCbinv (r : RF) (s : State) : Res := guarded (some (r.view 50 2)) s cbinvOp

/-- CBINV_X (R366): CBINV in extended length. -/
def execCbinvX (x : XF) (s : State) : Res := guarded (some (x.view 50 2)) s cbinvOp

/-- CBUSE (R366): swap the CBUSE register. -/
def execCbuse (r : RF) (s : State) : Res := guarded (some (r.view 50 3)) s cbuseOp

/-- CBUSE_X (R366): CBUSE in extended length. -/
def execCbuseX (x : XF) (s : State) : Res := guarded (some (x.view 50 3)) s cbuseOp

/-- CBSTAT (R366): read an entry of a bank (base form). -/
def execCbstat (r : RF) (s : State) : Res := guarded (some (r.view 50 4)) s cbstatOp

/-- CBSTAT_X (R366): CBSTAT selecting entry, count or valid bit. -/
def execCbstatX (x : XF) (s : State) : Res := guarded (some (x.view 50 4)) s cbstatOp

end Sys2Proof.Machine
end

