-- ==== Sys2Proof/Machine/Dispatch.lean ====
section
/-! DEFINITION. Which meaning each instruction has, one arm per constructor. -/

namespace Sys2Proof.Machine

/-- One step of the part: each constructor of `Instr` by its own meaning. -/
def exec (i : Instr) (s : State) : Host.Outcome State Fault Refusal :=
  match i with
  | .reset => Sys2Proof.Machine.execReset s
  | .bootStageDone ok cxl => Sys2Proof.Machine.execBootStageDone ok cxl s
  | .domainWrite v peers => Sys2Proof.Machine.execDomainWrite v peers s
  | .domainWaitTimeout peers => Sys2Proof.Machine.execDomainWaitTimeout peers s
  | .lomuxPortDown mod port => Sys2Proof.Machine.execLomuxPortDown mod port s
  | .routeError u va => Sys2Proof.Machine.execRouteError u va s
  | .linkLevelRetry port => Sys2Proof.Machine.execLinkLevelRetry port s
  | .refresh found => Sys2Proof.Machine.execRefresh found s
  | .thermalSample tlogic tdram => Sys2Proof.Machine.execThermalSample tlogic tdram s
  | .fwAssert => Sys2Proof.Machine.execFwAssert s
  | .internalUe => Sys2Proof.Machine.execInternalUe s
  | .dieLinkFailure => Sys2Proof.Machine.execDieLinkFailure s
  | .enq whole data => Sys2Proof.Machine.execEnq whole data s
  | .openWindow v => Sys2Proof.Machine.execOpenWindow v s
  | .reattach v => Sys2Proof.Machine.execReattach v s
  | .hostAckDseq v => Sys2Proof.Machine.execHostAckDseq v s
  | .msixModerationExpiry => Sys2Proof.Machine.execMsixModerationExpiry s
  | .registerWrite off v => Sys2Proof.Machine.execRegisterWrite off v s
  | .clearOnRead off => Sys2Proof.Machine.execClearOnRead off s
  | .reconcileCount slot cmd => Sys2Proof.Machine.execReconcileCount slot cmd s
  | .reconcileBlend slot cmd => Sys2Proof.Machine.execReconcileBlend slot cmd s
  | .reconcileRead slot cmd => Sys2Proof.Machine.execReconcileRead slot cmd s
  | .layoutChange peers => Sys2Proof.Machine.execLayoutChange peers s
  | .fwBegin => Sys2Proof.Machine.execFwBegin s
  | .fwChunk => Sys2Proof.Machine.execFwChunk s
  | .fwCommit => Sys2Proof.Machine.execFwCommit s
  | .attest => Sys2Proof.Machine.execAttest s
  | .attestRead => Sys2Proof.Machine.execAttestRead s
  | .certRead => Sys2Proof.Machine.execCertRead s
  | .dumpNow => Sys2Proof.Machine.execDumpNow s
  | .dumpRead => Sys2Proof.Machine.execDumpRead s
  | .cxlMemRead pa n => Sys2Proof.Machine.execCxlMemRead pa n s
  | .memwr pa data => Sys2Proof.Machine.execMemwr pa data s
  | .memwrptl pa data => Sys2Proof.Machine.execMemwrptl pa data s
  | .bar4Read pa n => Sys2Proof.Machine.execBar4Read pa n s
  | .bar4Write pa data => Sys2Proof.Machine.execBar4Write pa data s
  | .snpinv ha => Sys2Proof.Machine.execSnpinv ha s
  | .snpdata ha => Sys2Proof.Machine.execSnpdata ha s
  | .snpcur ha => Sys2Proof.Machine.execSnpcur ha s
  | .birsp pa data => Sys2Proof.Machine.execBirsp pa data s
  | .hostLineResponse ha exclusive data => Sys2Proof.Machine.execHostLineResponse ha exclusive data s
  | .hostReadCompletion ha data => Sys2Proof.Machine.execHostReadCompletion ha data s
  | .atomicopCompletion ha data => Sys2Proof.Machine.execAtomicopCompletion ha data s
  | .zeroLengthReadCompletion u => Sys2Proof.Machine.execZeroLengthReadCompletion u s
  | .homeRead core pa => Sys2Proof.Machine.execHomeRead core pa s
  | .homeWrite core pa data => Sys2Proof.Machine.execHomeWrite core pa data s
  | .writeAck u => Sys2Proof.Machine.execWriteAck u s
  | .leaseExpiry obj => Sys2Proof.Machine.execLeaseExpiry obj s
  | .homeAmo u f pa n cmp y => Sys2Proof.Machine.execHomeAmo u f pa n cmp y s
  | .accordStore u pa v => Sys2Proof.Machine.execAccordStore u pa v s
  | .accordBlend u pa op cond v => Sys2Proof.Machine.execAccordBlend u pa op cond v s
  | .scratchpadPortAccess core off n store => Sys2Proof.Machine.execScratchpadPortAccess core off n store s
  | .feDeadline u => Sys2Proof.Machine.execFeDeadline u s
  | .stashLineFill core off => Sys2Proof.Machine.execStashLineFill core off s
  | .pageWalk cluster ctx sup kind va => Sys2Proof.Machine.execPageWalk cluster ctx sup kind va s
  | .streamPrefetch u q n => Sys2Proof.Machine.execStreamPrefetch u q n s
  | .jobPop => Sys2Proof.Machine.execJobPop s
  | .gangPlace => Sys2Proof.Machine.execGangPlace s
  | .placementBackoffExpiry handle gang => Sys2Proof.Machine.execPlacementBackoffExpiry handle gang s
  | .strandHalt u progress => Sys2Proof.Machine.execStrandHalt u progress s
  | .writeOutComplete u => Sys2Proof.Machine.execWriteOutComplete u s
  | .contextRestore sr u => Sys2Proof.Machine.execContextRestore sr u s
  | .tileWriteback core tile => Sys2Proof.Machine.execTileWriteback core tile s
  | .jobComplete job => Sys2Proof.Machine.execJobComplete job s
  | .contractRelease id => Sys2Proof.Machine.execContractRelease id s
  | .budgetOverrun id => Sys2Proof.Machine.execBudgetOverrun id s
  | .watchdogExpiry u => Sys2Proof.Machine.execWatchdogExpiry u s
  | .ctadmitAdmit va => Sys2Proof.Machine.execCtadmitAdmit va s
  | .ctadmitWithdraw va => Sys2Proof.Machine.execCtadmitWithdraw va s
  | .bankCommandStart grant => Sys2Proof.Machine.execBankCommandStart grant s
  | .tableBuildEnd bank => Sys2Proof.Machine.execTableBuildEnd bank s
  | .rtreeRootWrite grant n => Sys2Proof.Machine.execRtreeRootWrite grant n s
  | .bankCommandComplete grant => Sys2Proof.Machine.execBankCommandComplete grant s
  | .copySectorTranslated core copy => Sys2Proof.Machine.execCopySectorTranslated core copy s
  | .copySectorComplete core copy => Sys2Proof.Machine.execCopySectorComplete core copy s
  | .collectiveArrival p kind desc => Sys2Proof.Machine.execCollectiveArrival p kind desc s
  | .collectiveComplete rend => Sys2Proof.Machine.execCollectiveComplete rend s
  | .add r => Sys2Proof.Machine.execAdd r s
  | .sub r => Sys2Proof.Machine.execSub r s
  | .and r => Sys2Proof.Machine.execAnd r s
  | .or r => Sys2Proof.Machine.execOr r s
  | .xor r => Sys2Proof.Machine.execXor r s
  | .andn r => Sys2Proof.Machine.execAndn r s
  | .sll r => Sys2Proof.Machine.execSll r s
  | .srl r => Sys2Proof.Machine.execSrl r s
  | .sra r => Sys2Proof.Machine.execSra r s
  | .ror r => Sys2Proof.Machine.execRor r s
  | .slt r => Sys2Proof.Machine.execSlt r s
  | .sltu r => Sys2Proof.Machine.execSltu r s
  | .min r => Sys2Proof.Machine.execMin r s
  | .max r => Sys2Proof.Machine.execMax r s
  | .minu r => Sys2Proof.Machine.execMinu r s
  | .maxu r => Sys2Proof.Machine.execMaxu r s
  | .mul r => Sys2Proof.Machine.execMul r s
  | .mulh r => Sys2Proof.Machine.execMulh r s
  | .mulhu r => Sys2Proof.Machine.execMulhu r s
  | .div r => Sys2Proof.Machine.execDiv r s
  | .divu r => Sys2Proof.Machine.execDivu r s
  | .rem r => Sys2Proof.Machine.execRem r s
  | .remu r => Sys2Proof.Machine.execRemu r s
  | .clz r => Sys2Proof.Machine.execClz r s
  | .ctz r => Sys2Proof.Machine.execCtz r s
  | .popc r => Sys2Proof.Machine.execPopc r s
  | .brev r => Sys2Proof.Machine.execBrev r s
  | .bswap r => Sys2Proof.Machine.execBswap r s
  | .clmul r => Sys2Proof.Machine.execClmul r s
  | .clmulh r => Sys2Proof.Machine.execClmulh r s
  | .sextB r => Sys2Proof.Machine.execSextB r s
  | .sextH r => Sys2Proof.Machine.execSextH r s
  | .sextW r => Sys2Proof.Machine.execSextW r s
  | .zextB r => Sys2Proof.Machine.execZextB r s
  | .zextH r => Sys2Proof.Machine.execZextH r s
  | .zextW r => Sys2Proof.Machine.execZextW r s
  | .extr r => Sys2Proof.Machine.execExtr r s
  | .insr r => Sys2Proof.Machine.execInsr r s
  | .csel r => Sys2Proof.Machine.execCsel r s
  | .addi y => Sys2Proof.Machine.execAddi y s
  | .addiL y => Sys2Proof.Machine.execAddiL y s
  | .andi y => Sys2Proof.Machine.execAndi y s
  | .andiL y => Sys2Proof.Machine.execAndiL y s
  | .ori y => Sys2Proof.Machine.execOri y s
  | .oriL y => Sys2Proof.Machine.execOriL y s
  | .xori y => Sys2Proof.Machine.execXori y s
  | .xoriL y => Sys2Proof.Machine.execXoriL y s
  | .slli y => Sys2Proof.Machine.execSlli y s
  | .srli y => Sys2Proof.Machine.execSrli y s
  | .srai y => Sys2Proof.Machine.execSrai y s
  | .rori y => Sys2Proof.Machine.execRori y s
  | .slti y => Sys2Proof.Machine.execSlti y s
  | .sltiL y => Sys2Proof.Machine.execSltiL y s
  | .sltiu y => Sys2Proof.Machine.execSltiu y s
  | .sltiuL y => Sys2Proof.Machine.execSltiuL y s
  | .li y => Sys2Proof.Machine.execLi y s
  | .liL y => Sys2Proof.Machine.execLiL y s
  | .lpc j => Sys2Proof.Machine.execLpc j s
  | .lpcL j => Sys2Proof.Machine.execLpcL j s
  | .beq b => Sys2Proof.Machine.execBeq b s
  | .bne b => Sys2Proof.Machine.execBne b s
  | .blt b => Sys2Proof.Machine.execBlt b s
  | .bge b => Sys2Proof.Machine.execBge b s
  | .bltu b => Sys2Proof.Machine.execBltu b s
  | .bgeu b => Sys2Proof.Machine.execBgeu b s
  | .jal j => Sys2Proof.Machine.execJal j s
  | .jalr y => Sys2Proof.Machine.execJalr y s
  | .ldB r => Sys2Proof.Machine.execLdB r s
  | .ldBX x => Sys2Proof.Machine.execLdBX x s
  | .ldH r => Sys2Proof.Machine.execLdH r s
  | .ldHX x => Sys2Proof.Machine.execLdHX x s
  | .ldW r => Sys2Proof.Machine.execLdW r s
  | .ldWX x => Sys2Proof.Machine.execLdWX x s
  | .ldD r => Sys2Proof.Machine.execLdD r s
  | .ldDX x => Sys2Proof.Machine.execLdDX x s
  | .lduB r => Sys2Proof.Machine.execLduB r s
  | .lduBX x => Sys2Proof.Machine.execLduBX x s
  | .lduH r => Sys2Proof.Machine.execLduH r s
  | .lduHX x => Sys2Proof.Machine.execLduHX x s
  | .lduW r => Sys2Proof.Machine.execLduW r s
  | .lduWX x => Sys2Proof.Machine.execLduWX x s
  | .stB r => Sys2Proof.Machine.execStB r s
  | .stBX x => Sys2Proof.Machine.execStBX x s
  | .stH r => Sys2Proof.Machine.execStH r s
  | .stHX x => Sys2Proof.Machine.execStHX x s
  | .stW r => Sys2Proof.Machine.execStW r s
  | .stWX x => Sys2Proof.Machine.execStWX x s
  | .stD r => Sys2Proof.Machine.execStD r s
  | .stDX x => Sys2Proof.Machine.execStDX x s
  | .lddI y => Sys2Proof.Machine.execLddI y s
  | .stdI b => Sys2Proof.Machine.execStdI b s
  | .amoadd r => Sys2Proof.Machine.execAmoadd r s
  | .amoaddX x => Sys2Proof.Machine.execAmoaddX x s
  | .amoand r => Sys2Proof.Machine.execAmoand r s
  | .amoandX x => Sys2Proof.Machine.execAmoandX x s
  | .amoor r => Sys2Proof.Machine.execAmoor r s
  | .amoorX x => Sys2Proof.Machine.execAmoorX x s
  | .amoxor r => Sys2Proof.Machine.execAmoxor r s
  | .amoxorX x => Sys2Proof.Machine.execAmoxorX x s
  | .amomin r => Sys2Proof.Machine.execAmomin r s
  | .amominX x => Sys2Proof.Machine.execAmominX x s
  | .amomax r => Sys2Proof.Machine.execAmomax r s
  | .amomaxX x => Sys2Proof.Machine.execAmomaxX x s
  | .amominu r => Sys2Proof.Machine.execAmominu r s
  | .amominuX x => Sys2Proof.Machine.execAmominuX x s
  | .amomaxu r => Sys2Proof.Machine.execAmomaxu r s
  | .amomaxuX x => Sys2Proof.Machine.execAmomaxuX x s
  | .amoswap r => Sys2Proof.Machine.execAmoswap r s
  | .amoswapX x => Sys2Proof.Machine.execAmoswapX x s
  | .cas r => Sys2Proof.Machine.execCas r s
  | .casX x => Sys2Proof.Machine.execCasX x s
  | .casQ r => Sys2Proof.Machine.execCasQ r s
  | .casQX x => Sys2Proof.Machine.execCasQX x s
  | .ldF r => Sys2Proof.Machine.execLdF r s
  | .ldFX x => Sys2Proof.Machine.execLdFX x s
  | .ldFe r => Sys2Proof.Machine.execLdFe r s
  | .ldFeX x => Sys2Proof.Machine.execLdFeX x s
  | .stE r => Sys2Proof.Machine.execStE r s
  | .stEX x => Sys2Proof.Machine.execStEX x s
  | .stF r => Sys2Proof.Machine.execStF r s
  | .stFX x => Sys2Proof.Machine.execStFX x s
  | .feset r => Sys2Proof.Machine.execFeset r s
  | .fesetX x => Sys2Proof.Machine.execFesetX x s
  | .feclr r => Sys2Proof.Machine.execFeclr r s
  | .feclrX x => Sys2Proof.Machine.execFeclrX x s
  | .fence r => Sys2Proof.Machine.execFence r s
  | .fenceX x => Sys2Proof.Machine.execFenceX x s
  | .waitg r => Sys2Proof.Machine.execWaitg r s
  | .waitgX x => Sys2Proof.Machine.execWaitgX x s
  | .syncw r => Sys2Proof.Machine.execSyncw r s
  | .syncwX x => Sys2Proof.Machine.execSyncwX x s
  | .blend r => Sys2Proof.Machine.execBlend r s
  | .blendX x => Sys2Proof.Machine.execBlendX x s
  | .blendC r => Sys2Proof.Machine.execBlendC r s
  | .blendCX x => Sys2Proof.Machine.execBlendCX x s
  | .ldcA r => Sys2Proof.Machine.execLdcA r s
  | .ldcAX x => Sys2Proof.Machine.execLdcAX x s
  | .obsclr r => Sys2Proof.Machine.execObsclr r s
  | .obsclrX x => Sys2Proof.Machine.execObsclrX x s
  | .vld r => Sys2Proof.Machine.execVld r s
  | .vldX x => Sys2Proof.Machine.execVldX x s
  | .vlds r => Sys2Proof.Machine.execVlds r s
  | .vldsX x => Sys2Proof.Machine.execVldsX x s
  | .vldx r => Sys2Proof.Machine.execVldx r s
  | .vldxX x => Sys2Proof.Machine.execVldxX x s
  | .vldFf r => Sys2Proof.Machine.execVldFf r s
  | .vldFfX x => Sys2Proof.Machine.execVldFfX x s
  | .vst r => Sys2Proof.Machine.execVst r s
  | .vstX x => Sys2Proof.Machine.execVstX x s
  | .vsts r => Sys2Proof.Machine.execVsts r s
  | .vstsX x => Sys2Proof.Machine.execVstsX x s
  | .vstx r => Sys2Proof.Machine.execVstx r s
  | .vstxX x => Sys2Proof.Machine.execVstxX x s
  | .vlda r => Sys2Proof.Machine.execVlda r s
  | .vldaX x => Sys2Proof.Machine.execVldaX x s
  | .vldsA r => Sys2Proof.Machine.execVldsA r s
  | .vldsAX x => Sys2Proof.Machine.execVldsAX x s
  | .vamoadd r => Sys2Proof.Machine.execVamoadd r s
  | .vamoaddX x => Sys2Proof.Machine.execVamoaddX x s
  | .vamoand r => Sys2Proof.Machine.execVamoand r s
  | .vamoandX x => Sys2Proof.Machine.execVamoandX x s
  | .vamoor r => Sys2Proof.Machine.execVamoor r s
  | .vamoorX x => Sys2Proof.Machine.execVamoorX x s
  | .vamoxor r => Sys2Proof.Machine.execVamoxor r s
  | .vamoxorX x => Sys2Proof.Machine.execVamoxorX x s
  | .vamomin r => Sys2Proof.Machine.execVamomin r s
  | .vamominX x => Sys2Proof.Machine.execVamominX x s
  | .vamomax r => Sys2Proof.Machine.execVamomax r s
  | .vamomaxX x => Sys2Proof.Machine.execVamomaxX x s
  | .vamoswap r => Sys2Proof.Machine.execVamoswap r s
  | .vamoswapX x => Sys2Proof.Machine.execVamoswapX x s
  | .strset r => Sys2Proof.Machine.execStrset r s
  | .strsetX x => Sys2Proof.Machine.execStrsetX x s
  | .strclr r => Sys2Proof.Machine.execStrclr r s
  | .strclrX x => Sys2Proof.Machine.execStrclrX x s
  | .strstat r => Sys2Proof.Machine.execStrstat r s
  | .strstatX x => Sys2Proof.Machine.execStrstatX x s
  | .cplvl r => Sys2Proof.Machine.execCplvl r s
  | .cplvlX x => Sys2Proof.Machine.execCplvlX x s
  | .cpgo r => Sys2Proof.Machine.execCpgo r s
  | .cpgoX x => Sys2Proof.Machine.execCpgoX x s
  | .cpstat r => Sys2Proof.Machine.execCpstat r s
  | .cpstatX x => Sys2Proof.Machine.execCpstatX x s
  | .cpcan r => Sys2Proof.Machine.execCpcan r s
  | .cpcanX x => Sys2Proof.Machine.execCpcanX x s
  | .flinit r => Sys2Proof.Machine.execFlinit r s
  | .flinitX x => Sys2Proof.Machine.execFlinitX x s
  | .awaitf r => Sys2Proof.Machine.execAwaitf r s
  | .awaitfX x => Sys2Proof.Machine.execAwaitfX x s
  | .rels r => Sys2Proof.Machine.execRels r s
  | .relsX x => Sys2Proof.Machine.execRelsX x s
  | .flstat r => Sys2Proof.Machine.execFlstat r s
  | .flstatX x => Sys2Proof.Machine.execFlstatX x s
  | .stashmap r => Sys2Proof.Machine.execStashmap r s
  | .stashmapX x => Sys2Proof.Machine.execStashmapX x s
  | .stashunmap r => Sys2Proof.Machine.execStashunmap r s
  | .stashunmapX x => Sys2Proof.Machine.execStashunmapX x s
  | .stashwb r => Sys2Proof.Machine.execStashwb r s
  | .stashwbX x => Sys2Proof.Machine.execStashwbX x s
  | .cwb r => Sys2Proof.Machine.execCwb r s
  | .cwbX x => Sys2Proof.Machine.execCwbX x s
  | .cinv r => Sys2Proof.Machine.execCinv r s
  | .cinvX x => Sys2Proof.Machine.execCinvX x s
  | .cwbinv r => Sys2Proof.Machine.execCwbinv r s
  | .cwbinvX x => Sys2Proof.Machine.execCwbinvX x s
  | .collred r => Sys2Proof.Machine.execCollred r s
  | .collredX x => Sys2Proof.Machine.execCollredX x s
  | .collgat r => Sys2Proof.Machine.execCollgat r s
  | .collgatX x => Sys2Proof.Machine.execCollgatX x s
  | .collbar r => Sys2Proof.Machine.execCollbar r s
  | .collbarX x => Sys2Proof.Machine.execCollbarX x s
  | .vadd r => Sys2Proof.Machine.execVadd r s
  | .vaddX x => Sys2Proof.Machine.execVaddX x s
  | .vsub r => Sys2Proof.Machine.execVsub r s
  | .vsubX x => Sys2Proof.Machine.execVsubX x s
  | .vrsub r => Sys2Proof.Machine.execVrsub r s
  | .vrsubX x => Sys2Proof.Machine.execVrsubX x s
  | .vmul r => Sys2Proof.Machine.execVmul r s
  | .vmulX x => Sys2Proof.Machine.execVmulX x s
  | .vmulh r => Sys2Proof.Machine.execVmulh r s
  | .vmulhX x => Sys2Proof.Machine.execVmulhX x s
  | .vmacc r => Sys2Proof.Machine.execVmacc r s
  | .vmaccX x => Sys2Proof.Machine.execVmaccX x s
  | .vand r => Sys2Proof.Machine.execVand r s
  | .vandX x => Sys2Proof.Machine.execVandX x s
  | .vor r => Sys2Proof.Machine.execVor r s
  | .vorX x => Sys2Proof.Machine.execVorX x s
  | .vxor r => Sys2Proof.Machine.execVxor r s
  | .vxorX x => Sys2Proof.Machine.execVxorX x s
  | .vsll r => Sys2Proof.Machine.execVsll r s
  | .vsllX x => Sys2Proof.Machine.execVsllX x s
  | .vsrl r => Sys2Proof.Machine.execVsrl r s
  | .vsrlX x => Sys2Proof.Machine.execVsrlX x s
  | .vsra r => Sys2Proof.Machine.execVsra r s
  | .vsraX x => Sys2Proof.Machine.execVsraX x s
  | .vmin r => Sys2Proof.Machine.execVmin r s
  | .vminX x => Sys2Proof.Machine.execVminX x s
  | .vmax r => Sys2Proof.Machine.execVmax r s
  | .vmaxX x => Sys2Proof.Machine.execVmaxX x s
  | .vminu r => Sys2Proof.Machine.execVminu r s
  | .vminuX x => Sys2Proof.Machine.execVminuX x s
  | .vmaxu r => Sys2Proof.Machine.execVmaxu r s
  | .vmaxuX x => Sys2Proof.Machine.execVmaxuX x s
  | .vsadd r => Sys2Proof.Machine.execVsadd r s
  | .vsaddX x => Sys2Proof.Machine.execVsaddX x s
  | .vssub r => Sys2Proof.Machine.execVssub r s
  | .vssubX x => Sys2Proof.Machine.execVssubX x s
  | .vabs r => Sys2Proof.Machine.execVabs r s
  | .vabsX x => Sys2Proof.Machine.execVabsX x s
  | .vclmul r => Sys2Proof.Machine.execVclmul r s
  | .vclmulX x => Sys2Proof.Machine.execVclmulX x s
  | .vclmulh r => Sys2Proof.Machine.execVclmulh r s
  | .vclmulhX x => Sys2Proof.Machine.execVclmulhX x s
  | .vpsum r => Sys2Proof.Machine.execVpsum r s
  | .vpsumX x => Sys2Proof.Machine.execVpsumX x s
  | .vcmpEq r => Sys2Proof.Machine.execVcmpEq r s
  | .vcmpEqX x => Sys2Proof.Machine.execVcmpEqX x s
  | .vcmpNe r => Sys2Proof.Machine.execVcmpNe r s
  | .vcmpNeX x => Sys2Proof.Machine.execVcmpNeX x s
  | .vcmpLt r => Sys2Proof.Machine.execVcmpLt r s
  | .vcmpLtX x => Sys2Proof.Machine.execVcmpLtX x s
  | .vcmpLe r => Sys2Proof.Machine.execVcmpLe r s
  | .vcmpLeX x => Sys2Proof.Machine.execVcmpLeX x s
  | .vcmpLtu r => Sys2Proof.Machine.execVcmpLtu r s
  | .vcmpLtuX x => Sys2Proof.Machine.execVcmpLtuX x s
  | .vcmpLeu r => Sys2Proof.Machine.execVcmpLeu r s
  | .vcmpLeuX x => Sys2Proof.Machine.execVcmpLeuX x s
  | .vfcmpEq r => Sys2Proof.Machine.execVfcmpEq r s
  | .vfcmpEqX x => Sys2Proof.Machine.execVfcmpEqX x s
  | .vfcmpLt r => Sys2Proof.Machine.execVfcmpLt r s
  | .vfcmpLtX x => Sys2Proof.Machine.execVfcmpLtX x s
  | .vfcmpLe r => Sys2Proof.Machine.execVfcmpLe r s
  | .vfcmpLeX x => Sys2Proof.Machine.execVfcmpLeX x s
  | .vfcmpUn r => Sys2Proof.Machine.execVfcmpUn r s
  | .vfcmpUnX x => Sys2Proof.Machine.execVfcmpUnX x s
  | .vfadd r => Sys2Proof.Machine.execVfadd r s
  | .vfaddX x => Sys2Proof.Machine.execVfaddX x s
  | .vfsub r => Sys2Proof.Machine.execVfsub r s
  | .vfsubX x => Sys2Proof.Machine.execVfsubX x s
  | .vfmul r => Sys2Proof.Machine.execVfmul r s
  | .vfmulX x => Sys2Proof.Machine.execVfmulX x s
  | .vfma r => Sys2Proof.Machine.execVfma r s
  | .vfmaX x => Sys2Proof.Machine.execVfmaX x s
  | .vfnma r => Sys2Proof.Machine.execVfnma r s
  | .vfnmaX x => Sys2Proof.Machine.execVfnmaX x s
  | .vfdiv r => Sys2Proof.Machine.execVfdiv r s
  | .vfdivX x => Sys2Proof.Machine.execVfdivX x s
  | .vfsqrt r => Sys2Proof.Machine.execVfsqrt r s
  | .vfsqrtX x => Sys2Proof.Machine.execVfsqrtX x s
  | .vfmin r => Sys2Proof.Machine.execVfmin r s
  | .vfminX x => Sys2Proof.Machine.execVfminX x s
  | .vfmax r => Sys2Proof.Machine.execVfmax r s
  | .vfmaxX x => Sys2Proof.Machine.execVfmaxX x s
  | .vfsign r => Sys2Proof.Machine.execVfsign r s
  | .vfsignX x => Sys2Proof.Machine.execVfsignX x s
  | .vfclass r => Sys2Proof.Machine.execVfclass r s
  | .vfclassX x => Sys2Proof.Machine.execVfclassX x s
  | .vfrcp r => Sys2Proof.Machine.execVfrcp r s
  | .vfrcpX x => Sys2Proof.Machine.execVfrcpX x s
  | .vfrsq r => Sys2Proof.Machine.execVfrsq r s
  | .vfrsqX x => Sys2Proof.Machine.execVfrsqX x s
  | .vfexp2 r => Sys2Proof.Machine.execVfexp2 r s
  | .vfexp2X x => Sys2Proof.Machine.execVfexp2X x s
  | .vflog2 r => Sys2Proof.Machine.execVflog2 r s
  | .vflog2X x => Sys2Proof.Machine.execVflog2X x s
  | .vftanh r => Sys2Proof.Machine.execVftanh r s
  | .vftanhX x => Sys2Proof.Machine.execVftanhX x s
  | .vcvt r => Sys2Proof.Machine.execVcvt r s
  | .vcvtX x => Sys2Proof.Machine.execVcvtX x s
  | .vqnt x => Sys2Proof.Machine.execVqnt x s
  | .vpack x => Sys2Proof.Machine.execVpack x s
  | .vunpk x => Sys2Proof.Machine.execVunpk x s
  | .kand r => Sys2Proof.Machine.execKand r s
  | .kandX x => Sys2Proof.Machine.execKandX x s
  | .kor r => Sys2Proof.Machine.execKor r s
  | .korX x => Sys2Proof.Machine.execKorX x s
  | .kxor r => Sys2Proof.Machine.execKxor r s
  | .kxorX x => Sys2Proof.Machine.execKxorX x s
  | .knot r => Sys2Proof.Machine.execKnot r s
  | .knotX x => Sys2Proof.Machine.execKnotX x s
  | .kmov r => Sys2Proof.Machine.execKmov r s
  | .kmovX x => Sys2Proof.Machine.execKmovX x s
  | .kpop r => Sys2Proof.Machine.execKpop r s
  | .kpopX x => Sys2Proof.Machine.execKpopX x s
  | .kfirst r => Sys2Proof.Machine.execKfirst r s
  | .kfirstX x => Sys2Proof.Machine.execKfirstX x s
  | .ksbf r => Sys2Proof.Machine.execKsbf r s
  | .ksbfX x => Sys2Proof.Machine.execKsbfX x s
  | .ksif r => Sys2Proof.Machine.execKsif r s
  | .ksifX x => Sys2Proof.Machine.execKsifX x s
  | .ksof r => Sys2Proof.Machine.execKsof r s
  | .ksofX x => Sys2Proof.Machine.execKsofX x s
  | .vperm r => Sys2Proof.Machine.execVperm r s
  | .vpermX x => Sys2Proof.Machine.execVpermX x s
  | .vslideup r => Sys2Proof.Machine.execVslideup r s
  | .vslideupX x => Sys2Proof.Machine.execVslideupX x s
  | .vslidedn r => Sys2Proof.Machine.execVslidedn r s
  | .vslidednX x => Sys2Proof.Machine.execVslidednX x s
  | .vbcast r => Sys2Proof.Machine.execVbcast r s
  | .vbcastX x => Sys2Proof.Machine.execVbcastX x s
  | .vcompr r => Sys2Proof.Machine.execVcompr r s
  | .vcomprX x => Sys2Proof.Machine.execVcomprX x s
  | .vexpd r => Sys2Proof.Machine.execVexpd r s
  | .vexpdX x => Sys2Proof.Machine.execVexpdX x s
  | .vmerge r => Sys2Proof.Machine.execVmerge r s
  | .vmergeX x => Sys2Proof.Machine.execVmergeX x s
  | .vmvsv r => Sys2Proof.Machine.execVmvsv r s
  | .vmvsvX x => Sys2Proof.Machine.execVmvsvX x s
  | .vmvvs r => Sys2Proof.Machine.execVmvvs r s
  | .vmvvsX x => Sys2Proof.Machine.execVmvvsX x s
  | .viota r => Sys2Proof.Machine.execViota r s
  | .viotaX x => Sys2Proof.Machine.execViotaX x s
  | .vid r => Sys2Proof.Machine.execVid r s
  | .vidX x => Sys2Proof.Machine.execVidX x s
  | .vredsum r => Sys2Proof.Machine.execVredsum r s
  | .vredsumX x => Sys2Proof.Machine.execVredsumX x s
  | .vredmax r => Sys2Proof.Machine.execVredmax r s
  | .vredmaxX x => Sys2Proof.Machine.execVredmaxX x s
  | .vredmin r => Sys2Proof.Machine.execVredmin r s
  | .vredminX x => Sys2Proof.Machine.execVredminX x s
  | .vfredusum r => Sys2Proof.Machine.execVfredusum r s
  | .vfredusumX x => Sys2Proof.Machine.execVfredusumX x s
  | .vfredosum r => Sys2Proof.Machine.execVfredosum r s
  | .vfredosumX x => Sys2Proof.Machine.execVfredosumX x s
  | .vfredmax r => Sys2Proof.Machine.execVfredmax r s
  | .vfredmaxX x => Sys2Proof.Machine.execVfredmaxX x s
  | .vfredmin r => Sys2Proof.Machine.execVfredmin r s
  | .vfredminX x => Sys2Proof.Machine.execVfredminX x s
  | .vredmaxsum r => Sys2Proof.Machine.execVredmaxsum r s
  | .vredmaxsumX x => Sys2Proof.Machine.execVredmaxsumX x s
  | .vsetvl r => Sys2Proof.Machine.execVsetvl r s
  | .vsetvli r => Sys2Proof.Machine.execVsetvli r s
  | .opacc r => Sys2Proof.Machine.execOpacc r s
  | .opaccX x => Sys2Proof.Machine.execOpaccX x s
  | .opaccn r => Sys2Proof.Machine.execOpaccn r s
  | .opaccnX x => Sys2Proof.Machine.execOpaccnX x s
  | .accz r => Sys2Proof.Machine.execAccz r s
  | .acczX x => Sys2Proof.Machine.execAcczX x s
  | .accld r => Sys2Proof.Machine.execAccld r s
  | .accldX x => Sys2Proof.Machine.execAccldX x s
  | .accrd r => Sys2Proof.Machine.execAccrd r s
  | .accrdX x => Sys2Proof.Machine.execAccrdX x s
  | .accwr r => Sys2Proof.Machine.execAccwr r s
  | .accwrX x => Sys2Proof.Machine.execAccwrX x s
  | .accscale r => Sys2Proof.Machine.execAccscale r s
  | .accscaleX x => Sys2Proof.Machine.execAccscaleX x s
  | .drain r => Sys2Proof.Machine.execDrain r s
  | .drainX x => Sys2Proof.Machine.execDrainX x s
  | .histo r => Sys2Proof.Machine.execHisto r s
  | .histoX x => Sys2Proof.Machine.execHistoX x s
  | .scalepick x => Sys2Proof.Machine.execScalepick x s
  | .pwlset r => Sys2Proof.Machine.execPwlset r s
  | .pwlsetX x => Sys2Proof.Machine.execPwlsetX x s
  | .cbld r => Sys2Proof.Machine.execCbld r s
  | .cbldX x => Sys2Proof.Machine.execCbldX x s
  | .cbset r => Sys2Proof.Machine.execCbset r s
  | .cbsetX x => Sys2Proof.Machine.execCbsetX x s
  | .cbinv r => Sys2Proof.Machine.execCbinv r s
  | .cbinvX x => Sys2Proof.Machine.execCbinvX x s
  | .cbuse r => Sys2Proof.Machine.execCbuse r s
  | .cbuseX x => Sys2Proof.Machine.execCbuseX x s
  | .cbstat r => Sys2Proof.Machine.execCbstat r s
  | .cbstatX x => Sys2Proof.Machine.execCbstatX x s
  | .bscope r => Sys2Proof.Machine.execBscope r s
  | .bscopeX x => Sys2Proof.Machine.execBscopeX x s
  | .bnest r => Sys2Proof.Machine.execBnest r s
  | .bnestX x => Sys2Proof.Machine.execBnestX x s
  | .bbody r => Sys2Proof.Machine.execBbody r s
  | .bbodyX x => Sys2Proof.Machine.execBbodyX x s
  | .bcmd r => Sys2Proof.Machine.execBcmd r s
  | .bcmdX x => Sys2Proof.Machine.execBcmdX x s
  | .bwait r => Sys2Proof.Machine.execBwait r s
  | .bwaitX x => Sys2Proof.Machine.execBwaitX x s
  | .bfence r => Sys2Proof.Machine.execBfence r s
  | .bfenceX x => Sys2Proof.Machine.execBfenceX x s
  | .bstat r => Sys2Proof.Machine.execBstat r s
  | .bstatX x => Sys2Proof.Machine.execBstatX x s
  | .trap r => Sys2Proof.Machine.execTrap r s
  | .trapX x => Sys2Proof.Machine.execTrapX x s
  | .eret r => Sys2Proof.Machine.execEret r s
  | .eretX x => Sys2Proof.Machine.execEretX x s
  | .halt r => Sys2Proof.Machine.execHalt r s
  | .haltX x => Sys2Proof.Machine.execHaltX x s
  | .yield r => Sys2Proof.Machine.execYield r s
  | .yieldX x => Sys2Proof.Machine.execYieldX x s
  | .csrrd x => Sys2Proof.Machine.execCsrrd x s
  | .csrwr x => Sys2Proof.Machine.execCsrwr x s
  | .csrswp x => Sys2Proof.Machine.execCsrswp x s
  | .tlbinv r => Sys2Proof.Machine.execTlbinv r s
  | .tlbinvX x => Sys2Proof.Machine.execTlbinvX x s
  | .objdecl r => Sys2Proof.Machine.execObjdecl r s
  | .objdeclX x => Sys2Proof.Machine.execObjdeclX x s
  | .objdrop r => Sys2Proof.Machine.execObjdrop r s
  | .objdropX x => Sys2Proof.Machine.execObjdropX x s
  | .ncwset r => Sys2Proof.Machine.execNcwset r s
  | .ncwsetX x => Sys2Proof.Machine.execNcwsetX x s
  | .launch r => Sys2Proof.Machine.execLaunch r s
  | .launchX x => Sys2Proof.Machine.execLaunchX x s
  | .trigger r => Sys2Proof.Machine.execTrigger r s
  | .triggerX x => Sys2Proof.Machine.execTriggerX x s
  | .cancel r => Sys2Proof.Machine.execCancel r s
  | .cancelX x => Sys2Proof.Machine.execCancelX x s
  | .pqpush r => Sys2Proof.Machine.execPqpush r s
  | .pqpushX x => Sys2Proof.Machine.execPqpushX x s
  | .pqpop r => Sys2Proof.Machine.execPqpop r s
  | .pqpopX x => Sys2Proof.Machine.execPqpopX x s
  | .heart r => Sys2Proof.Machine.execHeart r s
  | .heartX x => Sys2Proof.Machine.execHeartX x s
  | .bnop w => Sys2Proof.Machine.execBnop w s
  | .tbuildR w => Sys2Proof.Machine.execTbuildR w s
  | .tbuildT w => Sys2Proof.Machine.execTbuildT w s
  | .tswap w => Sys2Proof.Machine.execTswap w s
  | .cbldb w => Sys2Proof.Machine.execCbldb w s
  | .luacc w => Sys2Proof.Machine.execLuacc w s
  | .luaccS w => Sys2Proof.Machine.execLuaccS w s
  | .accclr w => Sys2Proof.Machine.execAccclr w s
  | .accput w => Sys2Proof.Machine.execAccput w s
  | .bldw w => Sys2Proof.Machine.execBldw w s
  | .bstw w => Sys2Proof.Machine.execBstw w s
  | .badd w => Sys2Proof.Machine.execBadd w s
  | .bsub w => Sys2Proof.Machine.execBsub w s
  | .bmax w => Sys2Proof.Machine.execBmax w s
  | .bmin w => Sys2Proof.Machine.execBmin w s
  | .band w => Sys2Proof.Machine.execBand w s
  | .bor w => Sys2Proof.Machine.execBor w s
  | .bxor w => Sys2Proof.Machine.execBxor w s
  | .bshl w => Sys2Proof.Machine.execBshl w s
  | .bshr w => Sys2Proof.Machine.execBshr w s
  | .bcmp w => Sys2Proof.Machine.execBcmp w s
  | .bsel w => Sys2Proof.Machine.execBsel w s
  | .bcvt w => Sys2Proof.Machine.execBcvt w s
  | .mand w => Sys2Proof.Machine.execMand w s
  | .mnot w => Sys2Proof.Machine.execMnot w s
  | .skipz w => Sys2Proof.Machine.execSkipz w s
  | .rtree w => Sys2Proof.Machine.execRtree w s
  | .illegalEncoding reason member word => Sys2Proof.Machine.execIllegalEncoding reason member word s
  | .ncPageAccess pa n store => Sys2Proof.Machine.execNcPageAccess pa n store s

end Sys2Proof.Machine
end

