-- ==== Sys2Proof/Machine/Step.lean ====
section
/-! DEFINITION. One step of the part, and an instruction placed where the next step finds it. -/

namespace Sys2Proof.Machine

open Sys2Proof

/-- One step: a due event of the agenda, or the next convoy of the executing strand. -/
noncomputable def step (s : State) : Host.Outcome State Fault Refusal := stepWith exec s

/-- The state with a table row's instruction where the next step takes it (log 4): at the pc of a
    running supervisor unit for a core instruction, on a conductor for major 0x34; at the head of a
    bank's body for a BLU word. -/
noncomputable def State.withFetchWord (s : State) (nbits w : Nat) : State :=
  let ws := tableWords (w % 2 ^ nbits)
  let s := { s with pkg := { s.pkg with bootStatus := 8, fatal := none } }
  match decodeWords ws, decodeBlu (ws.headD 0) with
  | .error _, .ok i =>
    { s with agenda := [(0, i)], blu := { BluCtx.reset with first := [true], last := [true] },
             blus := mapSet s.blus 0 { Blu.reset with st := .run } }
  | _, _ =>
    let s := putTables s
    let ref : SlotRef := if majorOf (ws.headD 0) = 0x34 then { core := 128, slot := 0 } else { core := 0, slot := 0 }
    { s with mem := putWords s.mem fetchHome ws, tlb := [], micro := [], poison := setDel s.poison (fetchHome / 128),
             latent := setDel s.latent (fetchHome / 128), agenda := [], curRef := ref, others := s.others.filter (fun p => p.1 != ref),
             cur := { s.cur with st := .running, pc := BitVec.ofNat 64 fetchHome, ctx := 0, status := s.cur.status ||| 1, wait := .none,
                                 cancel := .none, pending := none, cv := .idle, prods := [], halted := false } }

end Sys2Proof.Machine
end

