-- ==== Sys2Proof/Safety.lean ====
section
/-! DEFINITION. The words claims are stated in: when an instruction runs its own effect, what completing, trapping and waiting leave, what a frame is, and the memory form every step keeps. -/

namespace Sys2Proof.Machine

open Sys2Proof

/-! ### When an instruction runs -/

/-- R197, R265: the executing strand is at a convoy of one instruction, none of it begun. A convoy of tile rows
    may have counted for HISTO before (R364). -/
def alone (t : Strand) : Bool := t.cv == { Convoy.idle with hist := t.cv.hist }

/-- R192, R263, R270: no check of R270 refuses the instruction on this agent. -/
def legal (i : Instr) (s : State) : Bool :=
  match i.view with
  | some v => illegalReason s.curRef.isConductor s.cur v == none
  | none => true

/-- R198: no STALL_UNDER trap is due. -/
def unstalled (i : Instr) (s : State) : Bool :=
  match i.view with
  | some v => !s.cur.schk.getLsbD 0 || stallUnder s.cur.prods (scalarReads s.cur v) == 0
  | none => true

/-- The instruction stands alone in its convoy, passes the checks of R270 and is not under-stalled: its own effect runs. -/
def ready (i : Instr) (s : State) : Bool := alone s.cur && legal i s && unstalled i s

/-- The view of a core instruction; a view of ADD for the others. -/
def viewOf (i : Instr) : View := (i.view).getD (RF.view { hd := { stall := 0, c := false }, d := 0, a := 0, b := 0 } 0 0)

/-- The view an instruction runs with: a base form takes its types from VTYPE (R263). -/
def typedView (i : Instr) (s : State) : View := effective s.cur (viewOf i)

/-! ### How an instruction ends -/

/-- R197: `t` with the convoy of instruction `i`, begun in `s`, retired; the strand goes on after it. -/
def completed (i : Instr) (s t : State) : State :=
  retire t (s.cur.pc + BitVec.ofNat 64 (viewOf i).bytes) (viewOf i).clearsVstart (prodsAfter s.cur (viewOf i))

/-- R290, R291: the convoy retired, the strand going on at a target. -/
def jumped (i : Instr) (s t : State) (target : Word) : State := retire t target false (prodsAfter s.cur (viewOf i))

/-- R210: a trap taken at the instruction that stands at the pc of `s`. -/
def trapped (s t : State) (cause : Nat) (val : Word) : State := trapEntry t cause val s.cur.pc

/-! ### Frames -/

/-- Nothing of the machine but the executing strand differs. -/
def onlyStrand (s t : State) : Prop := t = { s with cur := t.cur }

/-- Of the strand, only scalar registers, the pc and the bookkeeping of its convoy differ: every CSR, vector and mask register,
    stream, flacon, trap register and pending error is as before. -/
def onlyScalars (t u : Strand) : Prop :=
  u = { t with s := u.s, pc := u.pc, prods := u.prods, cv := u.cv, wait := u.wait, captured := u.captured, zeroRead := u.zeroRead, wdCount := u.wdCount }

/-- The scalar registers outside a list read as before. -/
def keepsRegs (t u : Strand) (except : List Nat) : Prop := ∀ j, j ∉ except → u.reg j = t.reg j

/-- Every byte of every memory outside a list of locations reads as before. -/
def keepsMemory (s t : State) (except : List Nat) : Prop := ∀ a, a ∉ except → Memory.read t.mem a = Memory.read s.mem a

/-- The locations of n bytes from one up. -/
def locsFrom (a : Nat) : Nat → List Nat
  | 0 => []
  | n + 1 => a :: locsFrom (a + 1) n

/-! ### Accesses of the own scratchpad -/

/-- R105, R106: n bytes at `va` are bytes `o` up of the executing core's own scratchpad window, aligned, inside the unit's
    reservation, with no stash mapping in that core. -/
def ownBytes (s : State) (va : Word) (n align o : Nat) : Prop :=
  va.toNat = 0x00FD000000000000 + o ∧ o % align = 0 ∧ s.curRef.isConductor = false ∧ s.cur.scratchBase ≤ o
    ∧ o + n ≤ s.cur.scratchBase + s.cur.scratchSize ∧ o < 0x200000
    ∧ ∀ slot, slot < 2 → (s.strand { core := s.curRef.core, slot }).stash = []

/-- Where byte o of the executing core's scratchpad stands in memory. -/
def ownLoc (s : State) (o : Nat) : Nat := (Place.scratch s.modId s.curRef.core o).loc s.modId

/-- The little-endian number of n bytes of the executing core's scratchpad. -/
def ownValue (s : State) (o n : Nat) : Nat := natOfBytes (Memory.readBytes s.mem (ownLoc s o) n)

/-- The state with n bytes of the executing core's scratchpad holding a number, little-endian. -/
def ownStore (s : State) (o n x : Nat) : State :=
  { s with mem := Memory.writeBytes s.mem (ownLoc s o) (bytesOfNat n x) }

/-- No record known as a sync word holds these bytes (R109). -/
def noSync (s : State) (o : Nat) : Prop := setHas s.syncs (ownLoc s o / 16 * 16) = false

/-- R42, R149: earlier writes are complete at a scope, none of them failed, and at SYSTEM scope in the fallback the zero-length read has been answered. -/
def settled (s : State) (scope : Nat) : Prop := s.cur.storeErrs = [] ∧ acksPending s s.cur scope = false ∧ readPending s scope = false

/-- R149: an instruction that is a release finds earlier writes complete at its scope. -/
def mayPerform (i : Instr) (s : State) : Prop :=
  (ordOf (viewOf i)).isRelease = true → settled s (viewOf i).w2.scope.toNat

/-! ### What every step keeps -/

/-- Memory is in its canonical form. -/
def MemoryForm (s : State) : Prop := Memory.wf s.mem = true

end Sys2Proof.Machine
end

