-- ==== Sys2Proof/Certificates/Slice0/Obligations.lean ====
section
/-! DEFINITION. The statements for the provers. Where a statement rests on a choice of the model, its docstring names the log entry. -/

open Sys2Proof Sys2Proof.Machine

namespace Sys2Proof.Claims

end Sys2Proof.Claims

open Sys2Proof.Claims

/-! ### Scalar instructions (R281 to R292) -/

/-- The two-operand instructions of majors 0x00 and 0x01 with the value each writes from a = s[A] and b = s[B] (R281, R283). -/
def Sys2Proof.Claims.aluTable : List ((RF → Instr) × (Word → Word → Word)) :=
  [(.add, fun a b => a + b), (.sub, fun a b => a - b), (.and, fun a b => a &&& b), (.or, fun a b => a ||| b),
   (.xor, fun a b => a ^^^ b), (.andn, fun a b => a &&& ~~~b),
   (.sll, fun a b => a <<< (b.extractLsb' 0 6).toNat), (.srl, fun a b => a >>> (b.extractLsb' 0 6).toNat),
   (.sra, fun a b => a.sshiftRight (b.extractLsb' 0 6).toNat),
   (.ror, fun a b => a >>> (b.extractLsb' 0 6).toNat ||| a <<< (64 - (b.extractLsb' 0 6).toNat)),
   (.slt, fun a b => if a.toInt < b.toInt then 1 else 0), (.sltu, fun a b => if a.toNat < b.toNat then 1 else 0),
   (.min, fun a b => if b.toInt < a.toInt then b else a), (.max, fun a b => if a.toInt < b.toInt then b else a),
   (.minu, fun a b => if b.toNat < a.toNat then b else a), (.maxu, fun a b => if a.toNat < b.toNat then b else a),
   (.mul, fun a b => BitVec.ofNat 64 (a.toNat * b.toNat)),
   (.mulh, fun a b => BitVec.ofInt 64 (a.toInt * b.toInt / (2 ^ 64 : Int))),
   (.mulhu, fun a b => BitVec.ofNat 64 (a.toNat * b.toNat / 2 ^ 64)),
   (.sextB, fun a _ => (a.setWidth 8).signExtend 64), (.sextH, fun a _ => (a.setWidth 16).signExtend 64),
   (.sextW, fun a _ => (a.setWidth 32).signExtend 64), (.zextB, fun a _ => (a.setWidth 8).setWidth 64),
   (.zextH, fun a _ => (a.setWidth 16).setWidth 64), (.zextW, fun a _ => (a.setWidth 32).setWidth 64)]

/-- R281, R283: each of these instructions that is ready completes: s[D] takes the table's value. -/
def Sys2Proof.Claims.AluResults : Prop :=
  ∀ p ∈ aluTable, ∀ (r : RF) (s : State), ready (p.1 r) s = true →
    exec (p.1 r) s = .next (completed (p.1 r) s (s.setReg r.d.toNat (p.2 (s.cur.reg r.a.toNat) (s.cur.reg r.b.toNat))))

/-- R282: what a signed division writes. -/
def Sys2Proof.Claims.signedQuotient (a b : Word) : Int :=
  if b = 0 then (if a = 0 then 0 else if a.toInt < 0 then -2 ^ 63 else 2 ^ 63 - 1)
  else if a.toInt = -2 ^ 63 ∧ b.toInt = -1 then 2 ^ 63 - 1
  else a.toInt.tdiv b.toInt

/-- R282: DIV, DIVU, REM and REMU that are ready complete; the corners saturate and nothing traps. -/
def Sys2Proof.Claims.DivisionResults : Prop :=
  ∀ (r : RF) (s : State),
    let a := s.cur.reg r.a.toNat
    let b := s.cur.reg r.b.toNat
    (ready (.div r) s = true →
      exec (.div r) s = .next (completed (.div r) s (s.setReg r.d.toNat (BitVec.ofInt 64 (signedQuotient a b)))))
    ∧ (ready (.rem r) s = true →
      exec (.rem r) s = .next (completed (.rem r) s (s.setReg r.d.toNat
        (if b = 0 then a else if a.toInt = -2 ^ 63 ∧ b.toInt = -1 then 0 else BitVec.ofInt 64 (a.toInt.tmod b.toInt)))))
    ∧ (ready (.divu r) s = true →
      exec (.divu r) s = .next (completed (.divu r) s (s.setReg r.d.toNat
        (if b = 0 then (if a = 0 then 0 else BitVec.allOnes 64) else BitVec.ofNat 64 (a.toNat / b.toNat)))))
    ∧ (ready (.remu r) s = true →
      exec (.remu r) s = .next (completed (.remu r) s (s.setReg r.d.toNat
        (if b = 0 then a else BitVec.ofNat 64 (a.toNat % b.toNat)))))

/-- Bit j of the carry-less product of two words (R281). -/
def Sys2Proof.Claims.clmulBit (a b : Word) (j : Nat) : Bool :=
  (List.range 64).foldl (fun acc i => acc ^^ (b.getLsbD i && decide (i ≤ j) && a.getLsbD (j - i))) false

/-- R281: the bit-counting, bit-moving and carry-less instructions, each with the relation between a, b and the value it writes. -/
def Sys2Proof.Claims.bitTable : List ((RF → Instr) × (Word → Word → Word → Prop)) :=
  [(.clz, fun a _ x => x.toNat ≤ 64 ∧ a.toNat < 2 ^ (64 - x.toNat) ∧ (x.toNat < 64 → a.getLsbD (63 - x.toNat) = true)),
   (.ctz, fun a _ x => x.toNat ≤ 64 ∧ (∀ j, j < x.toNat → a.getLsbD j = false) ∧ (x.toNat < 64 → a.getLsbD x.toNat = true)),
   (.popc, fun a _ x => x.toNat = ((List.range 64).filter a.getLsbD).length),
   (.brev, fun a _ x => ∀ j, j < 64 → x.getLsbD j = a.getLsbD (63 - j)),
   (.bswap, fun a _ x => ∀ j, j < 8 → x.extractLsb' (8 * j) 8 = a.extractLsb' (8 * (7 - j)) 8),
   (.clmul, fun a b x => ∀ j, j < 64 → x.getLsbD j = clmulBit a b j),
   (.clmulh, fun a b x => ∀ j, j < 64 → x.getLsbD j = clmulBit a b (64 + j))]

/-- R281: each of these that is ready completes with a value in the table's relation. -/
def Sys2Proof.Claims.BitResults : Prop :=
  ∀ p ∈ bitTable, ∀ (r : RF) (s : State), ready (p.1 r) s = true →
    ∃ x, p.2 (s.cur.reg r.a.toNat) (s.cur.reg r.b.toNat) x
      ∧ exec (p.1 r) s = .next (completed (p.1 r) s (s.setReg r.d.toNat x))

/-- R284, R285: EXTR, INSR and CSEL that are ready complete; INSR and CSEL read s[D] before they write it. -/
def Sys2Proof.Claims.FieldResults : Prop :=
  ∀ (r : RF) (s : State),
    let a := s.cur.reg r.a.toNat
    let b := s.cur.reg r.b.toNat
    let d := s.cur.reg r.d.toNat
    let lo := (b.extractLsb' 0 6).toNat
    let len := (b.extractLsb' 8 6).toNat + 1
    (ready (.extr r) s = true → ∃ x : Word,
      (∀ j, j < 64 → x.getLsbD j =
        (if j < len then a.getLsbD (lo + j) else b.getLsbD 15 && a.getLsbD (lo + len - 1)))
      ∧ exec (.extr r) s = .next (completed (.extr r) s (s.setReg r.d.toNat x)))
    ∧ (ready (.insr r) s = true → ∃ x : Word,
      (∀ j, j < 64 → x.getLsbD j = (if lo ≤ j ∧ j < lo + len then a.getLsbD (j - lo) else d.getLsbD j))
      ∧ exec (.insr r) s = .next (completed (.insr r) s (s.setReg r.d.toNat x)))
    ∧ (ready (.csel r) s = true →
      exec (.csel r) s = .next (completed (.csel r) s (s.setReg r.d.toNat (if d ≠ 0 then a else b))))

/-- R281 to R285: the register-only scalar instructions that are ready complete with the value each rule gives. -/
def Obligations.ScalarArithmetic : Prop := Claims.AluResults ∧ Claims.DivisionResults ∧ Claims.BitResults ∧ Claims.FieldResults

/-- R286: the immediate instructions with the value each writes from s[A] and the operand. -/
def Sys2Proof.Claims.immTableOf : List ((IF → Instr) × (ILF → Instr) × (Word → Word → Word)) :=
  [(.addi, .addiL, fun a x => a + x), (.andi, .andiL, fun a x => a &&& x), (.ori, .oriL, fun a x => a ||| x),
   (.xori, .xoriL, fun a x => a ^^^ x), (.slti, .sltiL, fun a x => if a.toInt < x.toInt then 1 else 0),
   (.sltiu, .sltiuL, fun a x => if a.toNat < x.toNat then 1 else 0), (.li, .liL, fun _ x => x)]

/-- R287: the shifts by an amount. -/
def Sys2Proof.Claims.shiftTable : List ((SF → Instr) × (Word → Nat → Word)) :=
  [(.slli, fun a n => a <<< n), (.srli, fun a n => a >>> n), (.srai, fun a n => a.sshiftRight n),
   (.rori, fun a n => a >>> n ||| a <<< (64 - n))]

/-- R286 to R289: the immediate instructions, shifts by an amount, LI and LPC that are ready complete, in the base length with the
    sign-extended field and in the BL length with the literal. -/
def Obligations.ImmediateResults : Prop :=
  (∀ p ∈ immTableOf, ∀ (i : IF) (s : State), ready (p.1 i) s = true →
    exec (p.1 i) s = .next (completed (p.1 i) s (s.setReg i.d.toNat (p.2.2 (s.cur.reg i.a.toNat) (i.imm.signExtend 64)))))
  ∧ (∀ p ∈ immTableOf, ∀ (i : ILF) (s : State), ready (p.2.1 i) s = true →
    exec (p.2.1 i) s = .next (completed (p.2.1 i) s (s.setReg i.i.d.toNat (p.2.2 (s.cur.reg i.i.a.toNat) i.lit))))
  ∧ (∀ p ∈ shiftTable, ∀ (i : SF) (s : State), ready (p.1 i) s = true →
    exec (p.1 i) s = .next (completed (p.1 i) s (s.setReg i.d.toNat (p.2 (s.cur.reg i.a.toNat) i.amt.toNat))))
  ∧ (∀ (j : JF) (s : State), ready (.lpc j) s = true →
    exec (.lpc j) s = .next (completed (.lpc j) s (s.setReg j.d.toNat (s.cur.pc + j.off.signExtend 64 * 4))))
  ∧ (∀ (j : JLF) (s : State), ready (.lpcL j) s = true →
    exec (.lpcL j) s = .next (completed (.lpcL j) s (s.setReg j.j.d.toNat (s.cur.pc + j.lit))))

/-- R290: the branches with the relation each takes. -/
def Sys2Proof.Claims.branchRel : List ((BF → Instr) × (Word → Word → Prop)) :=
  [(.beq, fun a b => a = b), (.bne, fun a b => a ≠ b), (.blt, fun a b => a.toInt < b.toInt), (.bge, fun a b => b.toInt ≤ a.toInt),
   (.bltu, fun a b => a.toNat < b.toNat), (.bgeu, fun a b => b.toNat ≤ a.toNat)]

/-- R290: a branch that is ready goes to P + sext(OFF, 10) × 4 when its relation holds, else on at P + 4; no register is written. -/
def Sys2Proof.Claims.BranchResults : Prop :=
  ∀ p ∈ branchRel, ∀ (w : BF) (s : State), ready (p.1 w) s = true →
    (p.2 (s.cur.reg w.a.toNat) (s.cur.reg w.b.toNat) →
      exec (p.1 w) s = .next (jumped (p.1 w) s s (s.cur.pc + w.off.signExtend 64 * 4)))
    ∧ (¬ p.2 (s.cur.reg w.a.toNat) (s.cur.reg w.b.toNat) →
      exec (p.1 w) s = .next (completed (p.1 w) s s))

/-- R291: JAL and JALR that are ready write P + 4 to s[D] and jump; a JALR to an address that is no multiple of 4 writes nothing
    and traps MISALIGN with TRAPVAL its target. -/
def Sys2Proof.Claims.JumpResults : Prop :=
  (∀ (j : JF) (s : State), ready (.jal j) s = true →
    exec (.jal j) s = .next (jumped (.jal j) s (s.setReg j.d.toNat (s.cur.pc + 4)) (s.cur.pc + j.off.signExtend 64 * 4)))
  ∧ (∀ (i : IF) (s : State), ready (.jalr i) s = true →
    let t := s.cur.reg i.a.toNat + i.imm.signExtend 64 * 4
    (t.extractLsb' 0 2 = 0 → exec (.jalr i) s = .next (jumped (.jalr i) s (s.setReg i.d.toNat (s.cur.pc + 4)) t))
    ∧ (t.extractLsb' 0 2 ≠ 0 → exec (.jalr i) s = .next (trapped s s 3 t)))

/-- R290, R291: where branches and jumps go. -/
def Obligations.ControlTransfers : Prop := Claims.BranchResults ∧ Claims.JumpResults

/-- The register-only scalar instructions of an R-form word (R281 to R285). -/
def Sys2Proof.Claims.scalarR : List (RF → Instr) :=
  aluTable.map (·.1) ++ bitTable.map (·.1) ++ [.div, .divu, .rem, .remu, .extr, .insr, .csel]

/-- Frame of the scalar arithmetic, field, select, immediate, branch and jump instructions: besides s[D], the pc and the bookkeeping of
    the convoy nothing changes: no other scalar register, no CSR, vector, mask or special register, no byte of memory. A JALR is meant
    where its target is aligned. -/
def Obligations.ScalarFrame : Prop :=
  ∀ (s t : State) (i : Instr) (d : Nat), ((∃ f ∈ scalarR, ∃ r : RF, i = f r ∧ d = r.d.toNat)
      ∨ (∃ p ∈ immTableOf, ∃ r : IF, i = p.1 r ∧ d = r.d.toNat) ∨ (∃ p ∈ immTableOf, ∃ r : ILF, i = p.2.1 r ∧ d = r.i.d.toNat)
      ∨ (∃ p ∈ shiftTable, ∃ r : SF, i = p.1 r ∧ d = r.d.toNat)
      ∨ (∃ r : JF, (i = .lpc r ∨ i = .jal r) ∧ d = r.d.toNat) ∨ (∃ r : JLF, i = .lpcL r ∧ d = r.j.d.toNat)
      ∨ (∃ r : IF, i = .jalr r ∧ d = r.d.toNat ∧ (s.cur.reg r.a.toNat + r.imm.signExtend 64 * 4).extractLsb' 0 2 = 0)
      ∨ (∃ p ∈ branchRel, ∃ w : BF, i = p.1 w ∧ d = 0)) →
    ready i s = true → exec i s = .next t →
      onlyStrand s t ∧ onlyScalars s.cur t.cur ∧ keepsRegs s.cur t.cur [d] ∧ keepsMemory s t []

/-- R279: s0 reads as zero, and an instruction that names s0 as its destination writes no register; it still has its other effects:
    a JAL to s0 jumps, an ADD to s0 goes on, a load to s0
    performs its access, faults and waits. -/
def Sys2Proof.Claims.RegisterZero : Prop :=
  (∀ (t : Strand) (x : Word), t.reg 0 = 0 ∧ t.setReg 0 x = t)
  ∧ (∀ p ∈ aluTable, ∀ (r : RF) (s : State), r.d = 0 → ready (p.1 r) s = true → exec (p.1 r) s = .next (completed (p.1 r) s s))
  ∧ (∀ (j : JF) (s : State), j.d = 0 → ready (.jal j) s = true →
      exec (.jal j) s = .next (jumped (.jal j) s s (s.cur.pc + j.off.signExtend 64 * 4)))
  ∧ (∀ (r : RF) (s s1 : State), r.d = 0 → ready (.ldD r) s = true →
      let ea := s.cur.reg r.a.toNat + s.cur.reg r.b.toNat
      (∀ c, resolve s s.me .load none ea 8 8 = (s1, .error c) → exec (.ldD r) s = .next (trapped s s1 c ea))
      ∧ (∀ g s2 x, resolve s s.me .load none ea 8 8 = (s1, .ok g) → loadAt s1 s1.me g 8 (ordOf (viewOf (.ldD r))) = (s2, .val x) →
          exec (.ldD r) s = .next (completed (.ldD r) s s2)))
  ∧ (∀ (r : RF) (s : State) (o : Nat), r.d = 0 → r.b = 0 → ready (.ldF r) s = true → s.cur.wait = .none → ownBytes s (s.cur.reg r.a.toNat) 4 4 o →
      wordFull s (ownLoc s o) = false →
      ∃ t : State, exec (.ldF r) s = .next t ∧ t.cur.st = .waiting ∧ t.cur.pc = s.cur.pc)

/-- R279: a scalar register other than s0 reads back what was written to it, and no other register changes. -/
def Sys2Proof.Claims.RegisterWrite : Prop :=
  ∀ (t : Strand) (i j : Nat) (x : Word), i < 32 → i ≠ 0 → (t.setReg i x).reg i = x ∧ (j ≠ i → (t.setReg i x).reg j = t.reg j)

/-- R279: the scalar registers. -/
def Obligations.ScalarRegisters : Prop := Claims.RegisterZero ∧ Claims.RegisterWrite

/-! ### Scalar memory instructions (R93, R293 to R295, R322 to R332) -/

/-- The effective address of a MEM instruction (R293). -/
def Sys2Proof.Claims.memEa (i : Instr) (s : State) : Word :=
  s.cur.reg (viewOf i).a + s.cur.reg (viewOf i).b + (viewOf i).w2.imm16.signExtend 64

/-- R293: n bytes as a load delivers them. -/
def Sys2Proof.Claims.extended (n : Nat) (signed : Bool) (x : Nat) : Word := if signed then BitVec.ofInt 64 (sextNat (8 * n) x) else BitVec.ofNat 64 x

/-- R293: the loads with their size and whether they sign-extend. -/
def Sys2Proof.Claims.loadTable : List ((RF → Instr) × (XF → Instr) × Nat × Bool) :=
  [(.ldB, .ldBX, 1, true), (.ldH, .ldHX, 2, true), (.ldW, .ldWX, 4, true), (.ldD, .ldDX, 8, true), (.lduB, .lduBX, 1, false),
   (.lduH, .lduHX, 2, false), (.lduW, .lduWX, 4, false)]

/-- R293: the stores with their size. -/
def Sys2Proof.Claims.storeTable : List ((RF → Instr) × (XF → Instr) × Nat) :=
  [(.stB, .stBX, 1), (.stH, .stHX, 2), (.stW, .stWX, 4), (.stD, .stDX, 8)]

/-- The two forms of a table row. -/
def Sys2Proof.Claims.formsOf (f : RF → Instr) (g : XF → Instr) (i : Instr) : Prop := (∃ r, i = f r) ∨ (∃ x, i = g x)

/-- R293, R294: a load of an aligned address in the own-scratchpad window completes: s[D] takes the bytes in memory, sign- or
    zero-extended, whatever its strength, scope and cache hint; nothing else changes. -/
def Sys2Proof.Claims.ScratchpadLoads : Prop :=
  (∀ p ∈ loadTable, ∀ (i : Instr) (s : State) (o : Nat), formsOf p.1 p.2.1 i → ready i s = true →
    ownBytes s (memEa i s) p.2.2.1 p.2.2.1 o →
    exec i s = .next (completed i s (s.setReg (viewOf i).d (extended p.2.2.1 p.2.2.2 (ownValue s o p.2.2.1)))))
  ∧ (∀ (w : IF) (s : State) (o : Nat), ready (.lddI w) s = true → ownBytes s (s.cur.reg w.a.toNat + w.imm.signExtend 64 * 8) 8 8 o →
    exec (.lddI w) s = .next (completed (.lddI w) s (s.setReg w.d.toNat (BitVec.ofNat 64 (ownValue s o 8)))))

/-- R293, R294: a store to an aligned address in the own-scratchpad window completes, a release once earlier writes are complete:
    the low bytes of the data register stand there, little-endian; nothing else changes. -/
def Sys2Proof.Claims.ScratchpadStores : Prop :=
  (∀ p ∈ storeTable, ∀ (i : Instr) (s : State) (o : Nat), formsOf p.1 p.2.1 i → ready i s = true → mayPerform i s →
    ownBytes s (memEa i s) p.2.2 p.2.2 o → noSync s o →
    exec i s = .next (completed i s (ownStore s o p.2.2 (s.cur.reg (viewOf i).d).toNat)))
  ∧ (∀ (w : BF) (s : State) (o : Nat), ready (.stdI w) s = true → ownBytes s (s.cur.reg w.a.toNat + w.off.signExtend 64 * 8) 8 8 o → noSync s o →
    exec (.stdI w) s = .next (completed (.stdI w) s (ownStore s o 8 (s.cur.reg w.b.toNat).toNat)))

/-- Frame of the scalar loads and stores in the own-scratchpad window: a load changes no byte of memory and no register but s[D]; a
    store changes no byte but the n it stores, at the location of the address it computes, and no register. -/
def Sys2Proof.Claims.ScratchpadFrame : Prop :=
  (∀ p ∈ loadTable, ∀ (i : Instr) (s t : State) (o : Nat), formsOf p.1 p.2.1 i → ready i s = true →
    ownBytes s (memEa i s) p.2.2.1 p.2.2.1 o → exec i s = .next t →
    onlyStrand s t ∧ onlyScalars s.cur t.cur ∧ keepsRegs s.cur t.cur [(viewOf i).d] ∧ keepsMemory s t [])
  ∧ (∀ p ∈ storeTable, ∀ (i : Instr) (s t : State) (o : Nat), formsOf p.1 p.2.1 i → ready i s = true → mayPerform i s →
    ownBytes s (memEa i s) p.2.2 p.2.2 o → noSync s o → MemoryForm s → exec i s = .next t →
    t = { s with cur := t.cur, mem := t.mem } ∧ onlyScalars s.cur t.cur ∧ keepsRegs s.cur t.cur []
      ∧ keepsMemory s t (locsFrom (ownLoc s o) p.2.2))

/-- R293: a doubleword stored by ST.D in the own-scratchpad window is what an LD.D at the same address then loads. -/
def Sys2Proof.Claims.StoreThenLoad : Prop :=
  ∀ (r q : RF) (s t u : State) (o : Nat), ready (.stD r) s = true → ownBytes s (memEa (.stD r) s) 8 8 o → noSync s o → MemoryForm s →
    exec (.stD r) s = .next t → ready (.ldD q) t = true → ownBytes t (memEa (.ldD q) t) 8 8 o → q.d ≠ 0 →
    exec (.ldD q) t = .next u → u.cur.reg q.d.toNat = s.cur.reg r.d.toNat

/-- R293, R294: loads and stores in the own-scratchpad window, and a load of what was stored. -/
def Obligations.ScratchpadAccesses : Prop := Claims.ScratchpadLoads ∧ Claims.ScratchpadStores ∧ Claims.ScratchpadFrame ∧ Claims.StoreThenLoad

/-- R93, R294: a scalar load or store at any address: it traps MISALIGN at an address that is no multiple of its size; when the checks
    of R93 find a fault it takes that fault with TRAPVAL the address; when they find a place and the home answers a load with a
    value, the load completes with it; when a weak store is taken at its home, it completes. -/
def Sys2Proof.Claims.PlainAccesses : Prop :=
  (∀ p ∈ loadTable, ∀ (i : Instr) (s : State), formsOf p.1 p.2.1 i → ready i s = true →
    ((memEa i s).toNat % p.2.2.1 ≠ 0 → exec i s = .next (trapped s s 3 (memEa i s)))
    ∧ (∀ s1 c, resolve s s.me .load none (memEa i s) p.2.2.1 p.2.2.1 = (s1, .error c) →
        exec i s = .next (trapped s s1 c (memEa i s)))
    ∧ (∀ s1 g s2 x, resolve s s.me .load none (memEa i s) p.2.2.1 p.2.2.1 = (s1, .ok g) →
        loadAt s1 s1.me g p.2.2.1 (ordOf (viewOf i)) = (s2, .val x) →
        exec i s = .next (completed i s (s2.setReg (viewOf i).d (extended p.2.2.1 p.2.2.2 x)))))
  ∧ (∀ p ∈ storeTable, ∀ (i : Instr) (s : State), formsOf p.1 p.2.1 i → ready i s = true →
    ((memEa i s).toNat % p.2.2 ≠ 0 → exec i s = .next (trapped s s 3 (memEa i s)))
    ∧ (∀ s1 c, resolve s s.me .store none (memEa i s) p.2.2 p.2.2 = (s1, .error c) →
        exec i s = .next (trapped s s1 c (memEa i s)))
    ∧ (∀ s1 g s2, resolve s s.me .store none (memEa i s) p.2.2 p.2.2 = (s1, .ok g) → (ordOf (viewOf i)).isRelease = false →
        storeAt s1 s1.me g p.2.2 (s.cur.reg (viewOf i).d) (memEa i s) (ordOf (viewOf i)) = (s2, .done) →
        exec i s = .next (completed i s (storedAt s2 g.place p.2.2))))

/-- R293: the scalar loads and stores, each with the address and the number of its bytes. -/
def Sys2Proof.Claims.accessOf (i : Instr) (s : State) (ea : Word) (n : Nat) : Prop :=
  (∃ p ∈ loadTable, formsOf p.1 p.2.1 i ∧ ea = memEa i s ∧ n = p.2.2.1)
    ∨ (∃ p ∈ storeTable, formsOf p.1 p.2.1 i ∧ ea = memEa i s ∧ n = p.2.2)
    ∨ (∃ w : IF, i = .lddI w ∧ ea = s.cur.reg w.a.toNat + w.imm.signExtend 64 * 8 ∧ n = 8)
    ∨ (∃ w : BF, i = .stdI w ∧ ea = s.cur.reg w.a.toNat + w.off.signExtend 64 * 8 ∧ n = 8)

/-- R94, R105, R106, R192, R294: where a scalar load or store, LDD.I and STD.I among them, may not go: a lane-private address and the gaps
    about that window take ACCESS, and so does an own-scratchpad address from a conductor or outside the unit's reservation, and an address
    that is not canonical, each with TRAPVAL the address; a store writes nothing. -/
def Sys2Proof.Claims.ScratchpadViolations : Prop :=
  ∀ (i : Instr) (s : State) (ea : Word) (n : Nat), accessOf i s ea n → ready i s = true → ea.toNat % n = 0 →
    let a := ea.toNat
    ((0x00FD000000200000 ≤ a ∧ a < 0x00FE000000000000)
      ∨ (s.curRef.isConductor = true ∧ 0x00FD000000000000 ≤ a ∧ a < 0x00FD000000200000)
      ∨ (0x00FD000000000000 ≤ a ∧ a < 0x00FD000000200000 ∧
          (a < 0x00FD000000000000 + s.cur.scratchBase ∨ 0x00FD000000000000 + s.cur.scratchBase + s.cur.scratchSize < a + n))
      ∨ 2 ^ 56 ≤ a) →
    exec i s = .next (trapped s s 7 ea)

/-- R93, R105, R294: scalar accesses at any address, and where they may not go. -/
def Obligations.ScalarAccesses : Prop := Claims.PlainAccesses ∧ Claims.ScratchpadViolations

/-- R323: the atomic operations with the value each leaves of the old value and y, w bits wide. -/
def Sys2Proof.Claims.amoTable : List ((RF → Instr) × (XF → Instr) × (Nat → Nat → Nat → Nat)) :=
  [(.amoadd, .amoaddX, fun w o y => (o + y) % 2 ^ w), (.amoand, .amoandX, fun _ o y => o &&& y), (.amoor, .amoorX, fun _ o y => o ||| y),
   (.amoxor, .amoxorX, fun _ o y => o ^^^ y), (.amomin, .amominX, fun w o y => if sextNat w y < sextNat w o then y else o),
   (.amomax, .amomaxX, fun w o y => if sextNat w o < sextNat w y then y else o), (.amominu, .amominuX, fun _ o y => if y < o then y else o),
   (.amomaxu, .amomaxuX, fun _ o y => if o < y then y else o), (.amoswap, .amoswapX, fun _ _ y => y)]

/-- R323: the bytes an atomic acts on: 4 when IMM16[0] is set, else 8. -/
def Sys2Proof.Claims.amoBytes (i : Instr) : Nat := if natBit (viewOf i).imm16 0 then 4 else 8

/-- R323: an AMO on an aligned word of the own scratchpad completes: s[D] takes the old value, sign-extended, and the word takes the
    operation's result on it and s[B]. -/
def Sys2Proof.Claims.ScratchpadAtomics : Prop :=
  ∀ p ∈ amoTable, ∀ (i : Instr) (s : State) (o : Nat), formsOf p.1 p.2.1 i → ready i s = true → mayPerform i s →
    ownBytes s (s.cur.reg (viewOf i).a) (amoBytes i) (amoBytes i) o → noSync s o →
    let n := amoBytes i
    let old := ownValue s o n
    exec i s = .next (completed i s
      ((ownStore s o n (p.2.2 (8 * n) old ((s.cur.reg (viewOf i).b).toNat % 2 ^ (8 * n)))).setReg (viewOf i).d (BitVec.ofInt 64 (sextNat (8 * n) old))))

/-- R323, R324: CAS and CAS.Q on aligned bytes of the own scratchpad complete: the old value goes to s[D], for CAS.Q to the pair s[D],
    s[D + 1]; the bytes take the new value when they equal what s[D] held, and nothing is written otherwise. -/
def Sys2Proof.Claims.ScratchpadCompareAndSwap : Prop :=
  (∀ (i : Instr) (s : State) (o : Nat), formsOf .cas .casX i → ready i s = true → mayPerform i s →
    ownBytes s (s.cur.reg (viewOf i).a) (amoBytes i) (amoBytes i) o → noSync s o →
    let n := amoBytes i
    let old := ownValue s o n
    let hit := old = (s.cur.reg (viewOf i).d).toNat % 2 ^ (8 * n)
    exec i s = .next (completed i s
      ((if hit then ownStore s o n ((s.cur.reg (viewOf i).b).toNat % 2 ^ (8 * n)) else s).setReg (viewOf i).d (BitVec.ofInt 64 (sextNat (8 * n) old)))))
  ∧ (∀ (i : Instr) (s : State) (o : Nat), formsOf .casQ .casQX i → ready i s = true → mayPerform i s →
    ownBytes s (s.cur.reg (viewOf i).a) 16 16 o → noSync s o →
    let v := viewOf i
    let old := ownValue s o 16
    let hit := old = (s.cur.reg (v.d + 1)).toNat * 2 ^ 64 + (s.cur.reg v.d).toNat
    exec i s = .next (completed i s
      (((if hit then ownStore s o 16 ((s.cur.reg (v.b + 1)).toNat * 2 ^ 64 + (s.cur.reg v.b).toNat) else s).setReg v.d (BitVec.ofNat 64 old)).setReg
        (v.d + 1) (BitVec.ofNat 64 (old / 2 ^ 64)))))

/-- The address of a full/empty or sync-word instruction (R326). -/
def Sys2Proof.Claims.portEa (i : Instr) (s : State) : Word := s.cur.reg (viewOf i).a + (viewOf i).w2.imm16.signExtend 64

/-- R326 to R328: full/empty instructions on a word of the own scratchpad, no waiter standing at the ports. LD.F and LD.FE of a full
    word complete with the word, LD.FE leaving it empty; ST.F always, and ST.E at an empty word, store the low word of s[D] and set it
    full; FESET and FECLR write the bit. ST.E and ST.F are releases and wait for earlier writes. -/
def Sys2Proof.Claims.FullEmptyResults : Prop :=
  ∀ (i : Instr) (s : State) (o : Nat), ready i s = true → ownBytes s (portEa i s) 4 4 o → s.portQueue = [] → s.cur.wait = .none →
    let loc := ownLoc s o
    let d := (viewOf i).d
    (formsOf .ldF .ldFX i → wordFull s loc = true →
      exec i s = .next (completed i s (s.setReg d (BitVec.ofNat 64 (ownValue s o 4)))))
    ∧ (formsOf .ldFe .ldFeX i → wordFull s loc = true →
      exec i s = .next (completed i s ((setFull s loc false).setReg d (BitVec.ofNat 64 (ownValue s o 4)))))
    ∧ (formsOf .stE .stEX i → settled s (viewOf i).w2.scope.toNat → noSync s o → wordFull s loc = false →
      exec i s = .next (completed i s (setFull (ownStore s o 4 ((s.cur.reg d).toNat % 2 ^ 32)) loc true)))
    ∧ (formsOf .stF .stFX i → settled s (viewOf i).w2.scope.toNat → noSync s o →
      exec i s = .next (completed i s (setFull (ownStore s o 4 ((s.cur.reg d).toNat % 2 ^ 32)) loc true)))
    ∧ (formsOf .feset .fesetX i → exec i s = .next (completed i s (setFull s loc true)))
    ∧ (formsOf .feclr .feclrX i → exec i s = .next (completed i s (setFull s loc false)))

/-- R326: the full/empty instructions. -/
def Sys2Proof.Claims.isFullEmpty (i : Instr) : Prop :=
  formsOf .ldF .ldFX i ∨ formsOf .ldFe .ldFeX i ∨ formsOf .stE .stEX i ∨ formsOf .stF .stFX i ∨ formsOf .feset .fesetX i ∨ formsOf .feclr .feclrX i

/-- R326, R328: where a full/empty instruction does not complete at once. An address that is no multiple of 4 takes MISALIGN; one outside the
    two scratchpad windows ACCESS: below them, in the lane-private window, in the gaps about it, not canonical; and so does one of the own window from a
    conductor or outside the reservation. A load of an empty word with no deadline leaves the strand waiting in the port's queue with nothing written; with a
    deadline that has passed it traps FE_DEADLINE. An ST.E of a full word completes, its store waiting at the port. -/
def Sys2Proof.Claims.FullEmptyWaits : Prop :=
  ∀ (i : Instr) (s : State), isFullEmpty i → ready i s = true → s.cur.wait = .none →
    let a := (portEa i s).toNat
    (a % 4 ≠ 0 → exec i s = .next (trapped s s 3 (portEa i s)))
    ∧ (a % 4 = 0 → (a < 0x00FD000000000000 ∨ (0x00FD000000200000 ≤ a ∧ a < 0x00FE000000000000) ∨ 2 ^ 56 ≤ a) →
        exec i s = .next (trapped s s 7 (portEa i s)))
    ∧ (a % 4 = 0 → 0x00FD000000000000 ≤ a → a < 0x00FD000000200000 →
        (s.curRef.isConductor = true ∨ a < 0x00FD000000000000 + s.cur.scratchBase ∨ 0x00FD000000000000 + s.cur.scratchBase + s.cur.scratchSize < a + 4) →
        exec i s = .next (trapped s s 7 (portEa i s)))
    ∧ (∀ o, (formsOf .ldF .ldFX i ∨ formsOf .ldFe .ldFeX i) → ownBytes s (portEa i s) 4 4 o → wordFull s (ownLoc s o) = false →
        ((viewOf i).b ≠ 0 → (s.cur.reg (viewOf i).b).toNat ≤ s.now → exec i s = .next (trapped s s 19 (portEa i s)))
        ∧ ((viewOf i).b = 0 → ∃ t : State, exec i s = .next t ∧
            t.cur.st = .waiting ∧ t.cur.pc = s.cur.pc ∧ t.cur.s = s.cur.s ∧ t.mem = s.mem ∧ t.full = s.full
              ∧ t.portQueue.length = s.portQueue.length + 1))
    ∧ (∀ o, formsOf .stE .stEX i → ownBytes s (portEa i s) 4 4 o → settled s (viewOf i).w2.scope.toNat → wordFull s (ownLoc s o) = true →
        ∃ t : State, exec i s = .next (completed i s t) ∧ t = { s with portQueue := t.portQueue } ∧ t.portQueue.length = s.portQueue.length + 1)

/-- R326 to R328: LD.F, LD.FE, ST.E, ST.F, FESET and FECLR, their .X forms among them: where they complete, where they wait and where they trap. -/
def Obligations.FullEmptyAccesses : Prop := Claims.FullEmptyResults ∧ Claims.FullEmptyWaits

/-- R329 to R331: FENCE completes once earlier writes are complete at its scope, the base form at DEVICE scope, and at once when its
    predecessors hold no access; it waits for acknowledgments, then, at SYSTEM scope in the PCIe fallback, for the zero-length read it makes (R42,
    R422). WAITG completes with GEN when GEN differs from s[B]; SYNCW (log 13) stores TARGET and CTL and zeroes COUNT in a
    sync word no strand waits on. -/
def Sys2Proof.Claims.FenceAndSyncResults : Prop :=
  (∀ (r : RF) (s : State), ready (.fence r) s = true → settled s 3 → exec (.fence r) s = .next (completed (.fence r) s s))
  ∧ (∀ (x : XF) (s : State), ready (.fenceX x) s = true → (x.w2.imm16.toNat % 16 / 4 = 0 ∨ settled s x.w2.scope.toNat) →
      exec (.fenceX x) s = .next (completed (.fenceX x) s s))
  ∧ (∀ (x : XF) (s : State), ready (.fenceX x) s = true → x.w2.imm16.toNat % 16 / 4 ≠ 0 → s.cur.storeErrs = [] →
      (acksPending s s.cur x.w2.scope.toNat = true → exec (.fenceX x) s = .next (s.asking (viewOf (.fenceX x))))
      ∧ (acksPending s s.cur x.w2.scope.toNat = false → readPending s x.w2.scope.toNat = true →
          exec (.fenceX x) s = .next (State.asking { s with cur := { s.cur with zeroRead := .sent } } (viewOf (.fenceX x)))))
  ∧ (∀ (i : Instr) (s : State) (o : Nat), formsOf .waitg .waitgX i → ready i s = true → ownBytes s (portEa i s) 16 16 o →
      ownValue s (o + 8) 4 ≠ (s.cur.reg (viewOf i).b).toNat % 2 ^ 32 →
      exec i s = .next (completed i s (s.setReg (viewOf i).d (BitVec.ofNat 64 (ownValue s (o + 8) 4)))))
  ∧ (∀ (i : Instr) (s : State) (o : Nat), formsOf .syncw .syncwX i → ready i s = true → ownBytes s (portEa i s) 16 16 o →
      (∀ q ∈ s.allStrands, q.2.wait ≠ .gen (ownLoc s o)) →
      let x := (s.cur.reg (viewOf i).d).toNat
      exec i s = .next (completed i s
        (ownStore (ownStore (ownStore (nameSync s (ownLoc s o)) o 4 x) (o + 4) 4 0) (o + 12) 4 (x / 2 ^ 32))))

/-- R329 to R331: FENCE, WAITG and SYNCW complete. -/
def Obligations.FencesAndSyncWords : Prop := Claims.FenceAndSyncResults

/-! ### Atomics anywhere and accord cells (R126 to R141, R332) -/

/-- R139: the fold of an operator over a non-empty list of values, in ascending sequence order; FSUM2 is left to `fsum2`. -/
def Sys2Proof.Claims.foldOf (op : Nat) (x : Word) (xs : List Word) (val : Word) : Word :=
  if op = 0 then xs.foldl (fun a b => a + b) x
  else if op = 1 then xs.foldl (fun a b => if a.toInt < b.toInt then b else a) x
  else if op = 2 then xs.foldl (fun a b => if b.toInt < a.toInt then b else a) x
  else if op = 3 then xs.foldl (fun a b => if a.toNat < b.toNat then b else a) x
  else if op = 4 then xs.foldl (fun a b => if b.toNat < a.toNat then b else a) x
  else if op = 5 then xs.foldl (fun a b => a ||| b) x
  else if op = 6 then xs.foldl (fun a b => a &&& b) x
  else if op = 7 then xs.foldl (fun a b => a ^^^ b) x
  else if op = 8 then fsum2 (x :: xs)
  else if op = 9 then x
  else if op = 10 then (x :: xs).getLast (by simp)
  else val

/-- R18, R38, R164: the home of a place of this module's memory performs an access of it at once: the line is good, no host holds it, no write to it
    waits for the host, and it lies in no result row whose full bit is clear. -/
def Sys2Proof.Claims.atHome (s : State) (g : Target) (pa : Nat) : Prop :=
  g.place = .device s.modId pa ∧ g.nc = false ∧ g.window = false ∧ pa % 8 = 0 ∧ s.latent = [] ∧ setHas s.poison (pa / 128) = false
    ∧ s.rowClear.contains (pa / 1024) = false ∧ pa / 128 ∉ s.snoop ∧ (∀ w ∈ s.homeWrites, w.pa / 128 ≠ pa / 128)

/-- R93, R99: a translation held in the cluster's TLB takes `va` to byte `pa` of this module's memory, in an ordinary page outside every window, and
    permits the access. -/
def Sys2Proof.Claims.heldPage (s : State) (va : Word) (kind : AccessKind) (pa : Nat) : Prop :=
  s.micro = [] ∧ va.toNat < 0x00FD000000000000 ∧ pa + 8 ≤ s.ceil ∧ s.ceil ≤ 2 ^ 39 ∧ inWindow s s.cur.ctx va.toNat = false
    ∧ ∃ e, s.tlb.find? (fun x => x.covers s.curRef.cluster s.cur.ctx va.toNat) = some e ∧ permitted e.perms kind (s.cur.status.getLsbD 0) = true
        ∧ e.perms.getLsbD 7 = false ∧ pa = e.pbase + va.toNat % 2 ^ e.bits

/-- R332, R138: BLEND and BLEND.C of an accord cell that is not frozen and has a sequence left complete when the home performs them: the folded siblings
    become one with the result and the agent's next dot, the others stay before it, the context observes that dot, and s[D] takes the result.
    With nothing to fold BLEND.C leaves the cell and answers the primary value. A frozen cell takes ACCORD_FROZEN, a place outside
    every ACCORD object ACCESS, with TRAPVAL the address. -/
def Sys2Proof.Claims.AccordBlends : Prop :=
  (∀ (i : Instr) (s : State) (pa : Nat) (ob : Obj), (formsOf .blend .blendX i ∨ formsOf .blendC .blendCX i) → ready i s = true →
    (s.cur.reg (viewOf i).a).toNat % 8 = 0 → pa % 8 = 0 → heldPage s (s.cur.reg (viewOf i).a) .store pa → mayPerform i s → s.accordCell pa = some ob →
    (s.cellAt pa).frozen = false → (s.cellAt pa).ctr + 1 ≤ 2 ^ 40 - 1 → s.latent = [] → setHas s.poison (pa / 128) = false →
    s.rowClear.contains (pa / 1024) = false → pa / 128 ∉ s.snoop → (∀ w ∈ s.homeWrites, w.pa / 128 ≠ pa / 128) →
    ∃ (t : State) (x : Word), exec i s = .next (completed i s (t.setReg (viewOf i).d x)))
  ∧ ∀ (i : Instr) (cond : Bool) (s s1 : State) (g : Target), ((formsOf .blend .blendX i ∧ cond = false) ∨ (formsOf .blendC .blendCX i ∧ cond = true)) →
    ready i s = true →
    let ea := s.cur.reg (viewOf i).a
    resolve s s.me .store none ea 8 8 = (s1, .ok g) → mayPerform i s1 →
    (s1.accordAt g.place = none → exec i s = .next (trapped s s1 7 ea))
    ∧ (∀ pa ob, s1.accordAt g.place = some (pa, ob) → atHome s1 g pa →
        let s2 := homeTouch s1 (pa / 128) .cached
        let c := s2.cellAt pa
        let folds := fun (x : Sibling) => !cond || (obsDots s2.cur.obs pa).contains x.dot
        let d := dotOf (agentBits s2 (agentNumber s2.curRef)) (c.ctr + 1)
        (c.frozen = true → exec i s = .next (trapped s { s2 with cells := mapSet s2.cells pa c } 12 ea))
        ∧ (∀ x xs, c.frozen = false → c.ctr + 1 ≤ 2 ^ 40 - 1 → c.sibs.filter folds = x :: xs →
            let r := foldOf ((viewOf i).imm16 % 16) x.val (xs.map (·.val)) (s.cur.reg (viewOf i).b)
            let c' : AccCell := { c with sibs := c.sibs.filter (fun y => !folds y) ++ [{ val := r, dot := d }], ctr := c.ctr + 1 }
            let s3 := setCell s2 pa c'
            exec i s = .next (completed i s ({ s3 with cur := s3.cur.observe pa [d] }.setReg (viewOf i).d r)))
        ∧ (c.frozen = false → c.sibs.filter folds = [] →
            exec i s = .next (completed i s (s2.setReg (viewOf i).d c.primary))))

/-- R131, R332: LDC.A completes with the value at its place, the primary sibling of an accord cell, and ACNT takes the sibling count, 0
    outside every ACCORD object: of a cell of this module's memory at its home, of the own scratchpad, and wherever the home answers. OBSCLR
    forgets the cell's entry, or with A = 0 every entry, and OBSLOST is set when one was lost; the rest of the strand stays; a place that is no accord
    cell has no entry. -/
def Sys2Proof.Claims.AccordReads : Prop :=
  (∀ (i : Instr) (s s1 : State) (g : Target) (pa : Nat) (ob : Obj), formsOf .ldcA .ldcAX i → ready i s = true →
    resolve s s.me .load none (s.cur.reg (viewOf i).a) 8 8 = (s1, .ok g) → s1.accordAt g.place = some (pa, ob) → atHome s1 g pa →
    let s2 := homeTouch s1 (pa / 128) .cached
    let s3 := accordLoaded s2 s.curRef pa
    exec i s = .next (completed i s ({ s3 with cur := { s3.cur with acnt := BitVec.ofNat 64 (s1.cellAt pa).sibs.length } }.setReg (viewOf i).d
      (BitVec.ofNat 64 (natOfBytes (Memory.readBytes s2.mem pa 8))))))
  ∧ (∀ (i : Instr) (s : State) (o : Nat), formsOf .ldcA .ldcAX i → ready i s = true → ownBytes s (s.cur.reg (viewOf i).a) 8 8 o →
    exec i s = .next (completed i s ({ s with cur := { s.cur with acnt := 0 } }.setReg (viewOf i).d (BitVec.ofNat 64 (ownValue s o 8)))))
  ∧ (∀ (i : Instr) (s s1 s2 : State) (g : Target) (x : Nat), formsOf .ldcA .ldcAX i → ready i s = true →
    resolve s s.me .load none (s.cur.reg (viewOf i).a) 8 8 = (s1, .ok g) → loadAt s1 s1.me g 8 (ordOf (viewOf i)) = (s2, .val x) →
    let n := match s1.accordAt g.place with
      | some (pa, _) => (s1.cellAt pa).sibs.length
      | none => 0
    exec i s = .next (completed i s ({ s2 with cur := { s2.cur with acnt := BitVec.ofNat 64 n } }.setReg (viewOf i).d (BitVec.ofNat 64 x))))
  ∧ (∀ (i : Instr) (s : State), formsOf .obsclr .obsclrX i → ready i s = true → (viewOf i).a = 0 →
    ∃ t : Strand, exec i s = .next (completed i s { s with cur := t }) ∧ t.obs = []
      ∧ t = { s.cur with obs := [], astat := if s.cur.obs = [] then s.cur.astat else s.cur.astat ||| 2 })
  ∧ (∀ (i : Instr) (s s1 : State) (g : Target) (pa : Nat) (ob : Obj), formsOf .obsclr .obsclrX i → ready i s = true → (viewOf i).a ≠ 0 →
    resolve s s.me .load none (s.cur.reg (viewOf i).a) 8 8 = (s1, .ok g) → s1.accordAt g.place = some (pa, ob) →
    ∃ t : Strand, exec i s = .next (completed i s { s1 with cur := t }) ∧ obsDots t.obs pa = []
      ∧ (∀ q, q ≠ pa → obsDots t.obs q = obsDots s1.cur.obs q)
      ∧ t = (if obsDots s1.cur.obs pa = [] then s1.cur
        else { s1.cur with obs := s1.cur.obs.filter (fun e => e.cell != pa), astat := s1.cur.astat ||| 2 }))
  ∧ (∀ (i : Instr) (s s1 : State) (g : Target), formsOf .obsclr .obsclrX i → ready i s = true → (viewOf i).a ≠ 0 →
    resolve s s.me .load none (s.cur.reg (viewOf i).a) 8 8 = (s1, .ok g) → s1.accordAt g.place = none → exec i s = .next (completed i s s1))

/-- R130 to R138, R332: BLEND, BLEND.C, LDC.A and OBSCLR complete. -/
def Obligations.AccordInstructions : Prop := Claims.AccordBlends ∧ Claims.AccordReads

/-- R135: a store to an accord cell adds a sibling: those whose dots the context's entry carries are replaced, the others stay, in
    order; when four would be kept and the object has no default operator the store takes ACCORD_FULL and the cell is as before. -/
def Obligations.AccordStoreCell : Prop :=
  ∀ (c : AccCell) (defop free : Nat) (v : Word) (carried : List Word) (agent : Nat), c.frozen = false →
    let keep := c.sibs.filter (fun x => !carried.contains x.dot)
    (keep.length ≤ 3 → keep.length + 1 ≤ free + c.sibs.length → c.ctr + 1 ≤ 2 ^ 40 - 1 →
      accordStore c defop free v carried agent =
        ({ c with sibs := keep ++ [{ val := v, dot := dotOf agent (c.ctr + 1) }], ctr := c.ctr + 1 }, .ok (dotOf agent (c.ctr + 1)) false))
    ∧ (keep.length = 4 → defop = 0 → accordStore c defop free v carried agent = (c, .bad 9))
    ∧ (c.sibs ≠ [] → keep.length ≤ 3 → free + c.sibs.length < keep.length + 1 → defop = 0 → accordStore c defop free v carried agent = (c, .bad 10))

/-- R323, R324, R93: an atomic operation at any address: misaligned it takes MISALIGN; a fault of the checks is taken with TRAPVAL the
    address; when a place is found and the home performs a weak operation, the old value goes to s[D], sign-extended. -/
def Sys2Proof.Claims.AtomicAccesses : Prop :=
  ∀ p ∈ ([(.amoadd, .amoaddX, .add), (.amoand, .amoandX, .and), (.amoor, .amoorX, .or), (.amoxor, .amoxorX, .xor), (.amomin, .amominX, .min),
      (.amomax, .amomaxX, .max), (.amominu, .amominuX, .minu), (.amomaxu, .amomaxuX, .maxu), (.amoswap, .amoswapX, .swap),
      (.cas, .casX, .cas)] : List ((RF → Instr) × (XF → Instr) × AmoFn)),
    ∀ (i : Instr) (s : State), formsOf p.1 p.2.1 i → ready i s = true →
    let ea := s.cur.reg (viewOf i).a
    let n := amoBytes i
    (ea.toNat % n ≠ 0 → exec i s = .next (trapped s s 3 ea))
    ∧ (∀ s1 c, resolve s s.me .amo none ea n n = (s1, .error c) → exec i s = .next (trapped s s1 c ea))
    ∧ (∀ s1 g s2 x, resolve s s.me .amo none ea n n = (s1, .ok g) → (ordOf (viewOf i)).isRelease = false →
        amoAt s1 s1.me g p.2.2 n (s.cur.reg (viewOf i).b) (s.cur.reg (viewOf i).d) = (s2, .val x) →
        exec i s = .next (completed i s ((storedAt s2 g.place n).setReg (viewOf i).d (BitVec.ofInt 64 (sextNat (8 * n) x)))))

/-! ### Vector arithmetic (R301 to R314) -/

/-- The two forms of a row of majors 0x28 to 0x2A. -/
def Sys2Proof.Claims.formsL (f : RF → Instr) (g : XLF → Instr) (i : Instr) : Prop := (∃ r, i = f r) ∨ (∃ x, i = g x)

/-- R301: the mask that KM and KN name picks element e. -/
def Sys2Proof.Claims.picked (t : Strand) (v : View) (e : Nat) : Bool :=
  decide (e < 4096) && (v.w1.km == 0 || ((t.kreg v.w1.km.toNat).getLsbD e != v.w1.kn))

/-- R301: element e lies between VSTART and VL. -/
def Sys2Proof.Claims.inRange (t : Strand) (v : View) (e : Nat) : Bool :=
  decide (t.vstart.toNat ≤ e) && decide (e < vlOf t v) && decide (e < 4096)

/-- R301: element e is acted on: at or above VSTART, below VL and the instruction's VLMAX, and picked by its mask. -/
def Sys2Proof.Claims.active (t : Strand) (v : View) (e : Nat) : Bool := Sys2Proof.Claims.inRange t v e && Sys2Proof.Claims.picked t v e

/-- Element e of width w of the n registers from register r up. -/
def Sys2Proof.Claims.elemIn (t : Strand) (r n w e : Nat) : Nat := elemOf (readGroup t r n) w e

/-- The registers of the destination group. -/
def Sys2Proof.Claims.dstCount (v : View) : Nat := emulOf (Check.vlmax v * (Check.tD v).width)

/-- R242: the flags an instruction raises: those of every active element. -/
def Sys2Proof.Claims.allFlags (t : Strand) (v : View) (f : Nat → Flags) : Flags :=
  (List.range (vlOf t v)).foldl (fun fl e => if Sys2Proof.Claims.active t v e then fl ||| f e else fl) 0

/-- R305: the group at D after an instruction: each element acted on takes the low bits of its new value, each other element and every
    register outside the group is as before. -/
def Sys2Proof.Claims.groupTakesOn (t : Strand) (v : View) (act : Nat → Bool) (f : Nat → Nat) (V : Vector VReg 32) : Prop :=
  (∀ e, e < Check.vlmax v → Sys2Proof.Claims.elemIn { t with v := V } v.d (Sys2Proof.Claims.dstCount v) (Check.tD v).width e =
      if act e then f e % 2 ^ (Check.tD v).width
      else Sys2Proof.Claims.elemIn t v.d (Sys2Proof.Claims.dstCount v) (Check.tD v).width e)
  ∧ ∀ r, (r < v.d ∨ v.d + Sys2Proof.Claims.dstCount v ≤ r) → V[r]? = t.v[r]?

/-- The group at D with the active elements written. -/
def Sys2Proof.Claims.groupTakes (t : Strand) (v : View) (f : Nat → Nat) (V : Vector VReg 32) : Prop :=
  Sys2Proof.Claims.groupTakesOn t v (Sys2Proof.Claims.active t v) f V

/-- R227, R269, R303: where an operand's elements come from without stream pops: registers, s[B] or the literal, or a valid bank entry
    that an index of the registers names. A bank of the executing context is read as it stands. -/
def Obligations.VectorOperands : Prop :=
  ∀ (s : State) (v : View) (n : Nat) (t : ET),
    (v.w2.qa = false → v.w1.ca = false → ∃ a, fetchVec s v false n t = (s, a, none) ∧
      ∀ e, a.elem e = .ok (elemIn s.cur v.a (emulOf (n * t.width)) t.width e))
    ∧ (v.w2.qb = false → v.w1.cb = false → Check.opb v = 0 → ∃ b, fetchB s v n t = (s, b, none) ∧
      ∀ e, b.elem e = .ok (elemIn s.cur v.b (emulOf (n * t.width)) t.width e))
    ∧ (Check.opb v = 1 → ∃ b, fetchB s v n t = (s, b, none) ∧ ∀ e, b.elem e = .ok ((s.cur.reg v.b).toNat % 2 ^ t.width))
    ∧ (Check.opb v = 2 → ∃ b, fetchB s v n t = (s, b, none) ∧ ∀ e, b.elem e = .ok (v.lit.toNat % 2 ^ t.width))
    ∧ (v.w2.qa = false → v.w1.ca = true → (s.bank v.w1.cba.toNat).owner = s.cur.record →
      let f := 2 ^ (v.w1.sha.toNat)
      let bi := (ET.ofCode v.w1.eta.toNat).width
      let k := s.bank v.w1.cba.toNat
      ∃ a, fetchVec s v false n t = (s, a, none) ∧ ∀ e,
        let x := elemIn s.cur v.a (emulOf (n / f * bi)) bi (e / f)
        (k.valid.getLsbD x = true → a.elem e = .ok (elemOf (elemOf k.entries.toNat 64 x) t.width (e % f)))
        ∧ (k.valid.getLsbD x = false → s.cur.cbuse.getLsbD (16 + v.w1.cba.toNat) = false → a.elem e = .error (x * 16 + v.w1.cba.toNat)))

/-- What an element-wise instruction makes of the strand, its view, the element's number, its operands and its old value. -/
abbrev Sys2Proof.Claims.ElemFn := Strand → View → Nat → Nat → Nat → Nat → Nat × Flags

/-- A value without flags from the width and the two operands. -/
def Sys2Proof.Claims.plainElem (f : Nat → Nat → Nat → Int) : Sys2Proof.Claims.ElemFn :=
  fun _ v _ x y _ => let w := (Check.tD v).width; (lowBits w (f w x y), 0)

/-- R281, R307: the carry-less product of two naturals of w bits. -/
def Sys2Proof.Claims.clmulOf (w x y : Nat) : Nat := (List.range w).foldl (fun r i => if y.testBit i then r ^^^ (x <<< i) else r) 0

/-- R300, R307: an operand as UNS reads it. -/
def Sys2Proof.Claims.readAs (v : View) (x : Nat) : Int := if v.imm16.testBit 10 then (x : Int) else sextNat (Check.tD v).width x

/-- R246: an exact value kept in the range of w bits; a value outside is clamped, and SAT raised. -/
def Sys2Proof.Claims.clamped (w : Nat) (uns : Bool) (z : Int) : Nat × Flags :=
  let lo : Int := if uns then 0 else -(2 ^ (w - 1) : Nat)
  let hi : Int := if uns then (2 ^ w : Nat) - 1 else (2 ^ (w - 1) : Nat) - 1
  if z < lo then (lowBits w lo, 32) else if hi < z then (lowBits w hi, 32) else (lowBits w z, 0)

/-- R309: an exact result rounded to the destination's type, with the flags of both. -/
def Sys2Proof.Claims.roundedElem (f : Nat → Machine.Num → Machine.Num → Machine.Num → Machine.Num × Flags) : Sys2Proof.Claims.ElemFn :=
  fun t v e x y d =>
    let ty := Check.tD v
    let rm := rmOf t v
    let z := f rm (decodeFloat ty x) (decodeFloat ty y) (decodeFloat ty d)
    let r := roundNum z.1 ty rm v.w2.sat (roundBits t rm e)
    (r.1, z.2 ||| r.2)

/-- R311: an approximation of operand A. -/
def Sys2Proof.Claims.approxElem (fn : Approx) : Sys2Proof.Claims.ElemFn :=
  fun t v e x _ _ => approxRound fn (decodeFloat (Check.tD v) x) (Check.tD v) (rmOf t v) v.w2.sat (roundBits t (rmOf t v) e)

/-- A row: the forms, whether operand B is read, whether the definition rounds, and the element's result. -/
structure Sys2Proof.Claims.VecRow where
  forms : Instr → Prop
  usesB : Bool
  rounds : Bool
  res : Sys2Proof.Claims.ElemFn

/-- R307: the integer instructions. -/
def Sys2Proof.Claims.intRows : List VecRow :=
  [⟨formsL .vadd .vaddX, true, false, plainElem fun _ x y => x + y⟩, ⟨formsL .vsub .vsubX, true, false, plainElem fun _ x y => x - y⟩,
   ⟨formsL .vrsub .vrsubX, true, false, plainElem fun _ x y => y - x⟩, ⟨formsL .vmul .vmulX, true, false, plainElem fun _ x y => x * y⟩,
   ⟨formsL .vmulh .vmulhX, true, false, fun _ v _ x y _ =>
     let w := (Check.tD v).width; (lowBits w (readAs v x * readAs v y / (2 ^ w : Nat)), 0)⟩,
   ⟨formsL .vmacc .vmaccX, true, false, fun _ v _ x y d => (lowBits (Check.tD v).width ((d : Int) + x * y), 0)⟩,
   ⟨formsL .vand .vandX, true, false, plainElem fun _ x y => (x &&& y : Nat)⟩, ⟨formsL .vor .vorX, true, false, plainElem fun _ x y => (x ||| y : Nat)⟩,
   ⟨formsL .vxor .vxorX, true, false, plainElem fun _ x y => (x ^^^ y : Nat)⟩,
   ⟨formsL .vsll .vsllX, true, false, plainElem fun w x y => (x : Int) * (2 ^ (y % w) : Nat)⟩,
   ⟨formsL .vsrl .vsrlX, true, false, plainElem fun w x y => (x / 2 ^ (y % w) : Nat)⟩,
   ⟨formsL .vsra .vsraX, true, false, plainElem fun w x y => sextNat w x / (2 ^ (y % w) : Nat)⟩,
   ⟨formsL .vmin .vminX, true, false, plainElem fun w x y => min (sextNat w x) (sextNat w y)⟩,
   ⟨formsL .vmax .vmaxX, true, false, plainElem fun w x y => max (sextNat w x) (sextNat w y)⟩,
   ⟨formsL .vminu .vminuX, true, false, plainElem fun _ x y => (min x y : Nat)⟩,
   ⟨formsL .vmaxu .vmaxuX, true, false, plainElem fun _ x y => (max x y : Nat)⟩,
   ⟨formsL .vsadd .vsaddX, true, false, fun _ v _ x y _ => clamped (Check.tD v).width (v.imm16.testBit 10) (readAs v x + readAs v y)⟩,
   ⟨formsL .vssub .vssubX, true, false, fun _ v _ x y _ => clamped (Check.tD v).width (v.imm16.testBit 10) (readAs v x - readAs v y)⟩,
   ⟨formsL .vabs .vabsX, false, false, fun _ v _ x _ _ =>
     let w := (Check.tD v).width
     let a : Int := (sextNat w x).natAbs
     if v.w2.sat then clamped w false a else (lowBits w a, 0)⟩,
   ⟨formsL .vclmul .vclmulX, true, false, plainElem fun w x y => clmulOf w x y⟩,
   ⟨formsL .vclmulh .vclmulhX, true, false, plainElem fun w x y => (clmulOf w x y / 2 ^ w : Nat)⟩]

/-- R309 to R311, R314: the float instructions, and VPACK and VUNPK. -/
def Sys2Proof.Claims.floatRows : List VecRow :=
  [⟨formsL .vfadd .vfaddX, true, true, roundedElem fun rm x y _ => sumNum rm [x, y]⟩,
   ⟨formsL .vfsub .vfsubX, true, true, roundedElem fun rm x y _ => sumNum rm [x, y.negate]⟩,
   ⟨formsL .vfmul .vfmulX, true, true, roundedElem fun _ x y _ => mulNum x y⟩,
   ⟨formsL .vfma .vfmaX, true, true, roundedElem fun rm x y d => fmaNum rm x y d⟩,
   ⟨formsL .vfnma .vfnmaX, true, true, roundedElem fun rm x y d => fmaNum rm x.negate y d⟩,
   ⟨formsL .vfdiv .vfdivX, true, true, roundedElem fun _ x y _ => divNum x y⟩,
   ⟨formsL .vfsqrt .vfsqrtX, false, true, roundedElem fun _ x _ _ => sqrtNum x⟩,
   ⟨formsL .vfmin .vfminX, true, false, fun _ v _ x y _ => (minmaxBits false (Check.tD v) x y, 0)⟩,
   ⟨formsL .vfmax .vfmaxX, true, false, fun _ v _ x y _ => (minmaxBits true (Check.tD v) x y, 0)⟩,
   ⟨formsL .vfsign .vfsignX, true, false, fun _ v _ x y _ =>
     let s := 2 ^ ((Check.tD v).width - 1)
     let sx := x / s % 2
     let sy := y / s % 2
     let fx := v.imm16 / 1024 % 4
     (x % s + s * (if fx = 0 then sy else if fx = 1 then 1 - sy else if fx = 2 then (sx + sy) % 2 else 0), 0)⟩,
   ⟨formsL .vfclass .vfclassX, false, false, fun _ v _ x _ _ => (classify (Check.tA v) x, 0)⟩,
   ⟨formsL .vfrcp .vfrcpX, false, true, approxElem .rcp⟩, ⟨formsL .vfrsq .vfrsqX, false, true, approxElem .rsq⟩,
   ⟨formsL .vfexp2 .vfexp2X, false, true, approxElem .exp2⟩, ⟨formsL .vflog2 .vflog2X, false, true, approxElem .log2⟩,
   ⟨formsL .vftanh .vftanhX, false, true, approxElem .tanh⟩,
   ⟨fun i => ∃ x, i = .vpack x, false, false, fun _ v _ x _ _ =>
     if Check.tD v = .int4 then narrowInt (sextNat (Check.tA v).width x) 4 false v.w2.sat
     else narrowInt x (Check.tD v).width true v.w2.sat⟩,
   ⟨fun i => ∃ x, i = .vunpk x, false, false, fun _ v _ x _ _ =>
     (if Check.tA v = .int4 then lowBits (Check.tD v).width (sextNat 4 x) else x, 0)⟩]

/-- R249: SBASE's advance by VL for a form that rounds with SR. -/
def Sys2Proof.Claims.advanced (rounds : Bool) (v : View) (t : Strand) : Strand :=
  if rounds && rmOf t v == 5 then { t with cv := { t.cv with srBase := t.cv.srBase + vlOf t v } } else t

/-- R301, R305: an element-wise instruction that is ready completes. With VSTART at or above VL it acts on no element (R249, log 36: a form
    that rounds with SR advances SBASE all the same). Otherwise, when
    its operands are fetched without a fault, each active element takes the row's value, the flags of all of them are raised, and
    nothing else of the machine changes but what the pops of its operands changed. -/
def Sys2Proof.Claims.ElementwiseRow (row : VecRow) : Prop :=
  ∀ (i : Instr) (s : State), row.forms i → ready i s = true →
    let v := typedView i s
    (vlOf s.cur v ≤ s.cur.vstart.toNat → exec i s = .next (completed i s { s with cur := advanced row.rounds v s.cur }))
    ∧ (s.cur.vstart.toNat < vlOf s.cur v → ∀ (s1 s2 : State) (a b : Src) (x y : Nat → Nat),
        fetchVec s v false (Check.vlmax v) (Check.tA v) = (s1, a, none) →
        (if row.usesB then fetchB s1 v (Check.vlmax v) (Check.tB v) = (s2, b, none) else s2 = s1) →
        (∀ e, active s.cur v e = true → a.elem e = .ok (x e)) →
        (row.usesB = true → ∀ e, active s.cur v e = true → b.elem e = .ok (y e)) → (row.usesB = false → ∀ e, y e = 0) →
        let r := fun (e : Nat) => row.res s.cur v e (x e) (y e) (elemIn s.cur v.d (dstCount v) (Check.tD v).width e)
        ∃ V, groupTakes s.cur v (fun e => (r e).1) V
          ∧ exec i s = .next (completed i s { s2 with cur := advanced row.rounds v ({ s2.cur with v := V }.raise (allFlags s.cur v (fun e => (r e).2))) }))

/-- R307: every integer instruction of major 0x28 but VPSUM. -/
def Sys2Proof.Claims.VectorIntegerResults : Prop := ∀ row ∈ intRows, ElementwiseRow row

/-- R309 to R311, R314: every instruction of major 0x2A, VPACK and VUNPK, by the exact value of R239 rounded once by R245. -/
def Sys2Proof.Claims.VectorFloatResults : Prop := ∀ row ∈ floatRows, ElementwiseRow row

/-- R308: a compare's forms, whether it is of floats, and its truth with its flags. -/
def Sys2Proof.Claims.compareRows : List ((Instr → Prop) × (ET → Nat → Nat → Bool × Flags)) :=
  let int := fun (f : Int → Int → Bool) (t : ET) (x y : Nat) => (f (sextNat t.width x) (sextNat t.width y), (0 : Flags))
  let flt := fun (nan : Bool) (fl : Flags) (f : Machine.Num → Machine.Num → Bool) (t : ET) (x y : Nat) =>
    if (decodeFloat t x).isNan || (decodeFloat t y).isNan then (nan, fl) else (f (decodeFloat t x) (decodeFloat t y), 0)
  [(formsL .vcmpEq .vcmpEqX, fun _ x y => (decide (x = y), 0)), (formsL .vcmpNe .vcmpNeX, fun _ x y => (decide (x ≠ y), 0)),
   (formsL .vcmpLt .vcmpLtX, int fun a b => decide (a < b)), (formsL .vcmpLe .vcmpLeX, int fun a b => decide (a ≤ b)),
   (formsL .vcmpLtu .vcmpLtuX, fun _ x y => (decide (x < y), 0)), (formsL .vcmpLeu .vcmpLeuX, fun _ x y => (decide (x ≤ y), 0)),
   (formsL .vfcmpEq .vfcmpEqX, flt false 0 eqNum), (formsL .vfcmpLt .vfcmpLtX, flt false 16 ltNum),
   (formsL .vfcmpLe .vfcmpLeX, flt false 16 fun a b => ltNum a b || eqNum a b), (formsL .vfcmpUn .vfcmpUnX, flt true 0 fun _ _ => false)]

/-- R308: a compare that is ready and whose operands are fetched without a fault completes: bit e of k[D] tells the relation of each
    active element, every other bit and every other register is as before, and the flags of the active elements are raised. -/
def Sys2Proof.Claims.VectorCompareResults : Prop :=
  ∀ row ∈ compareRows, ∀ (i : Instr) (s : State), row.1 i → ready i s = true →
    let v := typedView i s
    (vlOf s.cur v ≤ s.cur.vstart.toNat → exec i s = .next (completed i s s))
    ∧ (s.cur.vstart.toNat < vlOf s.cur v → ∀ (s1 s2 : State) (a b : Src) (x y : Nat → Nat),
        fetchVec s v false (Check.vlmax v) (Check.tA v) = (s1, a, none) → fetchB s1 v (Check.vlmax v) (Check.tB v) = (s2, b, none) →
        (∀ e, active s.cur v e = true → a.elem e = .ok (x e) ∧ b.elem e = .ok (y e)) →
        let r := fun (e : Nat) => row.2 (Check.tD v) (x e) (y e)
        ∃ K : KReg, (∀ e, e < 4096 → K.getLsbD e = if active s.cur v e then (r e).1 else (s.cur.kreg v.d).getLsbD e)
          ∧ exec i s = .next (completed i s { s2 with cur := (s2.cur.setK v.d K).raise (allFlags s.cur v (fun e => (r e).2)) }))

/-- R302 to R310: elementwise integer, float and compare instructions. -/
def Obligations.VectorArithmetic : Prop := Claims.VectorIntegerResults ∧ Claims.VectorFloatResults ∧ Claims.VectorCompareResults

/-- What VCVT from CI8 reads for code c (R229, R230, R251): the FP32 value of the curve bank's entry c, FP32's substitute for an invalid entry under
    SUBST. -/
def Sys2Proof.Claims.curveValue (t : Strand) (k : Bank) (c x : Nat) : Prop :=
  (k.valid.getLsbD c = true ∧ x = elemOf k.entries.toNat 64 c % 2 ^ 32)
    ∨ (k.valid.getLsbD c = false ∧ t.cbuse.getLsbD (16 + natBits t.rmode.toNat 7 4) = true ∧ x = 0x7FC00000)

/-- R197, R229: the group at D where an instruction traps CB_INVALID at element e: the elements below e are complete, VSTART is e,
    and TRAPVAL names the entry, the curve bank and operand A. That the flags of the elements below e are raised is the model's reading (log 41, DEDUCED). -/
def Sys2Proof.Claims.CurveTrap (i : Instr) (s s1 : State) (v : View) (e entry : Nat) (r : Nat → Nat × Flags) : Prop :=
  ∃ V, groupTakesOn s.cur v (fun j => active s.cur v j && decide (j < e)) (fun j => (r j).1) V
    ∧ exec i s = .next (trapped s { s1 with cur := { ({ s1.cur with v := V }.raise (allFlags s.cur v (fun j => if j < e then (r j).2 else 0))) with
        vstart := BitVec.ofNat 64 e } } 8 (BitVec.ofNat 64 (entry * 16 + natBits s.cur.rmode.toNat 7 4)))

/-- R251, R312: VCVT from CI8, whose operand no expansion makes (R226): each active element's code is read through the curve bank and converts as from
    FP32; at the lowest active element whose entry is invalid it traps CB_INVALID unless SUBST is set. -/
def Sys2Proof.Claims.FromCi8 : Prop :=
  ∀ (i : Instr) (s s1 : State) (a : Src) (c : Nat → Nat), formsOf .vcvt .vcvtX i → ready i s = true →
    let v := typedView i s
    let td := Check.tD v
    let n := natBits s.cur.rmode.toNat 7 4
    let k := s1.bank n
    let cv := fun (e x : Nat) => convert .fp32 td (v.imm16.testBit 10) v.w2.sat (rmOf s.cur v) (roundBits s.cur (rmOf s.cur v) e) x
    s.cur.vstart.toNat < vlOf s.cur v → Check.tA v = .ci8 → td ≠ .ci8 → v.w1.ca = false →
    fetchVec (touchBank s n) v false (Check.vlmax v) .ci8 = (s1, a, none) → (∀ e, a.elem e = .ok (c e)) →
    (∀ x : Nat → Nat, (∀ e, active s.cur v e = true → curveValue s.cur k (c e) (x e)) →
      ∃ V, groupTakes s.cur v (fun e => (cv e (x e)).1) V
        ∧ exec i s = .next (completed i s
            { s1 with cur := advanced (Check.rounds v) v ({ s1.cur with v := V }.raise (allFlags s.cur v (fun e => (cv e (x e)).2))) }))
    ∧ (∀ (x : Nat → Nat) (e : Nat), active s.cur v e = true → k.valid.getLsbD (c e) = false → s.cur.cbuse.getLsbD (16 + n) = false →
      (∀ j, j < e → active s.cur v j = true → curveValue s.cur k (c j) (x j)) → CurveTrap i s s1 v e (c e) (fun j => cv j (x j)))

/-- R252, R312: VCVT to CI8: each active element is encoded by `ci8Encode` on the curve bank, which looks up the entries 0x00 to 0x78 at the stride of
    8 (log 39: in that order, before anything else; log 3: what the pseudocode leaves without a value): an invalid one of them traps CB_INVALID at
    the lowest active element, unless SUBST is set. -/
def Sys2Proof.Claims.ToCi8 : Prop :=
  ∀ (i : Instr) (s s1 : State) (a : Src) (x : Nat → Nat), formsOf .vcvt .vcvtX i → ready i s = true →
    let v := typedView i s
    let ta := Check.tA v
    let n := natBits s.cur.rmode.toNat 7 4
    let k := s1.bank n
    let num := fun (y : Nat) => if ta.isFloat then decodeFloat ta y else Num.ofInt (if v.imm16.testBit 10 then (y : Int) else sextNat ta.width y)
    let r := fun (e : Nat) => ci8Encode k (num (x e)) (rmOf s.cur v) (roundBits s.cur (rmOf s.cur v) e) (x e * 16 + ta.code)
    s.cur.vstart.toNat < vlOf s.cur v → ta ≠ .ci8 → Check.tD v = .ci8 →
    fetchVec (touchBank s n) v false (Check.vlmax v) ta = (s1, a, none) → (∀ e, active s.cur v e = true → a.elem e = .ok (x e)) →
    (((∀ j, j < 16 → k.valid.getLsbD (8 * j) = true) ∨ s.cur.cbuse.getLsbD (16 + n) = true) →
      ∃ V, groupTakes s.cur v (fun e => (r e).1) V
        ∧ exec i s = .next (completed i s { s1 with cur := advanced (Check.rounds v) v ({ s1.cur with v := V }.raise (allFlags s.cur v (fun e => (r e).2))) }))
    ∧ (∀ e j, s.cur.cbuse.getLsbD (16 + n) = false → active s.cur v e = true → (∀ q, q < e → active s.cur v q = false) →
      j < 16 → k.valid.getLsbD (8 * j) = false → (∀ q, q < j → k.valid.getLsbD (8 * q) = true) → CurveTrap i s s1 v e (8 * j) (fun _ => (0, 0)))

/-- R307, R312, R313: VPSUM writes the sum of the active elements of A up to each, whatever VSTART is; VCVT of equal types copies, of
    others converts by R245 and R246, of and to CI8 through the curve bank (R251, R252, logs 3 and 39); VQNT scales by the block's E8 scale, 255 making
    a NaN. Each that is ready, with operands fetched without a fault, completes; with VSTART at or above VL it acts on no element (R249, log 36: a form
    that rounds with SR advances SBASE all the same). Where a curve entry's trap ends one, the flags of the elements below are raised by the model's
    reading (log 41). -/
def Obligations.ConversionResults : Prop :=
  FromCi8 ∧ ToCi8
  ∧ (∀ (i : Instr) (s : State), (formsL .vpsum .vpsumX i ∨ formsOf .vcvt .vcvtX i ∨ ∃ x, i = .vqnt x) → ready i s = true →
    let v := typedView i s
    vlOf s.cur v ≤ s.cur.vstart.toNat → exec i s = .next (completed i s { s with cur := advanced (Check.rounds v) v s.cur }))
  ∧ (∀ (i : Instr) (s s1 : State) (a : Src) (x : Nat → Nat), formsL .vpsum .vpsumX i → ready i s = true →
    let v := typedView i s
    s.cur.vstart.toNat < vlOf s.cur v → fetchVec s v false (Check.vlmax v) (Check.tA v) = (s1, a, none) →
    (∀ e, e < vlOf s.cur v → a.elem e = .ok (x e)) →
    ∃ V, groupTakes s.cur v (fun e => ((List.range (e + 1)).map (fun j => if picked s.cur v j then x j else 0)).sum) V
      ∧ exec i s = .next (completed i s { s1 with cur := { s1.cur with v := V } }))
  ∧ (∀ (i : Instr) (s s1 : State) (a : Src) (x : Nat → Nat), formsOf .vcvt .vcvtX i → ready i s = true →
    let v := typedView i s
    let ta := Check.tA v
    let td := Check.tD v
    s.cur.vstart.toNat < vlOf s.cur v → (ta = td ∨ (ta ≠ .ci8 ∧ td ≠ .ci8)) →
    fetchVec s v false (Check.vlmax v) ta = (s1, a, none) → (∀ e, active s.cur v e = true → a.elem e = .ok (x e)) →
    let r := fun (e : Nat) => if ta = td then (x e, 0) else convert ta td (v.imm16.testBit 10) v.w2.sat (rmOf s.cur v) (roundBits s.cur (rmOf s.cur v) e) (x e)
    ∃ V, groupTakes s.cur v (fun e => (r e).1) V
      ∧ exec i s = .next (completed i s { s1 with cur := advanced (Check.rounds v) v ({ s1.cur with v := V }.raise (allFlags s.cur v (fun e => (r e).2))) }))
  ∧ (∀ (x : XF) (s s1 s2 : State) (a : Src) (xs sc : Nat → Nat) (r : Nat → Nat × Flags), ready (.vqnt x) s = true →
    let v := typedView (.vqnt x) s
    let s0 := if Check.tD v = .ci8 then touchBank s (curveBank s.cur) else s
    s.cur.vstart.toNat < vlOf s.cur v → fetchVec s0 v false (Check.vlmax v) (Check.tA v) = (s1, a, none) →
    (Check.opb v = 1 → s2 = s1 ∧ ∀ b, sc b = (s.cur.reg v.b).toNat % 256) →
    (Check.opb v ≠ 1 → ∃ g, fetchBits s1 v.w2.qb false v.b 1 (Check.lm v) 8 32 (vlOf s.cur v) = (s2, g, none) ∧ ∀ b, sc b = elemOf g 8 b) →
    (∀ e, active s.cur v e = true → a.elem e = .ok (xs e) ∧
      quantise s2 (decodeFloat (Check.tA v) (xs e)) (sc (e / 32)) (Check.tD v) v.w2.sat (rmOf s.cur v)
        (roundBits s.cur (rmOf s.cur v) e) (xs e * 16 + (Check.tA v).code) = .ok (r e)) →
    ∃ V, groupTakes s.cur v (fun e => (r e).1) V
      ∧ exec (.vqnt x) s = .next (completed (.vqnt x) s { s2 with cur := advanced true v ({ s2.cur with v := V }.raise (allFlags s.cur v (fun e => (r e).2))) }))

/-! ### Masks, permutations, reductions, configuration (R299, R315 to R321) -/

/-- R315: the logical instructions on mask bits. -/
def Sys2Proof.Claims.maskLogicRows : List ((Instr → Prop) × (Bool → Bool → Bool)) :=
  [(formsOf .kand .kandX, fun a b => a && b), (formsOf .kor .korX, fun a b => a || b), (formsOf .kxor .kxorX, fun a b => a ^^ b),
   (formsOf .knot .knotX, fun a _ => !a), (formsOf .kmov .kmovX, fun a _ => a)]

/-- R316: element e is counted: below VL, picked by the mask, and set in k[A], whatever VSTART is. -/
def Sys2Proof.Claims.counts (t : Strand) (v : View) (e : Nat) : Bool :=
  decide (e < vlOf t v) && Sys2Proof.Claims.picked t v e && (t.kreg v.a).getLsbD e

/-- R316: f is the lowest counted element, VL when there is none. -/
def Sys2Proof.Claims.isFirst (t : Strand) (v : View) (f : Nat) : Prop :=
  f ≤ vlOf t v ∧ (∀ e, e < f → Sys2Proof.Claims.counts t v e = false) ∧ (f < vlOf t v → Sys2Proof.Claims.counts t v f = true)

/-- R315, R316: mask instructions that are ready complete. The logical ones write bits VSTART to VL − 1 of k[D]; KPOP and KFIRST write
    the number of counted elements and the lowest of them to s[D]; KSBF, KSIF and KSOF write the active bits of k[D] below, up to and
    at the lowest. Every other bit and register is as before. -/
def Obligations.MaskResults : Prop :=
  (∀ row ∈ maskLogicRows, ∀ (i : Instr) (s : State), row.1 i → ready i s = true →
    let v := typedView i s
    ∃ K : KReg, (∀ e, e < 4096 → K.getLsbD e =
        if inRange s.cur v e then row.2 ((s.cur.kreg v.a).getLsbD e) ((s.cur.kreg v.b).getLsbD e) else (s.cur.kreg v.d).getLsbD e)
      ∧ exec i s = .next (completed i s { s with cur := s.cur.setK v.d K }))
  ∧ (∀ (i : Instr) (s : State), formsOf .kpop .kpopX i → ready i s = true →
    let v := typedView i s
    exec i s = .next (completed i s (s.setReg v.d (BitVec.ofNat 64 ((List.range (vlOf s.cur v)).filter (counts s.cur v)).length))))
  ∧ (∀ (i : Instr) (s : State), formsOf .kfirst .kfirstX i → ready i s = true →
    let v := typedView i s
    ∃ f, isFirst s.cur v f ∧ exec i s = .next (completed i s (s.setReg v.d (BitVec.ofNat 64 f))))
  ∧ (∀ row ∈ ([(formsOf .ksbf .ksbfX, fun e f => decide (e < f)), (formsOf .ksif .ksifX, fun e f => decide (e ≤ f)),
        (formsOf .ksof .ksofX, fun e f => decide (e = f))] : List ((Instr → Prop) × (Nat → Nat → Bool))),
    ∀ (i : Instr) (s : State), row.1 i → ready i s = true →
    let v := typedView i s
    ∃ (f : Nat) (K : KReg), isFirst s.cur v f
      ∧ (∀ e, e < 4096 → K.getLsbD e = if active s.cur v e then row.2 e f else (s.cur.kreg v.d).getLsbD e)
      ∧ exec i s = .next (completed i s { s with cur := s.cur.setK v.d K }))

/-- R317: a cross-lane read of element j of a group of the destination's type: 0 at or above VLMAX. -/
def Sys2Proof.Claims.crossSrc (v : View) (g j : Nat) : Nat := if j < Check.vlmax v then elemOf g (Check.tD v).width j else 0

/-- R317: the number of elements the mask picks below e. -/
def Sys2Proof.Claims.pickedBelow (t : Strand) (v : View) (e : Nat) : Nat := ((List.range e).filter (Sys2Proof.Claims.picked t v)).length

/-- R317: the permutations of operand A that write their active elements, with the value of element e. -/
def Sys2Proof.Claims.crossRows : List ((Instr → Prop) × (Strand → View → Nat → Nat → Nat → Nat)) :=
  [(formsOf .vslideup .vslideupX, fun t v g e d => let n := (t.reg v.b).toNat; if n ≤ e then crossSrc v g (e - n) else d),
   (formsOf .vslidedn .vslidednX, fun t v g e _ => crossSrc v g (e + (t.reg v.b).toNat)),
   (formsOf .vbcast .vbcastX, fun t v g _ _ => crossSrc v g (t.reg v.b).toNat),
   (formsOf .vexpd .vexpdX, fun t v g e _ => crossSrc v g (pickedBelow t v e))]

/-- R317: operand A's bits, popped or from registers. -/
def Sys2Proof.Claims.crossFetch (s : State) (v : View) : State × Nat × Option ElemTrap :=
  fetchBits s v.w2.qa false v.a (emulOf (Check.vlmax v * (Check.tD v).width)) (Check.lm v) (Check.tD v).width 1 (vlOf s.cur v)

/-- R317, R318: permutations that are ready, with elements to act on and operands fetched without a fault, complete: VSLIDEUP, VSLIDEDN,
    VBCAST, VEXPD and VPERM write their active elements, VCOMPR the packed elements from VSTART on, VMERGE, VIOTA every element from
    VSTART to VL − 1, VMVSV and VID their active elements; every other element and register is as before. VMVVS gives s[D] element 0, a CI8 code with
    zeros above it (R318 does not say: the model's choice, log 15). -/
def Obligations.PermuteResults : Prop :=
  (∀ row ∈ crossRows, ∀ (i : Instr) (s s1 : State) (g : Nat), row.1 i → ready i s = true →
    let v := typedView i s
    s.cur.vstart.toNat < vlOf s.cur v → crossFetch s v = (s1, g, none) →
    ∃ V, groupTakes s.cur v (fun e => row.2 s.cur v g e (elemIn s.cur v.d (dstCount v) (Check.tD v).width e)) V
      ∧ exec i s = .next (completed i s { s1 with cur := { s1.cur with v := V } }))
  ∧ (∀ (i : Instr) (s s1 s2 : State) (g : Nat) (b : Src) (y : Nat → Nat), formsOf .vperm .vpermX i → ready i s = true →
    let v := typedView i s
    s.cur.vstart.toNat < vlOf s.cur v → crossFetch s v = (s1, g, none) → fetchVec s1 v true (Check.vlmax v) (Check.tB v) = (s2, b, none) →
    (∀ e, active s.cur v e = true → b.elem e = .ok (y e)) →
    ∃ V, groupTakes s.cur v (fun e => crossSrc v g (y e)) V
      ∧ exec i s = .next (completed i s { s2 with cur := { s2.cur with v := V } }))
  ∧ (∀ (i : Instr) (s s1 : State) (g : Nat), formsOf .vcompr .vcomprX i → ready i s = true →
    let v := typedView i s
    s.cur.vstart.toNat < vlOf s.cur v → crossFetch s v = (s1, g, none) →
    let l := (List.range (vlOf s.cur v)).filter (picked s.cur v)
    ∃ V, groupTakesOn s.cur v (fun e => decide (s.cur.vstart.toNat ≤ e) && decide (e < l.length)) (fun e => elemOf g (Check.tD v).width (l.getD e 0)) V
      ∧ exec i s = .next (completed i s { s1 with cur := { s1.cur with v := V } }))
  ∧ (∀ (i : Instr) (s s1 s2 : State) (a b : Src) (x : Nat → Nat), formsOf .vmerge .vmergeX i → ready i s = true →
    let v := typedView i s
    s.cur.vstart.toNat < vlOf s.cur v → fetchVec s v false (Check.vlmax v) (Check.tD v) = (s1, a, none) →
    fetchVec s1 v true (Check.vlmax v) (Check.tD v) = (s2, b, none) →
    (∀ e, inRange s.cur v e = true → (if picked s.cur v e then a else b).elem e = .ok (x e)) →
    ∃ V, groupTakesOn s.cur v (inRange s.cur v) x V
      ∧ exec i s = .next (completed i s { s2 with cur := { s2.cur with v := V } }))
  ∧ (∀ (i : Instr) (s : State), ready i s = true →
    let v := typedView i s
    (formsOf .viota .viotaX i → ∃ V, groupTakesOn s.cur v (inRange s.cur v) (pickedBelow s.cur v) V
      ∧ exec i s = .next (completed i s { s with cur := { s.cur with v := V } }))
    ∧ (formsOf .vmvsv .vmvsvX i → ∃ V, groupTakes s.cur v (fun _ => (s.cur.reg v.a).toNat) V
      ∧ exec i s = .next (completed i s { s with cur := { s.cur with v := V } }))
    ∧ (formsOf .vid .vidX i → ∃ V, groupTakes s.cur v (fun e => e) V
      ∧ exec i s = .next (completed i s { s with cur := { s.cur with v := V } })))
  ∧ (∀ (i : Instr) (s s1 : State) (g : Nat), formsOf .vmvvs .vmvvsX i → ready i s = true →
    let v := typedView i s
    crossFetch s v = (s1, g, none) →
    let x := crossSrc v g (s.cur.reg v.b).toNat
    exec i s = .next (completed i s (s1.setReg v.d
      (if (Check.tD v).isInt && !v.imm16.testBit 10 then BitVec.ofInt 64 (sextNat (Check.tD v).width x) else BitVec.ofNat 64 x))))

/-- R319: the operands of a reduction as a list: the start value, then the active elements of A below VL in ascending index, whatever
    VSTART is. -/
def Sys2Proof.Claims.reduceList (s s1 : State) (v : View) (x0 : Nat) (xs : List Nat) : Prop :=
  ∃ a b, reduceOperands s v 0 = (s1, a, b, none, none) ∧ elemsAt b [0] = .ok [x0]
    ∧ elemsAt a ((List.range (vlOf s.cur v)).filter (Sys2Proof.Claims.picked s.cur v)) = .ok xs

/-- R319: element 0 of v[D] takes a value; every other element and register is as before. -/
def Sys2Proof.Claims.firstTakes (t : Strand) (v : View) (x : Nat) (V : Vector VReg 32) : Prop :=
  Sys2Proof.Claims.elemIn { t with v := V } v.d 1 (Check.tD v).width 0 = x % 2 ^ (Check.tD v).width
    ∧ (∀ e, 0 < e → (e + 1) * (Check.tD v).width ≤ 2048 →
        Sys2Proof.Claims.elemIn { t with v := V } v.d 1 (Check.tD v).width e = Sys2Proof.Claims.elemIn t v.d 1 (Check.tD v).width e)
    ∧ ∀ r, r ≠ v.d → V[r]? = t.v[r]?

/-- R319: VREDSUM writes the sum modulo 2^w, VREDMAX and VREDMIN the largest and smallest, of the start value and the active elements. -/
def Sys2Proof.Claims.IntegerReductions : Prop :=
  ∀ (i : Instr) (s s1 : State) (x0 : Nat) (xs : List Nat), ready i s = true →
    let v := typedView i s
    let val := fun (x : Nat) => if v.imm16.testBit 10 then (x : Int) else sextNat (Check.tD v).width x
    reduceList s s1 v x0 xs →
    (formsOf .vredsum .vredsumX i → ∃ V, firstTakes s1.cur v (x0 + xs.sum) V
      ∧ exec i s = .next (completed i s { s1 with cur := { s1.cur with v := V } }))
    ∧ (formsOf .vredmax .vredmaxX i → ∃ x V, x ∈ x0 :: xs ∧ (∀ y ∈ x0 :: xs, val y ≤ val x) ∧ firstTakes s1.cur v x V
      ∧ exec i s = .next (completed i s { s1 with cur := { s1.cur with v := V } }))
    ∧ (formsOf .vredmin .vredminX i → ∃ x V, x ∈ x0 :: xs ∧ (∀ y ∈ x0 :: xs, val x ≤ val y) ∧ firstTakes s1.cur v x V
      ∧ exec i s = .next (completed i s { s1 with cur := { s1.cur with v := V } }))

/-- R257, R319 to R321: VFREDUSUM, VFREDMAX and VFREDMIN reduce by the tree of R182, VFREDOSUM adds in ascending order with one rounding a
    step when no reduction is in progress, VREDMAXSUM reduces pairs; each raises the flags of its steps. -/
def Sys2Proof.Claims.FloatReductions : Prop :=
  ∀ (i : Instr) (s s1 : State), ready i s = true →
    let v := typedView i s
    let ty := Check.tD v
    let rm := rmOf s.cur v
    (∀ x0 xs, reduceList s s1 v x0 xs →
      (formsOf .vfredusum .vfredusumX i →
        let r := treeReduce (fun n x y =>
          let z := sumNum rm [decodeFloat ty x, decodeFloat ty y]
          let q := roundNum z.1 ty rm v.w2.sat (roundBits s.cur rm n)
          (q.1, z.2 ||| q.2)) 0 (x0 :: xs)
        ∃ V, firstTakes s1.cur v r.1 V ∧ exec i s = .next (completed i s { s1 with cur := advanced true v ({ s1.cur with v := V }.raise r.2) }))
      ∧ (formsOf .vfredmax .vfredmaxX i →
        ∃ V, firstTakes s1.cur v (treeReduce (fun _ x y => (minmaxBits true ty x y, (0 : Flags))) 0 (x0 :: xs)).1 V
          ∧ exec i s = .next (completed i s { s1 with cur := { s1.cur with v := V } }))
      ∧ (formsOf .vfredmin .vfredminX i →
        ∃ V, firstTakes s1.cur v (treeReduce (fun _ x y => (minmaxBits false ty x y, (0 : Flags))) 0 (x0 :: xs)).1 V
          ∧ exec i s = .next (completed i s { s1 with cur := { s1.cur with v := V } })))
    ∧ (∀ a b x0 (x : Nat → Nat), formsOf .vfredosum .vfredosumX i → s.cur.rsidx.toNat % 2 ^ 13 = 0 → reduceOperands s v 0 = (s1, a, b, none, none) →
        elemsAt b [0] = .ok [x0] → (∀ e, e < vlOf s.cur v → picked s.cur v e = true → a.elem e = .ok (x e)) →
        let step := fun (q : Nat × Flags) (e : Nat) =>
          let z := sumNum rm [decodeFloat ty q.1, decodeFloat ty (x e)]
          let r := roundNum z.1 ty rm v.w2.sat (roundBits s.cur rm e)
          (r.1, q.2 ||| (z.2 ||| r.2))
        let q := ((List.range (vlOf s.cur v)).filter (picked s.cur v)).foldl step (x0, 0)
        ∃ V, firstTakes s1.cur v q.1 V
          ∧ exec i s = .next (completed i s { s1 with cur := advanced true v { ({ s1.cur with v := V }.raise q.2) with rstate := 0, rsidx := 0 } }))
    ∧ (∀ a b m0 z0 ps, formsOf .vredmaxsum .vredmaxsumX i → reduceOperands s v 0 = (s1, a, b, none, none) → elemsAt b [0, 1] = .ok [m0, z0] →
        (∀ p ∈ (ps : List (Nat × Nat × Nat)), a.elem (2 * p.1) = .ok p.2.1 ∧ a.elem (2 * p.1 + 1) = .ok p.2.2) →
        ps.map (·.1) = (List.range (vlOf s.cur v / 2)).filter (fun j => picked s.cur v (2 * j)) →
        let r := (treeReduce (fun _ p q => (maxsum p q, (0 : Flags))) (0, 0) ((m0, z0) :: ps.map (·.2))).1
        ∃ V, exec i s = .next (completed i s { s1 with cur := { s1.cur with v := V } })
          ∧ elemIn { s1.cur with v := V } v.d 1 32 0 = r.1 % 2 ^ 32 ∧ elemIn { s1.cur with v := V } v.d 1 32 1 = r.2 % 2 ^ 32
          ∧ (∀ e, 2 ≤ e → e < 64 → elemIn { s1.cur with v := V } v.d 1 32 e = elemIn s1.cur v.d 1 32 e) ∧ ∀ r, r ≠ v.d → V[r]? = s1.cur.v[r]?)

/-- R257, R319 to R321: reductions. -/
def Obligations.Reductions : Prop := Claims.IntegerReductions ∧ Claims.FloatReductions

/-- R299: VSETVL and VSETVLI that are ready complete: an invalid request makes VTYPE bad and VL 0; a valid one sets VTYPE, and VL to the
    length, to VLMAX, or to the VL that was, cut to VLMAX; VSTART is 0 and s[D] takes VL. -/
def Obligations.ConfigurationResults : Prop :=
  ∀ (i : Instr) (s : State) (req : Nat), ready i s = true →
    ((∃ r : RF, i = .vsetvl r ∧ req = (s.cur.reg r.b.toNat).toNat) ∨ (∃ r : RLF, i = .vsetvli r ∧ req = r.lit.toNat)) →
    let bad := 256 ≤ req ∨ req / 64 % 4 = 3 ∨ (10 ≤ req % 16 ∧ req % 16 ≤ 14)
    let vlmax := 2 ^ (req / 16 % 4) * 2048 / (ET.ofCode (req % 16)).width
    let vl := if bad then 0 else if req / 64 % 4 = 0 then min (s.cur.reg (viewOf i).a).toNat vlmax else if req / 64 % 4 = 1 then vlmax
      else min s.cur.vl.toNat vlmax
    exec i s = .next (completed i s ({ s with cur := { s.cur with vtype := if bad then 256 else BitVec.ofNat 64 (req % 64), vl := BitVec.ofNat 64 vl,
                                                                   vstart := 0 } }.setReg (viewOf i).d (BitVec.ofNat 64 vl)))

/-! ### Vector memory (R103 to R105, R333 to R339) -/

/-- R333: s[A] + sext(IMM16). -/
def Sys2Proof.Claims.vBase (t : Strand) (v : View) : Word := t.reg v.a + v.w2.imm16.signExtend 64

/-- R333: where element e of a vector access lies: one after another, a stride of s[B] apart, or at an index of v[B]. -/
def Sys2Proof.Claims.elemAddr (kind : Nat) (t : Strand) (v : View) (e : Nat) : Word :=
  if kind = 0 then Sys2Proof.Claims.vBase t v + BitVec.ofNat 64 (e * ((Check.tD v).width / 8))
  else if kind = 1 then Sys2Proof.Claims.vBase t v + BitVec.ofNat 64 e * t.reg v.b
  else
    let w := (ET.ofCode v.w1.eta.toNat).width
    Sys2Proof.Claims.vBase t v + BitVec.ofNat 64 (Sys2Proof.Claims.elemIn t v.b (emulOf (Check.vlmax v * w)) w e)

/-- R202: no arrival bit of a flacon of a unit on the executing core is awaited. -/
def Sys2Proof.Claims.noFilling (s : State) : Prop := ∀ o, bytePending s s.curRef.core o = false

/-- The elements an instruction acts on, ascending. -/
def Sys2Proof.Claims.acted (t : Strand) (v : View) : List Nat := (List.range (vlOf t v)).filter (Sys2Proof.Claims.active t v)

/-- R104, R333, R335: vector loads that are ready and whose active elements lie in the own scratchpad complete: each takes the bytes of
    its address, one after another, strided or indexed; elements narrower than a byte take their bits of the packed bytes. -/
def Sys2Proof.Claims.PlainVectorLoads : Prop :=
  (∀ p ∈ ([(formsOf .vld .vldX, 0), (formsOf .vldFf .vldFfX, 0), (formsOf .vlds .vldsX, 1), (formsOf .vldx .vldxX, 2)] : List ((Instr → Prop) × Nat)),
    ∀ (i : Instr) (s : State) (off : Nat → Nat), p.1 i → ready i s = true → noFilling s →
    let v := typedView i s
    let n := (Check.tD v).width / 8
    8 ≤ (Check.tD v).width → (∀ e, active s.cur v e = true → ownBytes s (elemAddr p.2 s.cur v e) n n (off e)) →
    ∃ V, groupTakes s.cur v (fun e => ownValue s (off e) n) V
      ∧ exec i s = .next (completed i s { s with cur := { s.cur with v := V } }))
  ∧ (∀ (i : Instr) (s : State) (o n : Nat), (formsOf .vld .vldX i ∨ formsOf .vldFf .vldFfX i) → ready i s = true → noFilling s →
    let v := typedView i s
    let w := (Check.tD v).width
    w < 8 → vlOf s.cur v * w ≤ 8 * n →
    (∀ e b, active s.cur v e = true → e * w < 8 * (b + 1) → 8 * b < (e + 1) * w → ownBytes s (vBase s.cur v + BitVec.ofNat 64 b) 1 1 (o + b)) →
    ∃ V, groupTakes s.cur v (fun e => elemOf (ownValue s o n) w e) V
      ∧ exec i s = .next (completed i s { s with cur := { s.cur with v := V } }))

/-- R93: an access of n bytes at `va` by element e ends in fault `c`, whatever the vector registers hold, and leaves what it found on its way in `s1`: the
    checks of R93 answer it, or the place it lands at does. -/
def Sys2Proof.Claims.elemFaults (s s1 : State) (v : View) (e : Nat) (va : Word) (n c : Nat) : Prop :=
  ∀ V : Vector VReg 32,
    let t := { s with cur := { s.cur with v := V } }
    let t1 := { s1 with cur := { s1.cur with v := V } }
    let lane := some (e * (Check.tD v).width / 64 % 32)
    resolve t s.me .load lane va n n = (t1, .error c)
      ∨ ∃ (t0 : State) (g : Target), resolve t s.me .load lane va n n = (t0, .ok g) ∧ arrivalPending t0 g.place n = false ∧ loadAt t0 t0.me g n (ordOf v) = (t1, .fault c)

/-- R104: VLD.FF in which element k, the lowest to do so, ends in a fault, the active ones below lying in the own scratchpad: above element 0 it ends
    well: VL becomes k, and the elements below k are loaded; at element 0 it takes the fault, with VSTART 0. Of an element narrower than a
    byte it is the first byte that faults. -/
def Sys2Proof.Claims.FirstFaultLoad : Prop :=
  ∀ (i : Instr) (s s1 : State) (k c : Nat), formsOf .vldFf .vldFfX i → ready i s = true → noFilling s →
    let v := typedView i s
    let w := (Check.tD v).width
    let n := w / 8
    let ends := fun (va : Word) (f : Nat → Nat) =>
      (k ≠ 0 → ∃ V, groupTakesOn s.cur v (fun e => active s.cur v e && decide (e < k)) f V
        ∧ exec i s = .next (completed i s { s1 with cur := { s1.cur with v := V, vl := BitVec.ofNat 64 k } }))
      ∧ (k = 0 → exec i s = .next (trapped s { s1 with cur := { s1.cur with v := s.cur.v, vstart := 0 } } c va))
    active s.cur v k = true →
    (∀ off : Nat → Nat, 8 ≤ w → (∀ e, e < k → active s.cur v e = true → ownBytes s (elemAddr 0 s.cur v e) n n (off e)) →
      elemFaults s s1 v k (elemAddr 0 s.cur v k) n c → ends (elemAddr 0 s.cur v k) (fun e => ownValue s (off e) n))
    ∧ (∀ o m : Nat, w < 8 → k * w ≤ 8 * m →
      (∀ e b, e < k → active s.cur v e = true → e * w < 8 * (b + 1) → 8 * b < (e + 1) * w → ownBytes s (vBase s.cur v + BitVec.ofNat 64 b) 1 1 (o + b)) →
      elemFaults s s1 v k (vBase s.cur v + BitVec.ofNat 64 (k * w / 8)) 1 c →
      ends (vBase s.cur v + BitVec.ofNat 64 (k * w / 8)) (fun e => elemOf (ownValue s o m) w e))

/-- R333, R335: vector stores that are ready, may perform, and whose active elements lie in the own scratchpad complete: the elements are
    stored in ascending order, and nothing else changes; of elements narrower than a byte, the bytes whose elements are all active. -/
def Sys2Proof.Claims.ScratchpadVectorStores : Prop :=
  (∀ p ∈ ([(formsOf .vst .vstX, 0), (formsOf .vsts .vstsX, 1), (formsOf .vstx .vstxX, 2)] : List ((Instr → Prop) × Nat)),
    ∀ (i : Instr) (s : State) (off : Nat → Nat), p.1 i → ready i s = true →
    let v := typedView i s
    let w := (Check.tD v).width
    mayPerform i s → (v.w2.o = true → writesPending s s.cur v.w2.scope.toNat = false) → 8 ≤ w →
    (∀ e, active s.cur v e = true → ownBytes s (elemAddr p.2 s.cur v e) (w / 8) (w / 8) (off e) ∧ noSync s (off e)) →
    exec i s = .next (completed i s { s with mem := (acted s.cur v).foldl (fun m e =>
      Memory.writeBytes m (ownLoc s (off e)) (bytesOfNat (w / 8) (elemIn s.cur v.d (dstCount v) w e))) s.mem }))
  ∧ (∀ (i : Instr) (s : State) (o : Nat), formsOf .vst .vstX i → ready i s = true →
    let v := typedView i s
    let w := (Check.tD v).width
    let whole := fun (b : Nat) => (List.range ((8 * b + 7) / w + 1)).all (fun e => decide (e < 8 * b / w) || active s.cur v e)
    mayPerform i s → (v.w2.o = true → writesPending s s.cur v.w2.scope.toNat = false) → w < 8 →
    (∀ b, whole b = true → ownBytes s (vBase s.cur v + BitVec.ofNat 64 b) 1 1 (o + b) ∧ noSync s (o + b)) →
    exec i s = .next (completed i s { s with mem := ((List.range ((vlOf s.cur v * w + 7) / 8)).filter whole).foldl (fun m b =>
      Memory.writeBytes m (ownLoc s (o + b)) (bytesOfNat 1 (elemIn s.cur v.d (dstCount v) 8 b))) s.mem }))

/-- Frame of vector loads and stores in the own scratchpad: a store changes no byte of memory outside those of its active elements, at the
    addresses it computes, and no register; a load changes no byte of memory, and of the machine only vector registers. -/
def Sys2Proof.Claims.VectorMemoryFrame : Prop :=
  ∀ p ∈ ([(formsOf .vst .vstX, 0, true), (formsOf .vsts .vstsX, 1, true), (formsOf .vstx .vstxX, 2, true), (formsOf .vld .vldX, 0, false),
      (formsOf .vlds .vldsX, 1, false), (formsOf .vldx .vldxX, 2, false)] : List ((Instr → Prop) × Nat × Bool)),
    ∀ (i : Instr) (s t : State) (off : Nat → Nat), p.1 i → ready i s = true → noFilling s →
    let v := typedView i s
    let n := (Check.tD v).width / 8
    mayPerform i s → (v.w2.o = true → writesPending s s.cur v.w2.scope.toNat = false) → 8 ≤ (Check.tD v).width →
    (∀ e, active s.cur v e = true → ownBytes s (elemAddr p.2.1 s.cur v e) n n (off e) ∧ noSync s (off e)) →
    MemoryForm s → exec i s = .next t →
    t = { s with cur := t.cur, mem := t.mem } ∧ t.cur.s = s.cur.s ∧ t.cur.k = s.cur.k ∧ t.cur.fflags = s.cur.fflags ∧ t.cur.vl = s.cur.vl
      ∧ (p.2.2 = true → t.cur.v = s.cur.v ∧ ∀ a, (∀ e, active s.cur v e = true → a ∉ locsFrom (ownLoc s (off e)) n) →
          Memory.read t.mem a = Memory.read s.mem a)
      ∧ (p.2.2 = false → keepsMemory s t [] ∧ ∀ r, (r < v.d ∨ v.d + dstCount v ≤ r) → t.cur.v[r]? = s.cur.v[r]?)

/-- R333 to R336: vector stores, and what a vector load or store leaves as it was. -/
def Obligations.VectorStores : Prop := Claims.ScratchpadVectorStores ∧ Claims.VectorMemoryFrame

/-- R338: the vector atomics with what each leaves of the old value and the element. -/
def Sys2Proof.Claims.vamoTable : List ((Instr → Prop) × (Nat → Nat → Nat → Nat)) :=
  [(formsOf .vamoadd .vamoaddX, fun w o y => (o + y) % 2 ^ w), (formsOf .vamoand .vamoandX, fun _ o y => o &&& y),
   (formsOf .vamoor .vamoorX, fun _ o y => o ||| y), (formsOf .vamoxor .vamoxorX, fun _ o y => o ^^^ y),
   (formsOf .vamomin .vamominX, fun w o y => if sextNat w y < sextNat w o then y else o),
   (formsOf .vamomax .vamomaxX, fun w o y => if sextNat w o < sextNat w y then y else o), (formsOf .vamoswap .vamoswapX, fun _ _ y => y)]

/-- R338, R339: a vector atomic that is ready, may perform, and whose active elements lie in the own scratchpad completes: its active
    elements perform in ascending order, each as one AMO on its word with the element as operand, and each takes the old value. -/
def Sys2Proof.Claims.VectorAtomics : Prop :=
  ∀ p ∈ vamoTable, ∀ (i : Instr) (s : State) (off : Nat → Nat), p.1 i → ready i s = true →
    let v := typedView i s
    let w := (Check.tD v).width
    mayPerform i s → (v.w2.o = true → writesPending s s.cur v.w2.scope.toNat = false) →
    (∀ e, active s.cur v e = true → ownBytes s (elemAddr 2 s.cur v e) (w / 8) (w / 8) (off e) ∧ noSync s (off e)) →
    let old := fun (m : List Host.Cell) (e : Nat) => natOfBytes (Memory.readBytes m (ownLoc s (off e)) (w / 8))
    let after := fun (k : Nat) => ((acted s.cur v).filter (fun e => decide (e < k))).foldl (fun m e =>
      Memory.writeBytes m (ownLoc s (off e)) (bytesOfNat (w / 8) (p.2 w (old m e) (elemIn s.cur v.d (dstCount v) w e)))) s.mem
    ∃ V, groupTakes s.cur v (fun e => old (after e) e) V
      ∧ exec i s = .next (completed i s { s with mem := after (vlOf s.cur v), cur := { s.cur with v := V } })

/-- R323, R324, R338: AMO, CAS, CAS.Q and VAMO. -/
def Obligations.AtomicResults : Prop := Claims.ScratchpadAtomics ∧ Claims.ScratchpadCompareAndSwap ∧ Claims.AtomicAccesses ∧ Claims.VectorAtomics

/-- R337: VLDA loads doublewords and puts each one's sibling count into a byte of v[B], 0 outside every ACCORD object; one accord cell is
    loaded with its primary value and its count. VLDS.A puts the value and dot of each sibling of one cell into v[D], 0 past them, and
    the count into ACNT, of a cell of this module's memory at its home and wherever the home answers; outside every ACCORD object it takes
    ACCESS. -/
def Sys2Proof.Claims.AccordVectorLoads : Prop :=
  (∀ (i : Instr) (s : State) (off : Nat → Nat), formsOf .vlda .vldaX i → ready i s = true → noFilling s →
    let v := typedView i s
    (∀ e, active s.cur v e = true → ownBytes s (elemAddr 0 s.cur v e) 8 8 (off e)) →
    ∃ V, exec i s = .next (completed i s { s with cur := { s.cur with v := V } })
      ∧ (∀ e, e < Check.vlmax v → elemIn { s.cur with v := V } v.d (dstCount v) 64 e =
          if active s.cur v e then ownValue s (off e) 8 else elemIn s.cur v.d (dstCount v) 64 e)
      ∧ (∀ e, e < 256 → elemIn { s.cur with v := V } v.b 1 8 e = if active s.cur v e then 0 else elemIn s.cur v.b 1 8 e))
  ∧ (∀ (i : Instr) (s s1 s2 : State) (g : Target) (pa : Nat) (ob : Obj) (x : Nat), formsOf .vlda .vldaX i → ready i s = true →
    let v := typedView i s
    vlOf s.cur v = 1 → active s.cur v 0 = true → resolve s s.me .load (some 0) (vBase s.cur v) 8 8 = (s1, .ok g) →
    s1.accordAt g.place = some (pa, ob) → pa % 8 = 0 → loadAt s1 s1.me g 8 (ordOf v) = (s2, .val x) →
    ∃ V, exec i s = .next (completed i s { s2 with cur := { s2.cur with v := V } })
      ∧ elemIn { s.cur with v := V } v.d 1 64 0 = x % 2 ^ 64 ∧ elemIn { s.cur with v := V } v.b 1 8 0 = (s1.cellAt pa).sibs.length % 256)
  ∧ (∀ (i : Instr) (s s1 : State) (g : Target), formsOf .vldsA .vldsAX i → ready i s = true →
    let v := typedView i s
    resolve s s.me .load (some 0) (vBase s.cur v) 8 8 = (s1, .ok g) →
    (∀ pa ob, s1.accordAt g.place = some (pa, ob) → atHome s1 g pa →
      let sibs := (s1.cellAt pa).sibs
      let s3 := accordLoaded (homeTouch s1 (pa / 128) .cached) s.curRef pa
      ∃ V, exec i s = .next (completed i s { s3 with cur := { s3.cur with v := V, acnt := BitVec.ofNat 64 sibs.length } })
        ∧ (∀ j, j < 4 → elemIn { s.cur with v := V } v.d 1 64 (2 * j) = ((sibs[j]?).map (fun q => q.val.toNat)).getD 0
            ∧ elemIn { s.cur with v := V } v.d 1 64 (2 * j + 1) = ((sibs[j]?).map (fun q => q.dot.toNat)).getD 0)
        ∧ (∀ e, 8 ≤ e → e < 32 → elemIn { s.cur with v := V } v.d 1 64 e = elemIn s.cur v.d 1 64 e))
    ∧ (∀ pa ob s2 x, s1.accordAt g.place = some (pa, ob) → loadAt s1 s1.me g 8 (ordOf v) = (s2, .val x) →
      let sibs := (s1.cellAt pa).sibs
      ∃ V, exec i s = .next (completed i s { s2 with cur := { s2.cur with v := V, acnt := BitVec.ofNat 64 sibs.length } })
        ∧ (∀ j, j < 4 → elemIn { s.cur with v := V } v.d 1 64 (2 * j) = ((sibs[j]?).map (fun q => q.val.toNat)).getD 0
            ∧ elemIn { s.cur with v := V } v.d 1 64 (2 * j + 1) = ((sibs[j]?).map (fun q => q.dot.toNat)).getD 0)
        ∧ (∀ e, 8 ≤ e → e < 32 → elemIn { s.cur with v := V } v.d 1 64 e = elemIn s.cur v.d 1 64 e))
    ∧ (s1.accordAt g.place = none →
        exec i s = .next (trapped s { s1 with cur := { s1.cur with vstart := BitVec.ofNat 64 s.cur.vstart.toNat } } 7 (vBase s.cur v))))

/-- R333 to R337: vector loads, first-fault loads and loads of accord cells. -/
def Obligations.VectorLoads : Prop := Claims.PlainVectorLoads ∧ Claims.FirstFaultLoad ∧ Claims.AccordVectorLoads

/-! ### Streams, copies, flacons, stashes, cache maintenance, collectives (R122 to R124, R203 to R207, R340 to R353) -/

/-- R340: a stream descriptor in rule. -/
def Sys2Proof.Claims.streamRule (r : List Byte) : Prop :=
  fieldAt r 0 8 % 128 = 0 ∧ 1 ≤ fieldAt r 8 8 ∧ fieldAt r 8 8 ≤ 2 ^ 40 ∧ fieldAt r 0x10 1 ≤ 1 ∧ fieldAt r 0x11 1 ≤ 2
    ∧ (fieldAt r 0x10 1 = 1 → fieldAt r 0x11 1 = 0) ∧ ∀ j, 0x12 ≤ j → j < 0x20 → r.getD j 0 = 0

/-- R109: no sync word meets n bytes of the executing core's scratchpad. -/
def Sys2Proof.Claims.noSyncIn (s : State) (o n : Nat) : Prop := ∀ w ∈ s.syncs, ¬ (w < ownLoc s o + n ∧ ownLoc s o < w + 16)

/-- R343: the bytes of a record in the executing core's scratchpad. -/
def Sys2Proof.Claims.ownRecord (s : State) (o n : Nat) : List Byte := Memory.readBytes s.mem (ownLoc s o) n

/-- R340: STRSET with the descriptor read, in state `s1`: the stream is set, and returns what loads would find now (R154, R162, log 53); a descriptor out of
    rule makes it take STREAM_FMT. -/
def Sys2Proof.Claims.streamSet (i : Instr) (s s1 : State) (r : List Byte) : Prop :=
  let v := typedView i s
  let q : Stream := { active := true, base := BitVec.ofNat 64 (fieldAt r 0 8), len := fieldAt r 8 8, blocks := fieldAt r 0x10 1 == 1,
                      fmt := fieldAt r 0x11 1, pos := 0, overEnd := false, err := false, cause := 0, errVal := 0, blk := 0, next := 0, buf := [],
                      block := [], mem := snapshot s1, stale := s1.stale }
  let sets := fun (x : Stream) => { s1 with cur := { s1.cur with streams := s1.cur.streams.setIfInBounds v.d x } }
  (Sys2Proof.Claims.streamRule r → exec i s = .next (completed i s (sets q)))
  ∧ (¬ Sys2Proof.Claims.streamRule r → ∃ x : Stream, x.active = false ∧ x.buf = [] ∧ exec i s = .next (trapped s (sets x) 14 (vBase s.cur v)))

/-- R162, R340, R342: STRSET that is ready and has no ST.E outstanding reads a 32-byte descriptor at an aligned address, in the own scratchpad or
    elsewhere, and sets stream q[D] from it; one out of rule makes it take STREAM_FMT and leaves the stream inactive; a misaligned address takes
    MISALIGN (log 45), a fault of the read LOAD_FAULT; with an ST.E outstanding it waits (log 18). STRCLR makes the stream inactive without its buffer and fault.
    STRSTAT writes the layout of R342 to s[D]. -/
def Obligations.StreamResults : Prop :=
  (∀ (i : Instr) (s : State), formsOf .strset .strsetX i → ready i s = true →
    let ea := vBase s.cur (typedView i s)
    (ea.toNat % 32 ≠ 0 → exec i s = .next (trapped s s 3 ea))
    ∧ (ea.toNat % 32 = 0 → storesQueued s s.curRef = true →
        ∃ t : State, exec i s = .next t ∧ t.cur.st = .waiting ∧ t.cur.pc = s.cur.pc ∧ t.mem = s.mem)
    ∧ (ea.toNat % 32 = 0 → storesQueued s s.curRef = false →
        (∀ o, ownBytes s ea 32 32 o → streamSet i s s (ownRecord s o 32))
        ∧ (∀ s1 c va, fetchRecord s s.me ea 32 = (s1, .error (.fault c va)) → exec i s = .next (trapped s s1 5 va))
        ∧ (∀ s1 r, fetchRecord s s.me ea 32 = (s1, .ok r) → streamSet i s s1 r)))
  ∧ (∀ (i : Instr) (s : State) (q : Stream), formsOf .strclr .strclrX i → ready i s = true →
    let v := typedView i s
    s.cur.streams[v.d]? = some q → ∃ x : Stream, x.active = false ∧ x.buf = [] ∧ x.err = false ∧ x.overEnd = q.overEnd
      ∧ exec i s = .next (completed i s { s with cur := { s.cur with streams := s.cur.streams.setIfInBounds v.d x } }))
  ∧ (∀ (i : Instr) (s : State) (q : Stream), formsOf .strstat .strstatX i → ready i s = true →
    let v := typedView i s
    s.cur.streams[v.a]? = some q → ∃ x : Word, x.extractLsb' 24 40 = BitVec.ofNat 40 q.next ∧ x.extractLsb' 16 8 = 0
      ∧ x.extractLsb' 8 8 = BitVec.ofNat 8 q.cause ∧ x.extractLsb' 3 5 = 0 ∧ x.getLsbD 2 = q.err ∧ x.getLsbD 1 = q.overEnd ∧ x.getLsbD 0 = q.active
      ∧ exec i s = .next (completed i s (s.setReg v.d x)))

/-- R343, R345: a copy descriptor in rule. -/
def Sys2Proof.Claims.copyRule (r : List Byte) : Prop :=
  let levels := fieldAt r 0x1C 1
  fieldAt r 0x1D 1 < 16 ∧ fieldAt r 0x1E 2 = 0 ∧ levels ≤ 6 ∧ 1 ≤ fieldAt r 0x18 4 ∧ fieldAt r 0x18 4 ≤ 2 ^ 24
    ∧ (∀ l, l < levels → fieldAt r (0x2C + 16 * l) 4 = 0)
    ∧ (fieldAt r 0x10 8 = 0 ∨ (fieldAt r 0x10 8 % 16 = 0 ∧ inScratchWindows (BitVec.ofNat 64 (fieldAt r 0x10 8)) = true))

/-- R346: STATE of a copy. -/
def Sys2Proof.Claims.copyState : CopySt → Nat
  | .running => 1
  | .waitSlot => 2
  | .parked => 3

/-- R204: the other slot's context holds no copy that waits for a number of the executing core. -/
def Sys2Proof.Claims.noneWaits (s : State) (n : Nat) : Prop :=
  ∀ p ∈ (s.strand { core := s.curRef.core, slot := 1 - s.curRef.slot }).waitCopies, p.1 ≠ n

/-- R343 to R346: CPLVL that is ready stores one level of a descriptor; CPGO of a free number, with no ST.E outstanding, starts the copy a descriptor
    in rule describes, whose source is what loads would find now (R154, R162, log 53), and ends one out of rule at once with BAD_DESC; CPSTAT writes the layout of R346; CPCAN ends a copy of this context, with
    no sector begun, CANCELLED, its slot FULL with the error flag, ends one that waits for its number (log 58), and leaves other contexts' copies
    alone. -/
def Obligations.CopyResults : Prop :=
  (∀ (i : Instr) (s : State) (o : Nat), formsOf .cplvl .cplvlX i → ready i s = true →
    let v := typedView i s
    let at_ := o + 0x20 + 16 * (v.imm16 % 8)
    ownBytes s (s.cur.reg v.a) 128 128 o → noSyncIn s at_ 16 →
    let level := bytesOfNat 4 (s.cur.reg v.d).toNat ++ bytesOfNat 8 (s.cur.reg v.b).toNat ++ bytesOfNat 4 0
    exec i s = .next (completed i s { s with mem := Memory.writeBytes s.mem (ownLoc s at_) level }))
  ∧ (∀ (i : Instr) (s : State) (o : Nat), formsOf .cpgo .cpgoX i → ready i s = true →
    let v := typedView i s
    let n := v.imm16 % 4
    let r := ownRecord s o 128
    ownBytes s (s.cur.reg v.a) 128 128 o → s.cur.captured = [] → storesQueued s s.curRef = false → s.copyAt s.curRef.core n = none →
    (∀ p ∈ s.cur.waitCopies, p.1 ≠ n) →
    (¬ copyRule r → ∃ t : State, exec i s = .next (completed i s t) ∧ t.mem = s.mem ∧ (noneWaits s n → t.copyAt s.curRef.core n = none)
      ∧ t.cur.copyEnds[n]? = some { sect := 0, status := 35 })
    ∧ (copyRule r → ∃ (t : State) (c : Copy), exec i s = .next (completed i s t) ∧ t.mem = s.mem ∧ t.cur = s.cur
      ∧ t.copyAt s.curRef.core n = some c ∧ (s.now, Instr.copySectorTranslated s.curRef.core n) ∈ t.agenda
      ∧ c.owner = s.curRef ∧ c.src = BitVec.ofNat 64 (fieldAt r 0 8) ∧ c.dst = BitVec.ofNat 64 (fieldAt r 8 8)
      ∧ c.sync = BitVec.ofNat 64 (fieldAt r 0x10 8) ∧ c.bytes = fieldAt r 0x18 4 ∧ c.levels.length = fieldAt r 0x1C 1
      ∧ (∀ l, l < fieldAt r 0x1C 1 → ∃ y, c.levels[l]? = some y ∧ y.count = fieldAt r (0x20 + 16 * l) 4
          ∧ y.sstride = sextNat 32 (fieldAt r (0x24 + 16 * l) 4) ∧ y.dstride = sextNat 32 (fieldAt r (0x28 + 16 * l) 4))
      ∧ c.flac = (if fieldAt r 0x1D 1 / 8 % 2 = 1 then some (fieldAt r 0x1D 1 % 8) else none) ∧ c.st = .running ∧ c.sect = 0
      ∧ c.mem = snapshot s ∧ c.stale = s.stale ∧ c.rows = s.rowClear))
  ∧ (∀ (i : Instr) (s : State) (e : CopyEnd), formsOf .cpstat .cpstatX i → ready i s = true →
    let v := typedView i s
    let n := v.imm16 % 4
    s.cur.copyEnds[n]? = some e → e.status < 256 → ∃ x : Word, exec i s = .next (completed i s (s.setReg v.d x)) ∧ x.extractLsb' 3 5 = 0
      ∧ (match s.copyAt s.curRef.core n with
        | none => x.extractLsb' 0 3 = 0 ∧ x.extractLsb' 8 8 = BitVec.ofNat 8 e.status ∧ x.extractLsb' 16 48 = BitVec.ofNat 48 e.sect
        | some c => x.extractLsb' 0 2 = BitVec.ofNat 2 (copyState c.st) ∧ x.getLsbD 2 = decide (c.owner ≠ s.curRef)
            ∧ (c.owner = s.curRef → x.extractLsb' 8 8 = BitVec.ofNat 8 e.status ∧ x.extractLsb' 16 48 = BitVec.ofNat 48 c.sect)
            ∧ (c.owner ≠ s.curRef → x.extractLsb' 8 56 = 0)))
  ∧ (∀ (i : Instr) (s : State), formsOf .cpcan .cpcanX i → ready i s = true →
    let v := typedView i s
    let n := v.imm16 % 4
    let theirs := ∀ c, s.copyAt s.curRef.core n = some c → c.owner ≠ s.curRef
    (theirs → (∀ p ∈ s.cur.waitCopies, p.1 ≠ n) → exec i s = .next (completed i s s))
    ∧ (∀ c, theirs → s.cur.waitCopies = [(n, c)] →
        ∃ t : State, exec i s = .next (completed i s t) ∧ t.mem = s.mem ∧ t.cur.waitCopies = []
          ∧ t.cur.copyEnds[n]? = some { sect := c.sect, status := 33 })
    ∧ (∀ c, s.copyAt s.curRef.core n = some c → c.owner = s.curRef → c.begun = none →
        ∃ t : State, exec i s = .next (completed i s t) ∧ t.mem = s.mem ∧ (noneWaits s n → t.copyAt s.curRef.core n = none)
          ∧ t.cur.copyEnds[n]? = some { sect := c.sect, status := 33 }
          ∧ ∀ f k y, c.flac = some f → c.slot = some k → ((s.cur.flacons[f]?).getD .reset).slots[k]? = some y →
              ((t.cur.flacons[f]?).getD .reset).slots[k]? = some { y with st := .full, err := true }))

/-- R347: the arguments of FLINIT are in rule: base, slot size and slot count. -/
def Sys2Proof.Claims.ringRule (t : Strand) (base size count : Nat) : Prop :=
  0x00FD000000000000 ≤ base ∧ base < 0x00FD000000200000 ∧ base % 256 = 0 ∧ 256 ≤ size ∧ size ≤ 65536 ∧ size % 256 = 0 ∧ 1 ≤ count ∧ count ≤ 64
    ∧ t.scratchBase ≤ base - 0x00FD000000000000 ∧ base - 0x00FD000000000000 + size * count ≤ t.scratchBase + t.scratchSize

/-- R347: FLINIT, AWAITF, RELS and FLSTAT that are ready complete: FLINIT answers BAD_ARG or BUSY and changes nothing, or sets the ring with every
    slot EMPTY; AWAITF of a FULL head answers the slot's address with the error flag, of a flacon with no slots 0; RELS empties a FULL head,
    moves head on and has waiting copies look again, or answers 1 or 2; FLSTAT writes its layout. -/
def Obligations.FlaconResults : Prop :=
  (∀ (i : Instr) (s : State), formsOf .flinit .flinitX i → ready i s = true →
    let v := typedView i s
    let base := s.cur.reg v.a
    let size := (s.cur.reg v.b).toNat % 2 ^ 32
    let count := (s.cur.reg v.b).toNat / 2 ^ 32 % 128
    let f := v.imm16 % 8
    let busy := (∃ n c, n < 4 ∧ s.copyAt s.curRef.core n = some c ∧ c.owner = s.curRef ∧ c.flac = some f) ∨ ∃ p ∈ s.cur.waitCopies, p.2.flac = some f
    (¬ ringRule s.cur base.toNat size count → exec i s = .next (completed i s (s.setReg v.d 1)))
    ∧ (ringRule s.cur base.toNat size count → busy → exec i s = .next (completed i s (s.setReg v.d 2)))
    ∧ (ringRule s.cur base.toNat size count → ¬ busy →
        let x : Flacon := { base, size, slots := List.replicate count { st := .empty, err := false, arrived := 0 }, head := 0, tail := 0 }
        exec i s = .next (completed i s ({ s with cur := { s.cur with flacons := s.cur.flacons.setIfInBounds f x } }.setReg v.d 0))))
  ∧ (∀ (i : Instr) (s : State) (f : Flacon), ready i s = true →
    let v := typedView i s
    let n := v.imm16 % 8
    s.cur.flacons[n]? = some f →
    (formsOf .awaitf .awaitfX i →
      (f.slots = [] → exec i s = .next (completed i s (s.setReg v.d 0)))
      ∧ (∀ y, f.slots[f.head]? = some y → y.st = .full →
          exec i s = .next (completed i s (s.setReg v.d (f.base + BitVec.ofNat 64 (f.size * f.head) + if y.err then 1 else 0))))
      ∧ (∀ y, f.slots[f.head]? = some y → y.st ≠ .full → ∃ t : State, exec i s = .next t ∧ t.cur.st = .waiting ∧ t.cur.pc = s.cur.pc ∧ t.mem = s.mem))
    ∧ (formsOf .rels .relsX i →
      (f.slots[f.head]? = none → exec i s = .next (completed i s (s.setReg v.d 2)))
      ∧ (∀ y, f.slots[f.head]? = some y → y.st ≠ .full → exec i s = .next (completed i s (s.setReg v.d 1)))
      ∧ (∀ y, f.slots[f.head]? = some y → y.st = .full →
          let f' : Flacon := { f with slots := f.slots.set f.head { y with st := .empty }, head := (f.head + 1) % f.slots.length }
          ∃ t : State, exec i s = .next (completed i s (t.setReg v.d 0)) ∧ t.mem = s.mem
          ∧ t.cur = { s.cur with flacons := s.cur.flacons.setIfInBounds n f' }
          ∧ ∀ k c, k < 4 → s.copyAt s.curRef.core k = some c → c.owner = s.curRef → c.flac = some n → c.st = .waitSlot →
              (s.now, Instr.copySectorTranslated s.curRef.core k) ∈ t.agenda))
    ∧ (formsOf .flstat .flstatX i → f.slots.length ≤ 64 → f.head < 64 → f.tail < 64 → ∃ x : Word, exec i s = .next (completed i s (s.setReg v.d x))
      ∧ x.getLsbD 63 = ((f.slots[f.head]?).map (fun y => y.st == .full)).getD false ∧ x.extractLsb' 24 39 = BitVec.ofNat 39 f.slots.length
      ∧ x.extractLsb' 16 8 = BitVec.ofNat 8 (f.slots.filter (fun y => y.st == .full)).length
      ∧ x.extractLsb' 8 8 = BitVec.ofNat 8 f.tail ∧ x.extractLsb' 0 8 = BitVec.ofNat 8 f.head))

/-- R348: the status of STASHMAP for a range that starts at `sa` and the object `id`. -/
def Sys2Proof.Claims.stashStatus (s : State) (sa id : Nat) : Nat :=
  let off := sa - 0x00FD000000000000
  let size := match mapGet s.objs id with
    | some o => 128 * (spanIndices o.lines).length
    | none => 0
  if sa < 0x00FD000000000000 ∨ 0x00FD000000200000 ≤ sa ∨ off % 128 ≠ 0 ∨ off < s.cur.scratchBase ∨ s.cur.scratchBase + s.cur.scratchSize < off + size then 1
  else match mapGet s.objs id with
    | none => 2
    | some o => if o.mode ≠ .lease then 3 else if objInWindow s s.cur.ctx o then 4 else if 8 ≤ s.cur.stash.length then 5 else 0

/-- R122: the mapping STASHMAP adds for a range at `sa` and the object `id`, whose lines are `o.lines`. -/
def Sys2Proof.Claims.newMapping (sa id : Nat) (o : Obj) : StashMap :=
  { off := sa - 0x00FD000000000000, obj := id, lines := spanIndices o.lines, filled := [], dirty := [], bad := [] }

/-- The executing context's mappings are apart, their lines lie in this module's device memory and off the object table, their dirty lines are lines of
    theirs; the memory, the L2 and DRAM's own bytes are in form. -/
def Sys2Proof.Claims.stashForm (s : State) : Prop :=
  MemoryForm s ∧ keysRise s.stale = true ∧ (∀ x ∈ s.l2, x < ownLines) ∧ s.ceil ≤ 2 ^ 50
    ∧ (s.cur.stash.map (fun m => m.off)).Nodup ∧ (s.cur.stash.flatMap (fun m => m.lines)).Nodup
    ∧ ∀ m ∈ s.cur.stash, m.dirty.Pairwise (· < ·) ∧ (∀ k ∈ m.dirty, k < m.lines.length)
        ∧ ∀ l ∈ m.lines, l < ownLines ∧ ∀ p ∈ s.objs, 128 * l + 128 ≤ s.sched.objtab.toNat + 64 * p.1 ∨ s.sched.objtab.toNat + 64 * p.1 + 64 ≤ 128 * l

/-- R124: in `t` the home holds the bytes that line k of a mapping had in the scratchpad. -/
def Sys2Proof.Claims.broughtHome (s t : State) (m : StashMap) (k : Nat) : Prop :=
  ∀ l, m.lines[k]? = some l → Memory.readBytes t.mem (128 * l) 128 = Memory.readBytes s.mem (ownLoc s (m.off + 128 * k)) 128

/-- R38: the host holds the home of some dirty line of a mapping for which `p` holds. -/
def Sys2Proof.Claims.hostHolds (s : State) (m : StashMap) (p : Nat → Prop) : Prop :=
  ∃ k ∈ m.dirty, p k ∧ ∃ l ∈ s.snoop, m.lines[k]? = some l

/-- An instruction waits at its PC: it has not completed, and no register and no memory has changed. -/
def Sys2Proof.Claims.waitsOn (i : Instr) (s : State) : Prop :=
  ∃ t : State, exec i s = .next t ∧ t.cur.asks = ((viewOf i).d, (viewOf i).bytes) ∧ t.cur.pc = s.cur.pc ∧ t.cur.s = s.cur.s ∧ t.mem = s.mem

/-- R122, R348: STASHMAP answers the first status that applies and changes nothing, for an object of this slot that it has mapped BAD_RANGE or
    NOT_LEASE; an object in LEASE it switches to STASHED; the mapping stands, its lines not filled, once no lease of the object runs: until then
    it waits, and goes on with the object it switched. -/
def Sys2Proof.Claims.StashMapping : Prop :=
  ∀ (i : Instr) (s : State), formsOf .stashmap .stashmapX i → ready i s = true →
    let v := typedView i s
    let sa := (s.cur.reg v.a).toNat
    let id := (s.cur.reg v.b).toNat % 2 ^ 18
    let mine := ObjMode.stashed s.curRef.core s.curRef.slot
    let mapped := ∃ m ∈ s.cur.stash, m.obj = id
    let switched := fun (o : Obj) => { s with objs := mapSet s.objs id { o with mode := mine } }
    let idle := ∀ k, k < 128 → s.expiryOf (id * 128 + k) ≤ s.now
    let added := fun (s : State) (o : Obj) => { s with cur := { s.cur with stash := s.cur.stash ++ [newMapping sa id o] } }
    ((∀ o, mapGet s.objs id = some o → o.mode = mine → mapped) → stashStatus s sa id ≠ 0 →
        exec i s = .next (completed i s (s.setReg v.d (BitVec.ofNat 64 (stashStatus s sa id)))))
    ∧ (∀ o, mapGet s.objs id = some o → stashStatus s sa id = 0 →
        (idle → exec i s = .next (completed i s ((added (switched o) o).setReg v.d 0)))
        ∧ (¬ idle → waitsOn i s ∧ ∀ t, exec i s = .next t → t.objs = (switched o).objs ∧ t.cur.stash = s.cur.stash))
    ∧ (∀ o, mapGet s.objs id = some o → o.mode = mine → ¬ mapped → 0x00FD000000000000 ≤ sa → sa < 0x00FD000000200000 →
        (idle → exec i s = .next (completed i s ((added s o).setReg v.d 0)))
        ∧ (¬ idle → waitsOn i s ∧ ∀ t, exec i s = .next t → t.objs = s.objs ∧ t.cur.stash = s.cur.stash))

/-- R124, R348: STASHUNMAP answers NOT_MAPPED, or brings every dirty line's bytes to its home, removes the mapping and returns the object to LEASE; it
    waits while the host holds the home of a dirty line (R38). -/
def Sys2Proof.Claims.StashUnmapping : Prop :=
  ∀ (i : Instr) (s : State), formsOf .stashunmap .stashunmapX i → ready i s = true →
    let v := typedView i s
    let sa := (s.cur.reg v.a).toNat
    ((∀ m ∈ s.cur.stash, sa ≠ 0x00FD000000000000 + m.off) → exec i s = .next (completed i s (s.setReg v.d 6)))
    ∧ (∀ m ∈ s.cur.stash, stashForm s → sa = 0x00FD000000000000 + m.off → m.off < 0x200000 →
        (hostHolds s m (fun _ => True) → waitsOn i s)
        ∧ (¬ hostHolds s m (fun _ => True) →
            ∃ t : State, exec i s = .next (completed i s (t.setReg v.d 0)) ∧ t.cur.stash = s.cur.stash.filter (fun x => x.off != m.off)
              ∧ (∀ o, mapGet s.objs m.obj = some o → mapGet t.objs m.obj = some { o with mode := .lease })
              ∧ (∀ k ∈ m.dirty, broughtHome s t m k) ∧ (m.dirty = [] → t.mem = s.mem)))

/-- R124, R348: STASHWB brings home the bytes of the dirty lines, of any number of mappings, that meet [s[A], s[A] + s[B]), which are then clean;
    the others stay dirty; it waits while the host holds the home of one of those it brings (R38). -/
def Sys2Proof.Claims.StashWriteBacks : Prop :=
  ∀ (i : Instr) (s : State), formsOf .stashwb .stashwbX i → ready i s = true → stashForm s →
    let v := typedView i s
    let lo := (s.cur.reg v.a).toNat
    let hi := lo + (s.cur.reg v.b).toNat
    let lineVa := fun (m : StashMap) (k : Nat) => 0x00FD000000000000 + m.off + 128 * k
    let meets := fun (m : StashMap) (k : Nat) => lo < hi ∧ lineVa m k < hi ∧ lo < lineVa m (k + 1)
    ((∃ m ∈ s.cur.stash, hostHolds s m (meets m)) → waitsOn i s)
    ∧ ((∀ m ∈ s.cur.stash, ¬ hostHolds s m (meets m)) → ∃ t : State, exec i s = .next (completed i s t) ∧ t.cur.s = s.cur.s
        ∧ t.cur.stash = s.cur.stash.map (fun m => { m with dirty := m.dirty.filter (fun k => !decide (meets m k)) })
        ∧ ∀ m ∈ s.cur.stash, ∀ k ∈ m.dirty, meets m k → broughtHome s t m k)

/-- R122, R124, R348: STASHMAP, STASHUNMAP and STASHWB. -/
def Obligations.StashResults : Prop := Claims.StashMapping ∧ Claims.StashUnmapping ∧ Claims.StashWriteBacks

/-- R349: CWB, CINV and CWBINV with what they do. -/
def Sys2Proof.Claims.cmoRows : List ((Instr → Prop) × Bool × Bool) :=
  [(Sys2Proof.Claims.formsOf .cwb .cwbX, true, false), (Sys2Proof.Claims.formsOf .cinv .cinvX, false, true),
   (Sys2Proof.Claims.formsOf .cwbinv .cwbinvX, true, true)]

/-- R349: cache maintenance that is ready, over a range inside one line that translates, completes: CWB writes a dirty L2 copy of a line of LEASE
    or default memory to DRAM, CINV leaves no copy of it in the core's L1, CWBINV does both; lines of other kinds are as before, and no byte of
    memory changes; over the own scratchpad nothing changes. A length above 65,536 takes ACCESS; a line to be written back behind a down port takes LOAD_FAULT (R28, log 48). -/
def Obligations.CacheResults : Prop :=
  ∀ p ∈ cmoRows, ∀ (i : Instr) (s : State), p.1 i → ready i s = true →
    let v := typedView i s
    let base := s.cur.reg v.a
    let n := max (s.cur.reg v.b).toNat 1
    (65536 < n → exec i s = .next (trapped s s 7 base))
    ∧ (∀ o, base.toNat % 128 + n ≤ 128 → ownBytes s base 1 1 o → exec i s = .next (completed i s s))
    ∧ (∀ s1 c, n ≤ 65536 → resolve s s.me .load none base 1 1 = (s1, .error c) → exec i s = .next (trapped s s1 c base))
    ∧ (∀ s1 g, n ≤ 65536 → base.toNat % 128 + n ≤ 128 → resolve s s.me .load none base 1 1 = (s1, .ok g) → p.2.1 = true →
        unreachable s1 g.place = true → exec i s = .next (trapped s s1 5 base))
    ∧ (∀ s1 g, n ≤ 65536 → base.toNat % 128 + n ≤ 128 → resolve s s.me .load none base 1 1 = (s1, .ok g) →
        (p.2.1 = true → unreachable s1 g.place = false) →
        ∃ t : State, exec i s = .next (completed i s t) ∧ t.mem = s1.mem ∧ t.cur = s1.cur
          ∧ ((g.nc = true ∨ (∀ m a, g.place ≠ .device m a)) → t = s1)
          ∧ (∀ a id o, g.place = .device s1.modId a → s1.objOfLine (a / 128) = some (id, o) → o.mode ≠ .lease → t = s1)
          ∧ (∀ a, g.place = .device s1.modId a → g.nc = false → (∀ id o, s1.objOfLine (a / 128) = some (id, o) → o.mode = .lease) →
              (p.2.1 = true → setHas s1.dirty (a / 128) = true →
                t.dirty = setDel s1.dirty (a / 128) ∧ (keysRise s1.stale = true → mapGet t.stale (a / 128) = none))
              ∧ (p.2.1 = false ∨ setHas s1.dirty (a / 128) = false → t.stale = s1.stale ∧ t.dirty = s1.dirty)
              ∧ (p.2.2 = true → ∀ x ∈ (t.core s.curRef.core).l1, x.line ≠ lineOf (g.place.loc s1.modId))
              ∧ (p.2.2 = false → t.cores = s1.cores)))

/-- R350: the fields of a collective descriptor are in rule; `kind` 0 COLLRED, 1 COLLGAT, 2 COLLBAR. -/
def Sys2Proof.Claims.collRule (r : List Byte) (kind : Nat) : Prop :=
  let npart := fieldAt r 0x24 2
  let bytes := fieldAt r 0x20 4
  let op := fieldAt r 0x28 1
  let et := fieldAt r 0x29 1
  1 ≤ npart ∧ npart ≤ 4096 ∧ fieldAt r 0x26 2 < npart ∧ bytes ≤ 2 ^ 24 ∧ (∀ j, 0x2A ≤ j → j < 0x40 → r.getD j 0 = 0)
    ∧ (if kind = 0 then op ≤ 2 ∧ ((et = 2 ∧ bytes % 4 = 0) ∨ (et = 3 ∧ bytes % 8 = 0) ∨ (et = 6 ∧ bytes % 4 = 0)) else op = 0 ∧ et = 0)
    ∧ (kind = 2 → fieldAt r 8 8 = 0)

/-- The slot in which a unit with the executing one's launch and number is resident is the executing one's. -/
def Sys2Proof.Claims.seated (s : State) : Prop :=
  (s.allStrands.find? (fun p => p.2.st != .empty && p.2.launch == s.cur.launch && p.2.unitId == s.cur.unitId)).map (·.1) = some s.curRef

/-- R350 to R353: a collective instruction that is ready, its descriptor, DONE and contribution in the own scratchpad and earlier accesses complete at
    FABRIC scope, the host holding no line of its rendezvous record (R38), completes when accepted: with a descriptor out of rule only its DONE is written, with BAD_DESC; else it joins the open epoch of its
    record as one more arrival with its contribution, and the arrival that makes NPART closes the epoch. A misaligned descriptor takes MISALIGN, a
    misaligned DONE MISALIGN. -/
def Obligations.CollectiveResults : Prop :=
  ∀ p ∈ ([(formsOf .collred .collredX, 0), (formsOf .collgat .collgatX, 1), (formsOf .collbar .collbarX, 2)] : List ((Instr → Prop) × Nat)),
    ∀ (i : Instr) (s : State) (o od : Nat), p.1 i → ready i s = true →
    let ea := s.cur.reg (typedView i s).a
    let r := ownRecord s o 64
    let done : Word := BitVec.ofNat 64 (fieldAt r 0x18 8)
    (ea.toNat % 64 ≠ 0 → exec i s = .next (trapped s s 3 ea))
    ∧ (ownBytes s ea 64 64 o → done.toNat % 8 ≠ 0 → exec i s = .next (trapped s s 3 done))
    ∧ (ownBytes s ea 64 64 o → ownBytes s done 8 8 od → settled s 4 →
        (¬ collRule r p.2 → seated s → noSyncIn s od 8 → exec i s = .next (completed i s (ownStore s od 8 5)))
        ∧ (∀ q os, collRule r p.2 → rendPlace s s.me (BitVec.ofNat 64 (fieldAt r 0x10 8)) = some q → hostWait s q 640 = none →
            (p.2 = 2 ∨ fieldAt r 0x20 4 = 0 ∨ ownBytes s (BitVec.ofNat 64 (fieldAt r 0 8)) (fieldAt r 0x20 4) 1 os) →
            ∃ (t : State) (e : Epoch) (x : Arrival), exec i s = .next (completed i s t) ∧ e ∈ t.epochs ∧ e.rend = q.loc s.modId
              ∧ e.arrivals.getLast? = some x ∧ x.unit = some s.curRef ∧ x.rank = fieldAt r 0x26 2 ∧ x.src = BitVec.ofNat 64 (fieldAt r 0 8)
              ∧ x.dst = BitVec.ofNat 64 (fieldAt r 8 8) ∧ x.doneVa = done
              ∧ (p.2 ≠ 2 → fieldAt r 0x20 4 ≠ 0 → unreachable s q = false → x.data = ownRecord s os (fieldAt r 0x20 4))
              ∧ (e.npart ≤ e.arrivals.length → (s.now, Instr.collectiveComplete e.rend) ∈ t.agenda)
              ∧ ((∀ y ∈ s.epochs, y.rend = e.rend → y.npart ≤ y.arrivals.length) →
                  e.arrivals = [x] ∧ e.kind = p.2 ∧ e.npart = fieldAt r 0x24 2 ∧ e.bytes = fieldAt r 0x20 4)))

/-! ### Tiles, drains, histograms and codebook banks (R254 to R256, R354 to R367) -/

/-- R354: an instruction acts on row r: at or above VSTART, a row of the tile, and picked by its mask. -/
def Sys2Proof.Claims.rowOn (t : Strand) (v : View) (r : Nat) : Bool :=
  decide (t.vstart.toNat ≤ r) && decide (r < 128) && Sys2Proof.Claims.picked t v r

/-- Word c of row r of tile n of the executing core. -/
def Sys2Proof.Claims.tileWord (s : State) (n r c : Nat) : Nat := elemOf (((s.tile n).rows[r]?).getD 0).toNat 32 c

/-- R354: the words of the rows acted on of tile v.d take new values; every other word and tile, and memory, are as before. -/
def Sys2Proof.Claims.tileTakes (s t : State) (v : View) (on : Nat → Bool) (w : Nat → Nat → Nat) : Prop :=
  (∀ r c, r < 128 → c < 128 → tileWord t v.d r c = if on r then w r c % 2 ^ 32 else tileWord s v.d r c)
    ∧ (∀ n, n ≠ v.d → t.tile n = s.tile n) ∧ t.mem = s.mem

/-- R111: what DRAM holds of a line differs from the L2's bytes only where the L2's copy is dirty. -/
def Sys2Proof.Claims.tidyAt (s : State) (line : Nat) : Prop :=
  keysRise s.stale = true ∧ ((mapGet s.stale line).isSome = true → setHas s.dirty line = true)

/-- Device memory through which the part reads and writes for itself as it stands: no object, no error latent, no line the host holds, DRAM behind the
    L2 in dirty lines alone, in its canonical form. -/
def Sys2Proof.Claims.plainDevice (s : State) : Prop := MemoryForm s ∧ s.objs = [] ∧ s.latent = [] ∧ s.snoop = [] ∧ ∀ l, tidyAt s l

/-- R242, R354: the flags of every row acted on. -/
def Sys2Proof.Claims.rowFlags (on : Nat → Bool) (fl : Nat → Nat → Flags) : Flags :=
  (List.range 128).foldl (fun a r => if on r then (List.range 128).foldl (fun b c => b ||| fl r c) a else a) 0

/-- R249, R354: SBASE's advance by a rounding instruction on tiles. -/
def Sys2Proof.Claims.rowAdvanced (rounds : Bool) (v : View) (t : Strand) : Strand :=
  if rounds && rmOf t v == 5 then { t with cv := { t.cv with srBase := t.cv.srBase + 16384 } } else t

/-- R354: a tile word read as INT32 or FP32. -/
def Sys2Proof.Claims.wordNum (t : ET) (x : Nat) : Machine.Num := if t = .fp32 then decodeFloat .fp32 x else Machine.Num.ofInt (sextNat 32 x)

/-- R356: a new FP32 word of an outer product: the exact sum of the word and the products, rounded once; 0 × ∞ gives the canonical NaN. -/
def Sys2Proof.Claims.outerFloat (v : View) (neg : Bool) (rm r w : Nat) (ps : List (Machine.Num × Flags)) : Nat × Flags :=
  let bad := ps.foldl (fun a p => a ||| p.2) 0
  let z := if bad = 0 then sumNum rm (decodeFloat .fp32 w :: ps.map (fun p => if neg then p.1.negate else p.1)) else (Machine.Num.nan, bad)
  let q := roundNum z.1 .fp32 rm v.w2.sat r
  (q.1, z.2 ||| q.2)

/-- R356: a new INT32 word: clamped under SAT, else modulo 2^32. -/
def Sys2Proof.Claims.outerInt (v : View) (neg : Bool) (w : Nat) (p : Int) : Nat × Flags :=
  let z := sextNat 32 w + (if neg then -p else p)
  let q := if v.w2.sat then max (-2 ^ 31) (min (2 ^ 31 - 1) z) else z
  ((BitVec.ofInt 32 q).toNat, if q = z then 0 else Flags.sat)

/-- R218, R354, R356: OPACC and OPACCN that are ready, with operands fetched without a fault, touch the tile and complete: word c of each row r acted
    on adds, or subtracts, the products of elements d·r on of A and d·c on of B; with VSTART at or above 128 (log 40) no row is acted on. What the touch
    leaves is `LazyTiles`. -/
def Obligations.OuterProducts : Prop :=
  ∀ p ∈ ([(formsOf .opacc .opaccX, false), (formsOf .opaccn .opaccnX, true)] : List ((Instr → Prop) × Bool)),
    ∀ (i : Instr) (s : State), p.1 i → ready i s = true →
    let v := typedView i s
    let fp := Check.tD v == .fp32
    let d := if (Check.tA v).width = 16 then 1 else 2
    let rm := rmOf s.cur v
    (128 ≤ s.cur.vstart.toNat → exec i s = .next (completed i s { s with cur := rowAdvanced fp v s.cur }))
    ∧ (s.cur.vstart.toNat < 128 → ∀ (s1 s2 : State) (a b : Src) (x y : Nat → Nat),
        fetchVec (touchTile s v.d) v false (Check.vlmax v) (Check.tA v) = (s1, a, none) → fetchVec s1 v true (Check.vlmax v) (Check.tB v) = (s2, b, none) →
        (∀ j, rowOn s.cur v (j / d) = true → a.elem j = .ok (x j)) → (∀ j, j < Check.vlmax v → b.elem j = .ok (y j)) →
        let res := fun (r c : Nat) =>
          if fp then outerFloat v p.2 rm (roundBits s.cur rm (r * 128 + c)) (tileWord s2 v.d r c) ((List.range d).map (fun k =>
            mulNum (decodeFloat (Check.tA v) (x (d * r + k))) (decodeFloat (Check.tB v) (y (d * c + k)))))
          else outerInt v p.2 (tileWord s2 v.d r c) (((List.range d).map (fun k =>
            (if v.imm16.testBit 8 then (x (d * r + k) : Int) else sextNat 8 (x (d * r + k)))
              * (if v.imm16.testBit 9 then (y (d * c + k) : Int) else sextNat 8 (y (d * c + k))))).sum)
        ∃ t : State, exec i s = .next (completed i s t) ∧ tileTakes s2 t v (rowOn s.cur v) (fun r c => (res r c).1)
          ∧ t.cur = rowAdvanced fp v (s2.cur.raise (rowFlags (rowOn s.cur v) (fun r c => (res r c).2))))

/-- R218: what an instruction's touch of a tile leaves. The owner's touch is no change. A context's touch of another tile writes a dirty one to its
    owner's record, whose validity bit for it is then set; the tile then is what the toucher's record holds of it, or zero where the record's bit
    is clear; its owner is the toucher, clean; every other tile is as before. -/
def Sys2Proof.Claims.LazyTiles : Prop :=
  ∀ (s : State) (n : Nat), n < 12 →
    let x := s.tile n
    let t := touchTile s n
    (x.owner = s.cur.record → t = s)
    ∧ (x.owner ≠ s.cur.record → (t.tile n).owner = s.cur.record ∧ (t.tile n).dirty = false ∧ (∀ k, k ≠ n → t.tile k = s.tile k)
      ∧ (∀ r, s.cur.record.bind s.saveRec = some r → r.tileValid.getLsbD n = false → (t.tile n).rows = Tile.reset.rows)
      ∧ (x.dirty = false → ∀ r, plainDevice s → s.cur.record.bind s.saveRec = some r → r.tileValid.getLsbD n = true → ∀ i, i < 128 →
          (t.tile n).rows[i]? = some (BitVec.ofNat 4096 (natOfBytes (Memory.readBytes s.mem (r.addr + 0x10000 + n * 0x10000 + 512 * i) 512))))
      ∧ (∀ o r, x.owner = some o → x.dirty = true → s.saveRec o = some r → plainDevice s → r.addr + 0xD0000 ≤ s.ceil → r.addr + 0xD0000 ≤ 2 ^ 39 →
          Memory.readBytes t.mem (r.addr + 0x10000 + n * 0x10000) 65536 = tileBytes x
            ∧ ∃ r', t.saveRec o = some r' ∧ r'.tileValid.getLsbD n = true ∧ r'.bankValid = r.bankValid))

/-- R218, R354, R358, R359: the tile moves that are ready touch the tile (`LazyTiles`) and complete: ACCZ zeroes the rows acted on, ACCLD loads them from the own
    scratchpad, ACCRD and ACCWR move rows row0 on to and from register groups, ACCSCALE multiplies each word by its column's factor. -/
def Sys2Proof.Claims.TileMoves : Prop :=
  ∀ (i : Instr) (s : State), ready i s = true → s.cur.vstart.toNat < 128 →
    let v := typedView i s
    let row0 := (s.cur.reg v.b).toNat % 128
    let inSet := fun (r : Nat) => rowOn s.cur v r && decide (row0 ≤ r) && decide (r < row0 + Check.lm v / 2)
    let s0 := touchTile s v.d
    let s9 := touchTile s v.a
    (formsOf .accz .acczX i →
      ∃ t : State, exec i s = .next (completed i s t) ∧ tileTakes s0 t v (rowOn s.cur v) (fun _ _ => 0) ∧ t.cur = s0.cur)
    ∧ (∀ off : Nat → Nat → Nat, formsOf .accld .accldX i → noFilling s0 →
      (∀ r c, rowOn s.cur v r = true → c < 128 →
        ownBytes s0 (s.cur.reg v.a + BitVec.ofNat 64 r * s.cur.reg v.b + BitVec.ofNat 64 (4 * c)) 4 4 (off r c)) →
      ∃ t : State, exec i s = .next (completed i s t) ∧ tileTakes s0 t v (rowOn s.cur v) (fun r c => ownValue s0 (off r c) 4) ∧ t.cur = s0.cur)
    ∧ (formsOf .accrd .accrdX i → ∃ V : Vector VReg 32,
      (∀ r, r < 128 → inSet r = true → ∀ h, h < 2 → ∀ c, c < 64 →
        elemOf ((V[v.d + 2 * (r - row0) + h]?).getD 0).toNat 32 c = tileWord s9 v.a r (64 * h + c))
      ∧ (∀ k, (∀ r h, inSet r = true → h < 2 → k ≠ v.d + 2 * (r - row0) + h) → V[k]? = s.cur.v[k]?)
      ∧ exec i s = .next (completed i s { s9 with cur := { s9.cur with v := V } }))
    ∧ (formsOf .accwr .accwrX i →
      ∃ t : State, exec i s = .next (completed i s t) ∧ tileTakes s0 t v inSet (fun r c => elemIn s.cur (v.a + 2 * (r - row0)) 2 32 c) ∧ t.cur = s0.cur)
    ∧ (formsOf .accscale .accscaleX i →
      let rm := rmOf s.cur v
      let res := fun (r c : Nat) =>
        let p := mulNum (wordNum (ET.ofCode v.w1.eta.toNat) (tileWord s0 v.d r c)) (decodeFloat .fp32 (elemIn s.cur v.a 2 32 c))
        let q := roundNum p.1 .fp32 rm v.w2.sat (roundBits s.cur rm (r * 128 + c))
        (q.1, p.2 ||| q.2)
      ∃ t : State, exec i s = .next (completed i s t) ∧ tileTakes s0 t v (rowOn s.cur v) (fun r c => (res r c).1)
        ∧ t.cur = rowAdvanced true v (s0.cur.raise (rowFlags (rowOn s.cur v) (fun r c => (res r c).2))))

/-- R361: what the code of word c of row r may be, with its flags; a NaN scale makes a CI8 code as it makes an integer's (log 39). -/
def Sys2Proof.Claims.drainsTo (s : State) (v : View) (r c y : Nat) (fl : Flags) : Prop :=
  let td := Check.tD v
  let rm := rmOf s.cur v
  let rb := roundBits s.cur rm (r * 128 + c)
  let s8 := elemIn s.cur v.b 2 8 (if v.imm16.testBit 0 then 0 else r * 4 + c / 32)
  let x := wordNum (ET.ofCode v.w1.eta.toNat) (tileWord s v.d r c)
  let p := if v.imm16.testBit 1 then mulNum x (decodeFloat .fp32 (elemIn s.cur (v.b + 2) 2 32 c)) else (x, 0)
  let z := p.1.scale (127 - (s8 : Int))
  let cbk := v.imm16 / 256 % 16
  if s8 = 255 then (y, fl) = (if td.isFloat then ((fmtOf td).nan, 0) else (0, Flags.nv))
  else ∃ q : Nat × Flags, (y, fl) = (q.1, p.2 ||| q.2)
    ∧ (if td.isFloat then q = roundNum z td rm v.w2.sat rb
      else if td = .ci8 then ci8Elem s z rm rb (r * 128 + c) = .ok q
      else if td.isCoded then nearest (levelsOf (s.bank cbk) td.width) z = some q ∨ (nearest (levelsOf (s.bank cbk) td.width) z = none ∧ substOf s.cur cbk = true ∧ q = (0, 0))
      else q = toInteger z td.width (v.imm16.testBit 2) rm v.w2.sat rb)

/-- R218, R354, R361: DRAIN that is ready touches its tile and bank (`LazyTiles`, `LazyBanks`) and, where its rows acted on lie in the own scratchpad, completes: the codes of
    each such row are stored one after another, rows in ascending order, and their flags raised. A misaligned s[A] takes MISALIGN at the
    lowest row acted on (log 40), and stores nothing. -/
def Sys2Proof.Claims.DrainResults : Prop :=
  ∀ (i : Instr) (s : State) (o : Nat), formsOf .drain .drainX i → ready i s = true → s.cur.vstart.toNat < 128 →
    let v := typedView i s
    let td := Check.tD v
    let rb := 16 * td.width
    let st := touchTile s v.d
    let s0 := if td = .ci8 then touchBank st (curveBank s.cur) else if td.isCoded then touchBank st (v.imm16 / 256 % 16) else st
    (∀ (y : Nat → Nat → Nat) (fl : Nat → Nat → Flags), (s.cur.reg v.a).toNat % 16 = 0 →
      (∀ r c, rowOn s.cur v r = true → c < 128 → drainsTo s0 v r c (y r c) (fl r c)) →
      (∀ r k, rowOn s.cur v r = true → k < rb / 8 →
        ownBytes s0 (s.cur.reg v.a + BitVec.ofNat 64 (r * rb) + BitVec.ofNat 64 (8 * k)) 8 8 (o + r * rb + 8 * k) ∧ noSyncIn s0 (o + r * rb + 8 * k) 8) →
      let rows := (List.range 128).filter (rowOn s.cur v)
      let m := rows.foldl (fun m r => Memory.writeBytes m (ownLoc s (o + r * rb)) (bytesOfNat rb (packElems td.width ((List.range 128).map (y r))))) s0.mem
      exec i s = .next (completed i s { s0 with mem := m, cur := rowAdvanced (!td.isCoded) v (s0.cur.raise (rowFlags (rowOn s.cur v) fl)) }))
    ∧ (∀ r0, (s.cur.reg v.a).toNat % 16 ≠ 0 → rowOn s.cur v r0 = true → (∀ r, r < r0 → rowOn s.cur v r = false) →
      exec i s = .next (trapped s { s0 with cur := { s0.cur with vstart := BitVec.ofNat 64 r0 } } 3 (s.cur.reg v.a + BitVec.ofNat 64 (r0 * rb))))

/-- R218, R357 to R361: tiles touched, moved and drained (logs 39, 40). -/
def Obligations.TileResults : Prop := Claims.TileMoves ∧ Claims.DrainResults ∧ Claims.LazyTiles

/-- R254: the bin of a value under a base exponent; none for a zero or a NaN. -/
def Sys2Proof.Claims.binOf (hb : Int) : Machine.Num → Option Nat
  | .nan => none
  | .inf _ => some 63
  | .fin _ m e _ => if m = 0 then none else some (max 0 (min 63 (e + (Nat.log2 m : Int) - hb))).toNat

/-- R255: the scale of a histogram: 127 when it is empty, else from the smallest bin at which the running count reaches the percentile. -/
def Sys2Proof.Claims.isScale (h : Nat → Nat) (hb : Int) (p : Nat) (top : Int) (x : Nat) : Prop :=
  let runs := fun (b : Nat) => ((List.range (b + 1)).map h).sum
  (runs 63 = 0 → x = 127)
    ∧ (runs 63 ≠ 0 → ∃ b, b < 64 ∧ max 1 ((runs 63 * p + 65535) / 65536) ≤ runs b ∧ (∀ b', b' < b → runs b' < max 1 ((runs 63 * p + 65535) / 65536))
        ∧ x = (max 0 (min 254 (127 + hb + b + 1 - top))).toNat)

/-- R218, R254, R255, R363, R364: HISTO alone in its convoy adds the counts of the picked rows to v[D], saturating, and raises NV for a NaN; SCALEPICK
    writes the scale of a histogram to s[D], for CI8 under the curve's X16 (log 3), with CB_INVALID, or 255 under SUBST, for an invalid entry. -/
def Obligations.HistogramResults : Prop :=
  (∀ (i : Instr) (s : State), formsOf .histo .histoX i → ready i s = true → s.cur.cv.hist = [] →
    let v := typedView i s
    let hb := sextNat 10 ((s.cur.reg v.b).toNat / 2 ^ 16 % 1024)
    let s0 := touchTile s v.a
    let num := fun (q : Nat × Nat) => wordNum (ET.ofCode v.w1.eta.toNat) (tileWord s0 v.a q.1 q.2)
    let words := ((List.range 128).filter (picked s.cur v)).flatMap (fun r => (List.range 128).map (fun c => (r, c)))
    ∃ V : Vector VReg 32,
      (∀ b, b < 64 → elemIn { s.cur with v := V } v.d 1 32 b =
        min (elemIn s.cur v.d 1 32 b + (words.filter (fun q => binOf hb (num q) == some b)).length) (2 ^ 32 - 1))
      ∧ (∀ k, k ≠ v.d → V[k]? = s.cur.v[k]?)
      ∧ exec i s = .next (completed i s { s0 with cur := { s0.cur with v := V }.raise (if words.any (fun q => num q == Machine.Num.nan) then Flags.nv else 0) }))
  ∧ (∀ (i : Instr) (s : State), (∃ x, i = .scalepick x) → ready i s = true →
    let v := typedView i s
    let w := (s.cur.reg v.b).toNat
    let hb := sextNat 10 (w / 2 ^ 16 % 1024)
    let h := elemIn s.cur v.a 1 32
    let n := curveBank s.cur
    (∀ p ∈ ([(.int4, 2), (.int8, 6), (.e4m3, 8), (.e5m2, 15)] : List (ET × Int)), Check.tD v = p.1 →
      ∃ x, isScale h hb (w % 65536) p.2 x ∧ exec i s = .next (completed i s (s.setReg v.d (BitVec.ofNat 64 x))))
    ∧ (Check.tD v = .ci8 →
      let s0 := touchBank s n
      ((s0.bank n).valid.getLsbD 0x78 = true → ∀ m e b, m ≠ 0 → decodeFloat .fp32 ((s0.bank n).entry 0x78 / 2 ^ 32) = .fin false m e b →
        ∃ x, isScale h hb (w % 65536) (e + (Nat.log2 m : Int)) x ∧ exec i s = .next (completed i s (s0.setReg v.d (BitVec.ofNat 64 x))))
      ∧ ((s0.bank n).valid.getLsbD 0x78 = false → substOf s.cur n = true → exec i s = .next (completed i s (s0.setReg v.d 255)))
      ∧ ((s0.bank n).valid.getLsbD 0x78 = false → substOf s.cur n = false → exec i s = .next (trapped s s0 8 (BitVec.ofNat 64 (0x780 + n))))))

/-- R366: a bank after an update: its entries and valid bits, the generation one on; other banks, memory and scalar registers as before. -/
def Sys2Proof.Claims.bankTakes (s t : State) (n : Nat) (entry : Nat → Nat) (valid : Nat → Bool) : Prop :=
  (∀ j, j < 256 → (t.bank n).entry j = entry j ∧ (t.bank n).valid.getLsbD j = valid j)
    ∧ (∀ k, k ≠ n → t.bank k = s.bank k) ∧ t.mem = s.mem ∧ t.cur.s = s.cur.s
    ∧ (∀ k, k < 16 → elemOf t.cur.cbgen.toNat 4 k = if k = n then (elemOf s.cur.cbgen.toNat 4 n + 1) % 16 else elemOf s.cur.cbgen.toNat 4 k)

/-- R366: the first entry and the count of a range. -/
def Sys2Proof.Claims.rangeOf (t : Strand) (v : View) : Nat × Nat :=
  let x := (t.reg v.b).toNat
  if v.b = 0 then (0, 256) else (x % 256, if x / 256 % 512 = 0 then 256 else x / 256 % 512)

/-- R218, R222, R233: what an instruction's touch of a bank leaves. The owner's touch is no change. A touch of another writes a dirty bank in its
    owner's CBUSE to the owner's record, INVAL for its invalid entries, and sets the record's bit for it; one outside CBUSE is discarded and the bit
    cleared. The bank then is what the toucher's record holds of it, or all invalid; its owner is the toucher, clean. -/
def Sys2Proof.Claims.LazyBanks : Prop :=
  ∀ (s : State) (n : Nat), n < 16 →
    let b := s.bank n
    let t := touchBank s n
    let at_ := fun (r : SaveRec) => r.addr + 0x4000 + n * 0x800
    let flags := fun (r : SaveRec) => r.addr + 0x1200 + n * 32
    (b.owner = s.cur.record → t = s)
    ∧ (b.owner ≠ s.cur.record → (t.bank n).owner = s.cur.record ∧ (t.bank n).dirty = false ∧ (∀ k, k ≠ n → t.bank k = s.bank k)
      ∧ (∀ r, s.cur.record.bind s.saveRec = some r → r.bankValid.getLsbD n = false → (t.bank n).valid = 0)
      ∧ (b.owner = none → ∀ r, plainDevice s → s.cur.record.bind s.saveRec = some r → r.bankValid.getLsbD n = true →
          (t.bank n).entries = BitVec.ofNat 16384 (natOfBytes (Memory.readBytes s.mem (at_ r) 2048))
            ∧ (t.bank n).valid = BitVec.ofNat 256 (natOfBytes (Memory.readBytes s.mem (flags r) 32)))
      ∧ (∀ o r, b.owner = some o → s.saveRec o = some r → plainDevice s → r.addr + 0xD0000 ≤ s.ceil → r.addr + 0xD0000 ≤ 2 ^ 39 →
          ((cbuseOf s o).getLsbD n = true → b.dirty = true →
            (∀ i, i < 256 → natOfBytes (Memory.readBytes t.mem (at_ r + 8 * i) 8) = if b.valid.getLsbD i then b.entry i else 0x7FFF7FFF7FFF7FFF)
              ∧ natOfBytes (Memory.readBytes t.mem (flags r) 32) = b.valid.toNat ∧ ∃ r', t.saveRec o = some r' ∧ r'.bankValid.getLsbD n = true)
          ∧ ((cbuseOf s o).getLsbD n = false → ∃ r', t.saveRec o = some r' ∧ r'.bankValid.getLsbD n = false
              ∧ ∀ a, (a < r.addr + 0x1D0 ∨ r.addr + 0x1D8 ≤ a) → Memory.read t.mem a = Memory.read s.mem a)))

/-- R218, R222, R365 to R367: the bank instructions that are ready touch the bank (`LazyBanks`) and complete: CBLD from the own scratchpad, CBSET and CBINV with the
    validity of R222; CBUSE swaps its register; CBSTAT answers the entry, the number of valid entries, or the valid bit. -/
def Sys2Proof.Claims.CodebookResults : Prop :=
  ∀ (i : Instr) (s : State), ready i s = true →
    let v := typedView i s
    let first := (rangeOf s.cur v).1
    let count := (rangeOf s.cur v).2
    let goes := fun (x : Nat) => v.imm16.testBit 0 || x != 0x7FFF7FFF7FFF7FFF
    let bi := (s.cur.reg v.b).toNat % 256
    let s0 := touchBank s v.d
    let s9 := touchBank s v.a
    (∀ o, formsOf .cbld .cbldX i →
      (∀ k, k < count → ownBytes s0 (s.cur.reg v.a + BitVec.ofNat 64 (8 * k)) 8 8 (o + 8 * k)) →
      ∃ (t : State) (entry : Nat → Nat) (valid : Nat → Bool), exec i s = .next (completed i s t) ∧ bankTakes s0 t v.d entry valid
        ∧ (∀ k, k < count → (∀ k', k < k' → k' < count → (first + k') % 256 ≠ (first + k) % 256) →
            entry ((first + k) % 256) = ownValue s0 (o + 8 * k) 8 ∧ valid ((first + k) % 256) = goes (ownValue s0 (o + 8 * k) 8))
        ∧ (∀ j, (∀ k, k < count → (first + k) % 256 ≠ j) → entry j = (s0.bank v.d).entry j ∧ valid j = (s0.bank v.d).valid.getLsbD j))
    ∧ (formsOf .cbset .cbsetX i → ∃ t : State, exec i s = .next (completed i s t) ∧
      bankTakes s0 t v.d (fun j => if j = bi then (s.cur.reg v.a).toNat else (s0.bank v.d).entry j)
        (fun j => if j = bi then goes (s.cur.reg v.a).toNat else (s0.bank v.d).valid.getLsbD j))
    ∧ (formsOf .cbinv .cbinvX i → ∃ t : State, exec i s = .next (completed i s t) ∧
      bankTakes s0 t v.d (s0.bank v.d).entry
        (fun j => (s0.bank v.d).valid.getLsbD j && (List.range count).all (fun k => decide ((first + k) % 256 ≠ j))))
    ∧ (formsOf .cbuse .cbuseX i →
      exec i s = .next (completed i s ({ s with cur := { s.cur with cbuse := ((s.cur.reg v.a).setWidth 32).setWidth 64 } }.setReg v.d s.cur.cbuse)))
    ∧ (formsOf .cbstat .cbstatX i →
      let x := if v.imm16 = 0 then (if (s9.bank v.a).valid.getLsbD bi then (s9.bank v.a).entry bi else 0x7FFF7FFF7FFF7FFF)
        else if v.imm16 = 1 then ((List.range 256).filter (s9.bank v.a).valid.getLsbD).length
        else if (s9.bank v.a).valid.getLsbD bi then 1 else 0
      exec i s = .next (completed i s (s9.setReg v.d (BitVec.ofNat 64 x))))

/-- R218, R250, R251, R365: PWLSET that is ready touches its bank; breakpoints in rule make all 256 entries valid, entry c holding X[s + 1] above and
    the rounded value of code c below, negated from 128 on; others make every entry invalid and raise NV. -/
def Sys2Proof.Claims.CurveResults : Prop :=
  ∀ (i : Instr) (s : State), formsOf .pwlset .pwlsetX i → ready i s = true →
    let v := typedView i s
    let x := fun (j : Nat) => elemIn s.cur v.a 1 32 j
    let num := fun (j : Nat) => decodeFloat .fp32 (x j)
    let rule := (num 0).isZero = true ∧ (∀ j, j < 17 → (num j).isNan = false ∧ (num j).isInf = false) ∧ ∀ j, j < 16 → ltNum (num j) (num (j + 1)) = true
    let s0 := touchBank s v.d
    (rule → ∃ t : State, exec i s = .next (completed i s t) ∧ t.cur.fflags = s.cur.fflags ∧
      bankTakes s0 t v.d (fun c =>
        let g := c % 128 / 8
        let y := rne32 (ci8Value (num g) (num (g + 1)) (c % 8))
        x (g + 1) * 2 ^ 32 + (if 128 ≤ c then y ^^^ 2 ^ 31 else y)) (fun _ => true))
    ∧ (¬ rule → ∃ t : State, exec i s = .next (completed i s t) ∧ t.cur.fflags = s.cur.fflags ||| 16 ∧
      bankTakes s0 t v.d (s0.bank v.d).entry (fun _ => false))

/-- R218, R362 to R367: codebook banks and curves, and what a touch leaves. -/
def Obligations.CodebookBanks : Prop := Claims.CodebookResults ∧ Claims.CurveResults ∧ Claims.LazyBanks

/-! ### Bank lookup units (R170 to R182, R375 to R381) -/

/-- R375, R185: a body word runs on the BLU at hand: the BLU has not stopped and the word's guard holds in this iteration. -/
def Sys2Proof.Claims.wordRuns (g : Guard) (s : State) : Prop :=
  (s.bluAt s.blu.bank).st ≠ .stopped ∧ ∀ l, l < g.g.toNat → (if g.gk then s.blu.last.getD l true else s.blu.first.getD l true) = true

/-- A BLU's next contents: it alone changes. -/
def Sys2Proof.Claims.bluNext (i : Instr) (s : State) (b : Blu) : Prop := exec i s = .next (s.setBlu s.blu.bank b)

/-- R376: an output index of an instance. -/
def Sys2Proof.Claims.outIndex (x : BluCtx) (ooff : BitVec 10) : Nat := ((x.o + ooff.toInt) % 1024).toNat

/-- R380: the lane operations with what each makes of a lane and the second operand. -/
noncomputable def Sys2Proof.Claims.laneRows : List ((LaneF → Instr) × (BitVec 32 → BitVec 32 → BitVec 32)) :=
  [(.badd, fun a b => a + b), (.bsub, fun a b => a - b), (.bmax, fun a b => if a.toInt < b.toInt then b else a),
   (.bmin, fun a b => if a.toInt < b.toInt then a else b), (.band, fun a b => a &&& b), (.bor, fun a b => a ||| b), (.bxor, fun a b => a ^^^ b),
   (.bshl, fun a b => a <<< (b.toNat % 32)), (.bshr, fun a b => a.sshiftRight (b.toNat % 32))]

/-- Lane l of lane register r. -/
def Sys2Proof.Claims.laneAt (b : Blu) (r l : Nat) : BitVec 32 := ((b.w[r]?).getD 0).extractLsb' (32 * l) 32

/-- R380: the second operand of lane l. -/
def Sys2Proof.Claims.laneB (w : LaneF) (b : Blu) (l : Nat) : BitVec 32 :=
  if w.ib then w.imm9.signExtend 32 else Sys2Proof.Claims.laneAt b w.wb.toNat l

/-- R379 to R381: the lane instructions that run write the lanes their mask allows and change nothing else: the lane operations, BSEL,
    BCVT; BCMP, MAND and MNOT write one mask, SKIPZ the skip mask. A word that does not run changes nothing. -/
def Sys2Proof.Claims.LaneResults : Prop :=
  (∀ p ∈ laneRows, ∀ (w : LaneF) (s : State),
    let b := s.bluAt s.blu.bank
    (¬ wordRuns w.gd s → exec (p.1 w) s = .next s)
    ∧ (wordRuns w.gd s → ∃ W, bluNext (p.1 w) s { b with w := W } ∧ (∀ r, r ≠ w.wd.toNat → W[r]? = b.w[r]?)
        ∧ ∀ l, l < 16 → laneAt { b with w := W } w.wd.toNat l =
            if !w.me || ((b.m[w.ms.toNat]?).getD 0).getLsbD l then p.2 (laneAt b w.wa.toNat l) (laneB w b l) else laneAt b w.wd.toNat l))
  ∧ (∀ (w : LaneF) (s : State),
    let b := s.bluAt s.blu.bank
    let m := (b.m[w.ms.toNat]?).getD 0
    wordRuns w.gd s →
    (∃ W, bluNext (.bsel w) s { b with w := W } ∧ (∀ r, r ≠ w.wd.toNat → W[r]? = b.w[r]?)
      ∧ ∀ l, l < 16 → laneAt { b with w := W } w.wd.toNat l = if m.getLsbD l then laneAt b w.wa.toNat l else laneB w b l)
    ∧ (w.wd.toNat < 6 → ∃ M : Vector (BitVec 16) 4, bluNext (.bcmp w) s { b with m := M } ∧ (∀ k, k ≠ w.ms.toNat → M[k]? = b.m[k]?)
      ∧ ∀ l, l < 16 →
          let x := laneAt b w.wa.toNat l
          let y := laneB w b l
          ((M[w.ms.toNat]?).getD 0).getLsbD l = if w.wd = 0 then decide (x = y) else if w.wd = 1 then decide (x ≠ y)
            else if w.wd = 2 then decide (x.toInt < y.toInt) else if w.wd = 3 then decide (x.toInt ≤ y.toInt)
            else if w.wd = 4 then decide (x.toNat < y.toNat) else decide (x.toNat ≤ y.toNat)))
  ∧ (∀ (w : CvtF) (s : State),
    let b := s.bluAt s.blu.bank
    wordRuns w.gd s → w.cv.toNat < 3 → ∃ W, bluNext (.bcvt w) s { b with w := W } ∧ (∀ r, r ≠ w.wd.toNat → W[r]? = b.w[r]?)
      ∧ ∀ l, l < 16 →
          let single := fun (k : Nat) => BitVec.ofNat 32 (rne32 (Machine.Num.ofInt (laneAt b w.wa.toNat k).toInt))
          laneAt { b with w := W } w.wd.toNat l =
            if !w.me || ((b.m[w.ms.toNat]?).getD 0).getLsbD l then
              (if w.cv = 0 then single l
                else if w.cv = 1 then BitVec.ofNat 32 (toInteger (decodeFloat .fp32 (laneAt b w.wa.toNat l).toNat) 32 false 0 true 0).1
                else if l % 2 = 0 then single (l / 2 + if w.hi then 8 else 0) else 0x3F800000)
            else laneAt b w.wd.toNat l)
  ∧ (∀ (w : MaskF) (s : State),
    let b := s.bluAt s.blu.bank
    let m := fun (k : BitVec 2) => (b.m[k.toNat]?).getD 0
    wordRuns w.gd s → bluNext (.mand w) s { b with m := b.m.setIfInBounds w.md.toNat (m w.ma &&& m w.mb) }
      ∧ bluNext (.mnot w) s { b with m := b.m.setIfInBounds w.md.toNat (~~~ m w.ma) })
  ∧ (∀ (w : WaF) (s : State),
    let b := s.bluAt s.blu.bank
    wordRuns w.gd s → bluNext (.skipz w) s { b with skip := laneAt b w.wa.toNat 1 ++ laneAt b w.wa.toNat 0 })

/-- R174 to R176, R377: BNOP and ACCCLR; TBUILD.R and TBUILD.T, which fill the build half with clamped exact sums and leave it BUILDING until the
    event it posts; TSWAP, which exchanges the halves once a build has ended; CBLDB, which loads the level registers or stops with
    BAD_LEVEL. -/
def Sys2Proof.Claims.TableResults : Prop :=
  (∀ (w : NoF) (s : State),
    let b := s.bluAt s.blu.bank
    exec (.bnop w) s = .next s
    ∧ (wordRuns w.gd s → bluNext (.accclr w) s { b with acc := [] })
    ∧ (wordRuns w.gd s → ∃ b' : Blu, bluNext (.tswap w) s b' ∧ b'.readB = !b.readB ∧ b'.buildHalf = b.readHalf
        ∧ b'.readHalf = (if b.buildHalf.st = .building then { b.buildHalf with st := .built } else b.buildHalf)))
  ∧ (∀ (w : TbF) (s : State) (terms : Bool) (i : Instr), i = (if terms then Instr.tbuildT w else Instr.tbuildR w) → wordRuns w.gd s →
    let b := s.bluAt s.blu.bank
    let k := w.k.toNat + 1
    let g := w.g.toNat + 1
    let n := w.t.toNat + 1
    let ew := if w.ew then 32 else 16
    let exact := fun (t p : Nat) => ((List.range g).map (fun j => termOf b w terms t j (p / 2 ^ (k * j) % 2 ^ k))).sum
    ∃ (t : State) (b' : Blu), exec i s = .next t ∧ t.bluAt s.blu.bank = b' ∧ b'.readHalf = b.readHalf ∧ b'.acc = b.acc ∧ t.mem = s.mem
      ∧ b'.buildHalf.st = .building ∧ b'.buildHalf.k = k ∧ b'.buildHalf.g = g ∧ b'.buildHalf.t = n ∧ b'.buildHalf.ew = ew
      ∧ (∀ q p, q < n → p < 2 ^ (k * g) →
          (b'.buildHalf.table.getD q []).getD p 0 = max (-2 ^ (ew - 1)) (min (2 ^ (ew - 1) - 1) (exact q p)))
      ∧ ((∃ q p, q < n ∧ p < 2 ^ (k * g) ∧ (exact q p > 2 ^ (ew - 1) - 1 ∨ exact q p < -2 ^ (ew - 1))) → b'.status.getLsbD 8 = true)
      ∧ (s.now + (n * 2 ^ (k * g) + 15) / 16, Instr.tableBuildEnd s.blu.bank) ∈ t.agenda)
  ∧ (∀ (w : WaF) (s : State), wordRuns w.gd s →
    let b := s.bluAt s.blu.bank
    let lvl := fun (v : Nat) => (laneAt b w.wa.toNat (v / 2)).extractLsb' (16 * (v % 2)) 16
    let bad := fun (x : BitVec 16) => x.extractLsb' 14 2 ≠ 0 ∨ x.extractLsb' 6 2 ≠ 0 ∨ x.extractLsb' 12 2 = 2 ∨ x.extractLsb' 4 2 = 2
    ((∃ v, v < 16 ∧ bad (lvl v)) → ∃ b' : Blu, bluNext (.cbldb w) s b' ∧ b'.st = .stopped ∧ b'.lvl = b.lvl
      ∧ b'.status = b.status ||| BitVec.ofNat 64 (2 + s.blu.bpc * 2 ^ 16))
    ∧ ((∀ v, v < 16 → ¬ bad (lvl v)) → bluNext (.cbldb w) s { b with lvl := Vector.ofFn (fun v => lvl v.val) }))

/-- R174 to R177, R380, R381: lane, table and skip words of a bank command. -/
def Obligations.BankWords : Prop := Claims.LaneResults ∧ Claims.TableResults

/-- R176 to R178: LUACC and LUACC.S: without a table the BLU stops with NO_TABLE; a beat whose skip bit is 0 adds nothing under LUACC.S; else each
    pattern of the beat adds its table entry for each token to its accumulator, modulo 2^32, and one beat is counted. -/
def Obligations.LookupResults : Prop :=
  ∀ p ∈ ([(.luacc, false), (.luaccS, true)] : List ((OutF → Instr) × Bool)), ∀ (w : OutF) (s : State), wordRuns w.gd s →
    let b := s.bluAt s.blu.bank
    let h := b.readHalf
    let beat := (s.blu.ia % 64).toNat
    let o := outIndex s.blu w.ooff
    let width := if h.k * h.g ≤ 8 then 8 else 16
    (h.st = .unbuilt → ∃ b' : Blu, bluNext (p.1 w) s b' ∧ b'.st = .stopped ∧ b'.status = b.status ||| BitVec.ofNat 64 (1 + s.blu.bpc * 2 ^ 16))
    ∧ (h.st ≠ .unbuilt → p.2 = true → b.skip.getLsbD beat = false → exec (p.1 w) s = .next s)
    ∧ (h.st ≠ .unbuilt → (p.2 = true → b.skip.getLsbD beat = true) → h.t ≤ 4 → keysRise b.acc = true →
        ∀ s1 bs, dramRead s (openRow s + 16 * beat) 16 = (s1, bs, false) → s1.bluAt s.blu.bank = b →
        let entry := fun (k t : Nat) => (h.table.getD t []).getD (natOfBytes bs / 2 ^ (width * k) % 2 ^ width % 2 ^ (h.k * h.g)) 0
        ∃ b' : Blu, exec (p.1 w) s = .next (s1.setBlu s.blu.bank b')
          ∧ (∀ k t, k < 128 / width → t < h.t → b'.accAt (o + k) t = b.accAt (o + k) t + BitVec.ofInt 32 (entry k t))
          ∧ (∀ r t, r < 1024 → t < 4 → (h.t ≤ t ∨ ∀ k, k < 128 / width → (o + k) % 1024 ≠ r) → b'.accAt r t = b.accAt r t)
          ∧ b'.status.toNat / 2 ^ 32 = min (b.status.toNat / 2 ^ 32 + 1) (2 ^ 32 - 1) ∧ b'.w = b.w ∧ b'.m = b.m ∧ b'.readHalf = h)

/-- R180 to R182, R378, R379: the instructions that move data of a command: ACCPUT writes 256 accumulator words to a result row and sets its full bit;
    RTREE leaves its words as a contribution; BLDW loads a lane register from the row, the broadcast operand or the accumulators; BSTW stores
    one to the row or the accumulators. -/
def Obligations.RowMoves : Prop :=
  (∀ (w : OutF) (s : State) (c : BankCmd), wordRuns w.gd s → s.cmdOf s.blu.grant = some c →
    let b := s.bluAt s.blu.bank
    let words := (List.range 256).map (fun q => b.accAt (outIndex s.blu w.ooff + q / 4) (q % 4))
    (∀ row, resultRow s c s.blu.bank (s.blu.j + (w.joff.toNat : Int)) = some row → MemoryForm s →
      ∃ t : State, exec (.accput w) s = .next t ∧ Memory.readBytes t.mem (row * 1024) 1024 = words.flatMap (fun x => bytesOfNat 4 x.toNat)
        ∧ t.rowClear = setDel s.rowClear row ∧ ∃ c', t.cmdOf s.blu.grant = some c' ∧ c'.written = c.written ++ [(s.blu.bank, row)])
    ∧ ∃ t : State, exec (.rtree w) s = .next t ∧ t.mem = s.mem ∧ t.blus = s.blus ∧ ∃ c' k, t.cmdOf s.blu.grant = some c'
        ∧ c'.contribs = c.contribs ++ [k] ∧ k.words = words ∧ k.bank = s.blu.bank ∧ k.level = w.level.toNat ∧ k.op = w.op.toNat ∧ k.n = s.blu.tree)
  ∧ (∀ (w : MoveF) (s : State), wordRuns w.gd s →
    let b := s.bluAt s.blu.bank
    let pa := openRow s + 64 * w.koff.toNat
    let o := outIndex s.blu w.ooff
    (∀ s1 bs, w.sel = 0 → dramRead s pa 64 = (s1, bs, false) → s1.bluAt s.blu.bank = b → ∃ b' : Blu,
      exec (.bldw w) s = .next (s1.setBlu s.blu.bank b') ∧ b'.acc = b.acc ∧ b'.w = b.w.setIfInBounds w.w.toNat (BitVec.ofNat 512 (natOfBytes bs)))
    ∧ (∀ c, w.sel = 1 → s.cmdOf s.blu.grant = some c →
        let x := BitVec.ofNat 512 (natOfBytes ((c.bcast.drop (64 * (s.blu.bo + (w.koff.toNat : Int)).toNat)).take 64))
        bluNext (.bldw w) s { b with w := b.w.setIfInBounds w.w.toNat x })
    ∧ (w.sel = 2 → ∃ W, bluNext (.bldw w) s { b with w := W } ∧ (∀ r, r ≠ w.w.toNat → W[r]? = b.w[r]?)
        ∧ ∀ l, l < 16 → laneAt { b with w := W } w.w.toNat l = b.accAt (o + l / 4) (l % 4))
    ∧ (w.sel = 0 → MemoryForm s → pa % 64 = 0 → s.latent = [] → tidyAt s (pa / 128) → ∃ t : State, exec (.bstw w) s = .next t
        ∧ Memory.readBytes t.mem pa 64 = bytesOfNat 64 ((b.w[w.w.toNat]?).getD 0).toNat
        ∧ (∀ a, (a < pa ∨ pa + 64 ≤ a) → Memory.read t.mem a = Memory.read s.mem a))
    ∧ (w.sel = 2 → keysRise b.acc = true → ∃ b' : Blu, bluNext (.bstw w) s b' ∧ b'.w = b.w
        ∧ (∀ l, l < 16 → b'.accAt (o + l / 4) (l % 4) = laneAt b w.w.toNat l)
        ∧ ∀ r t, r < 1024 → t < 4 → (∀ u, u < 4 → (o + u) % 1024 ≠ r) → b'.accAt r t = b.accAt r t))

/-! ### Bank commands (R368 to R373) -/

/-- R369: a descriptor store of 16 bytes: its offset and bytes. -/
def Sys2Proof.Claims.descRows : List ((Instr → Prop) × (View → Nat) × (Word → Word → List Byte)) :=
  [(formsOf .bscope .bscopeX, fun _ => 0, fun d b => bytesOfNat 8 d.toNat ++ bytesOfNat 1 b.toNat ++ [0] ++ bytesOfNat 2 (b.toNat / 2 ^ 16) ++ bytesOfNat 4 0),
   (formsOf .bnest .bnestX, fun v => 0x50 + 16 * (v.imm16 % 8), fun d b =>
      bytesOfNat 2 d.toNat ++ bytesOfNat 6 b.toNat ++ bytesOfNat 4 (d.toNat / 2 ^ 32) ++ bytesOfNat 4 0),
   (formsOf .bbody .bbodyX, fun _ => 0x10, fun d b => bytesOfNat 8 d.toNat ++ bytesOfNat 1 b.toNat ++ bytesOfNat 7 0)]

/-- R94, R106: n bytes at `va` are bytes `o` up of the scratchpad of this module's core `c`, named by the window onto any scratchpad, aligned, inside
    reservations of the executing context, with no stash mapping in that core. -/
def Sys2Proof.Claims.anyBytes (s : State) (va : Word) (n align c o : Nat) : Prop :=
  va.toNat = 0x00FE000000000000 + s.modId * 2 ^ 32 + c * 2 ^ 21 + o ∧ o % align = 0 ∧ c < 128 ∧ o + n ≤ 2 ^ 21 ∧ s.modId < s.domSize
    ∧ reservationCovers s s.cur.ctx c o n = true ∧ ∀ slot, slot < 2 → (s.strand { core := c, slot }).stash = []

/-- Where byte o of core c's scratchpad stands in memory. -/
def Sys2Proof.Claims.coreLoc (s : State) (c o : Nat) : Nat := (Place.scratch s.modId c o).loc s.modId

/-- R369: BSCOPE, BNEST and BBODY that are ready complete: they store their 16 bytes in a scratchpad, or at the home of a line of device memory that no
    object has and the host does not hold; a descriptor that is not 256-byte aligned takes MISALIGN, a place that faults its fault, an accord cell ACCESS. -/
def Obligations.DescriptorStores : Prop :=
  ∀ p ∈ descRows, ∀ (i : Instr) (s : State), p.1 i → ready i s = true →
    let v := typedView i s
    let base := s.cur.reg v.a
    let va := base + BitVec.ofNat 64 (p.2.1 v)
    (base.toNat % 256 ≠ 0 → exec i s = .next (trapped s s 3 base))
    ∧ (∀ c o, base.toNat % 256 = 0 → anyBytes s va 16 16 c o → setHas s.syncs (coreLoc s c o) = false →
        exec i s = .next (completed i s { s with mem := Memory.writeBytes s.mem (coreLoc s c o) (p.2.2 (s.cur.reg v.d) (s.cur.reg v.b)) }))
    ∧ (∀ s1 c, base.toNat % 256 = 0 → resolve s s.me .store none va 16 16 = (s1, .error c) → exec i s = .next (trapped s s1 c va))
    ∧ (∀ s1 g, base.toNat % 256 = 0 → resolve s s.me .store none va 16 16 = (s1, .ok g) →
        (((s1.accordAt g.place).isSome = true ∨ (s1.accordAt (g.place.add 8)).isSome = true) → exec i s = .next (trapped s s1 7 va))
        ∧ (windowBars s1 g = false → s1.accordAt g.place = none → s1.accordAt (g.place.add 8) = none →
            (∀ l ∈ g.place.lines s1.modId 16, l ∉ s1.snoop) →
            ∃ t : State, exec i s = .next (completed i s t) ∧ t.cur.s = s1.cur.s
              ∧ ∀ a, g.place = .device s1.modId a → g.nc = false → a % 16 = 0 → s1.objOfLine (a / 128) = none → s1.latent = [] → MemoryForm s1 →
                  (∀ l, tidyAt s1 l) →
                  Memory.readBytes t.mem a 16 = p.2.2 (s1.cur.reg v.d) (s1.cur.reg v.b)
                  ∧ ∀ x, (x < a ∨ a + 16 ≤ x) → Memory.read t.mem x = Memory.read s1.mem x))

/-- R370, R371, R372: BCMD with its descriptor and body read, in state `s3`: refused, or accepted. -/
def Sys2Proof.Claims.issues (i : Instr) (s s3 : State) (r : List Byte) (body : List Word32) : Prop :=
  let v := typedView i s
  let held := ∀ k, k < 8 → ((s3.cur.bankSlots[k]?).bind (·.grant)).isSome = true
  let c := cmdOfDesc r body
  (held → exec i s = .next (completed i s (s3.setReg v.d 1)))
  ∧ (∀ st bound rows, judge s3 r c = (st, bound, rows) → st ≠ 0 → st ≠ 11 →
      exec i s = .next (completed i s (s3.setReg v.d (BitVec.ofNat 64 (bound * 2 ^ 32 + st)))))
  ∧ (∀ bound rows k rel, judge s3 r c = (11, bound, rows) → releaseOf s3 s3.cur = some (k, rel) →
      exec i s = .next (completed i s ((stopRelease s3 k.id).setReg v.d (BitVec.ofNat 64 (bound * 2 ^ 32 + 11)))))
  ∧ (∀ bound rows, judge s3 r c = (0, bound, rows) → ∃ (t : State) (slot : Nat) (c' : BankCmd),
      exec i s = .next (completed i s (t.setReg v.d (BitVec.ofNat 64 (bound * 2 ^ 32 + slot * 256))))
        ∧ slot < 8 ∧ (s3.cur.bankSlots[slot]?).bind (·.grant) = none
        ∧ (∀ k, k < slot → ((s3.cur.bankSlots[k]?).bind (·.grant)).isSome = true)
        ∧ t.cur.bankSlots[slot]? = some { grant := some s3.nextGrant } ∧ t.nextGrant = s3.nextGrant + 1
        ∧ c' ∈ t.cmds ∧ c'.grant = s3.nextGrant ∧ c'.unit = s.curRef ∧ c'.banks = descBanks r ∧ c'.body = body ∧ c'.st = .accepted
        ∧ (∃ d, s3.now ≤ d ∧ (d, Instr.bankCommandStart s3.nextGrant) ∈ t.agenda)
        ∧ (c'.resobj = none → (s3.now, Instr.bankCommandStart s3.nextGrant) ∈ t.agenda))

/-- R370, R371, R372: BCMD that is ready, its descriptor and body in a scratchpad or elsewhere, no ST.E outstanding: a command refused leaves everything as it
    was but s[D], which takes the bound and the status, TOO_MANY when all eight slots are held; an accepted one takes the lowest free slot with
    the next grant (log 17), and its start is posted. One past its release's bank budget stops the release (R91). A misaligned descriptor takes MISALIGN; with an ST.E outstanding BCMD waits (log 18). -/
def Sys2Proof.Claims.CommandCalls : Prop :=
  ∀ (i : Instr) (s : State), formsOf .bcmd .bcmdX i → ready i s = true →
    let ea := s.cur.reg (typedView i s).a
    (ea.toNat % 256 ≠ 0 → exec i s = .next (trapped s s 3 ea))
    ∧ (ea.toNat % 256 = 0 → storesQueued s s.curRef = true → ∃ t : State, exec i s = .next t ∧ t.cur.st = .waiting ∧ t.cur.pc = s.cur.pc ∧ t.mem = s.mem)
    ∧ (ea.toNat % 256 = 0 → storesQueued s s.curRef = false →
        (∀ c o cb ob, anyBytes s ea 256 256 c o →
          let r := Memory.readBytes s.mem (coreLoc s c o) 256
          let n := fieldAt r 0x18 1
          1 ≤ n → n ≤ 16 → fieldAt r 0x28 4 = 0 → anyBytes s (BitVec.ofNat 64 (fieldAt r 0x10 8)) (4 * n) 4 cb ob →
          issues i s s r ((List.range n).map (fun k => BitVec.ofNat 32 (natOfBytes (Memory.readBytes s.mem (coreLoc s cb (ob + 4 * k)) 4)))))
        ∧ (∀ s1 s2 s3 r body places, fetchRecord s s.me ea 256 = (s1, .ok r) → fetchBody s1 r = (s2, .ok body) → bcastPlaces s2 r = (s3, .ok places) →
            issues i s s3 r body)
        ∧ (∀ s1 c va, fetchRecord s s.me ea 256 = (s1, .error (.fault c va)) → exec i s = .next (trapped s s1 c va)))

/-- R186, R372, R373: BWAIT that is ready: an EMPTY slot answers 1; a DONE slot is freed and its summary goes to s[D], or with TRAPE and NSTOP or
    NPOIS non-zero to BANK_STATUS's TRAPVAL; else it waits. BFENCE waits for held slots, and with TRAPE takes the lowest bad summary; BSTAT
    answers a bank's status word, 0 for an inactive channel, or a slot's summary: a DONE one is freed, one not DONE stays, and a command that has not
    started shows no bank. That BFENCE's trap leaves the slots held is the model's reading (log 51). -/
def Obligations.CommandWaits : Prop :=
  ∀ (i : Instr) (s : State), ready i s = true →
    let v := typedView i s
    let slot := (s.cur.reg v.a).toNat % 8
    let trape := v.imm16.testBit 0
    let empty := fun (k : Nat) => (s.cur.bankSlots[k]?).bind (·.grant) = none
    let holds := fun (k : Nat) (c : BankCmd) => ∃ g, (s.cur.bankSlots[k]?).bind (·.grant) = some g ∧ s.cmdOf g = some c
    let bad := fun (x : Word) => x.extractLsb' 16 32 ≠ 0
    let ended := fun (c : BankCmd) => c.st = .complete ∧ c.summary.getLsbD 63 = true ∧ c.summary.getLsbD 0 = false
    let freed := fun (c : BankCmd) =>
      { s with cmds := s.cmds.filter (fun d => d.grant != c.grant), cur := { s.cur with bankSlots := s.cur.bankSlots.setIfInBounds slot { grant := none } } }
    (formsOf .bwait .bwaitX i →
      (empty slot → exec i s = .next (completed i s (s.setReg v.d 1)))
      ∧ (∀ c, holds slot c → c.st = .accepted → ∃ t : State, exec i s = .next t ∧ t.cur.st = .waiting ∧ t.cur.pc = s.cur.pc ∧ t.cur.s = s.cur.s)
      ∧ (∀ c, holds slot c → ended c →
          ((trape = true ∧ bad c.summary) → exec i s = .next (trapped s (freed c) 15 c.summary))
          ∧ (¬ (trape = true ∧ bad c.summary) → exec i s = .next (completed i s ((freed c).setReg v.d c.summary)))))
    ∧ (formsOf .bfence .bfenceX i →
      ((∀ k, k < 8 → empty k ∨ ∃ c, holds k c ∧ ended c ∧ (trape = true → ¬ bad c.summary)) → exec i s = .next (completed i s s))
      ∧ (∀ k c, trape = true → k < 8 → holds k c → ended c → bad c.summary → (∀ j, j < k → empty j ∨ ∃ d, holds j d ∧ ended d ∧ ¬ bad d.summary) →
          (∀ j, k < j → j < 8 → empty j ∨ ∃ d, holds j d ∧ ended d) → exec i s = .next (trapped s s 15 c.summary))
      ∧ (∀ k c, k < 8 → holds k c → c.st = .accepted → ∃ t : State, exec i s = .next t ∧ t.cur.st = .waiting ∧ t.cur.pc = s.cur.pc))
    ∧ (formsOf .bstat .bstatX i →
      (trape = false → exec i s = .next (completed i s (s.setReg v.d
        (let b := (s.cur.reg v.b).toNat % 8192
         if s.pkg.chActive.getLsbD (b / 16) then (s.bluAt b).status else 0))))
      ∧ (trape = true → empty slot → exec i s = .next (completed i s (s.setReg v.d 1)))
      ∧ (∀ c, trape = true → holds slot c → c.st = .complete → c.summary.getLsbD 63 = true → exec i s = .next (completed i s ((freed c).setReg v.d c.summary)))
      ∧ (∀ c, trape = true → holds slot c → c.st = .accepted → exec i s = .next (completed i s (s.setReg v.d 0)))
      ∧ (∀ c, trape = true → holds slot c → c.st = .started → c.banks.length < 2 ^ 16 → ∃ x : Word, exec i s = .next (completed i s (s.setReg v.d x))
          ∧ x.getLsbD 63 = false ∧ x.extractLsb' 48 15 = 0 ∧ x.extractLsb' 3 13 = 0 ∧ x.getLsbD 0 = false
          ∧ x.extractLsb' 32 16 = BitVec.ofNat 16 (c.banks.filter (fun b => (s.bluAt b).code != 0)).length
          ∧ x.extractLsb' 16 16 = BitVec.ofNat 16 (c.banks.filter (fun b => (s.bluAt b).status.getLsbD 10)).length))

/-! ### Traps, unit control, CSRs, translation and objects (R83 to R88, R115 to R117, R209 to R213, R384 to R393) -/

/-- R270: the first word of an instruction as TRAPVAL gives it. -/
def Sys2Proof.Claims.wordZero (i : Instr) : Word32 := (encode i).headD 0

/-- R270: TRAPVAL of an ILLEGAL trap of member 0: the reason in bits [39:36], the member in [35:32], the member's first word below. -/
def Sys2Proof.Claims.illegalAs (reason : Nat) (i : Instr) : Word := BitVec.ofNat 64 (reason * 2 ^ 36) ||| (wordZero i).setWidth 64

/-- R386: the executing unit's copies that have not ended. -/
def Sys2Proof.Claims.ownCopy (s : State) (c : Copy) : Prop := ∃ n, n < 4 ∧ s.copyAt s.curRef.core n = some c ∧ c.owner = s.curRef

/-- R213, R385 to R387: TRAP retires and then takes trap 18 at the next instruction with TRAPVAL its code; ERET with INTRAP set jumps to TRAPPC
    with bits [1:0] cleared and clears INTRAP, with PARK set clears PARK and lets the parked copies go on, and with INTRAP clear is ILLEGAL;
    HALT (log 18) ends a unit (`UnitEnds`) whose writes and ST.E stores have performed, whose copies have ended and of whose dirty stash lines the host holds
    none, and waits for them before; YIELD lets a ready strand of the other slot run, unless its PRIO is higher. -/
def Sys2Proof.Claims.UnitInstructions : Prop :=
  ∀ (i : Instr) (s : State), ready i s = true →
    (formsOf .trap .trapX i →
      let t := completed i s s
      exec i s = .next (trapEntry t 18 (BitVec.ofNat 64 (viewOf i).imm16) t.cur.pc))
    ∧ (formsOf .eret .eretX i →
      let back := s.cur.trappc &&& 0xFFFFFFFFFFFFFFFC
      (s.cur.status.getLsbD 2 = true → s.cur.status.getLsbD 4 = false →
        exec i s = .next (jumped i s { s with cur := { s.cur with status := s.cur.status &&& ~~~4 } } back))
      ∧ (s.cur.status.getLsbD 2 = true → s.cur.status.getLsbD 4 = true → ∃ t : State, exec i s = .next (jumped i s t back)
          ∧ t.cur = { s.cur with status := s.cur.status &&& ~~~0x14,
                                 waitCopies := s.cur.waitCopies.map (fun p => if p.2.st = .parked then (p.1, { p.2 with st := .running }) else p) }
          ∧ t.mem = s.mem
          ∧ ∀ n, n < 4 → t.copyAt s.curRef.core n =
              (s.copyAt s.curRef.core n).map (fun c => if c.owner = s.curRef ∧ c.st = .parked then { c with st := .running } else c))
      ∧ (s.cur.status.getLsbD 2 = false → exec i s = .next (trapped s s 1 (illegalAs 8 i))))
    ∧ (formsOf .halt .haltX i →
      (writesPending s s.cur 3 = false → storesQueued s s.curRef = false → s.cur.waitCopies = [] → (∀ c, ¬ ownCopy s c) →
        (∀ m ∈ s.cur.stash, ¬ hostHolds s m (fun _ => True)) → (∀ m ∈ s.cur.stash, ∀ k ∈ m.dirty, k < m.lines.length) →
        exec i s = .next (endUnit s s.curRef (!s.cur.cancelTrapTaken) true))
      ∧ (writesPending s s.cur 3 = true → exec i s = .next (s.asking (viewOf i)))
      ∧ (writesPending s s.cur 3 = false → storesQueued s s.curRef = false → s.cur.waitCopies = [] → (∀ c, ¬ ownCopy s c) →
        (∃ m ∈ s.cur.stash, hostHolds s m (fun _ => True)) → waitsOn i s)
      ∧ (writesPending s s.cur 3 = false → storesQueued s s.curRef = true →
        ∃ t : State, exec i s = .next t ∧ t.cur.st = .waiting ∧ t.cur.pc = s.cur.pc ∧ t.mem = s.mem)
      ∧ (∀ c, writesPending s s.cur 3 = false → storesQueued s s.curRef = false → s.cur.waitCopies = [] → ownCopy s c →
        (∀ x, ownCopy s x → x.st ≠ .parked) → exec i s = .next (s.asking (viewOf i))))
    ∧ (formsOf .yield .yieldX i →
      let o : SlotRef := { s.curRef with slot := 1 - s.curRef.slot }
      let u := s.strand o
      let prio := fun (x : Strand) => ((s.launchOfUnit x).map (·.prio)).getD 0
      ((s.curRef.isConductor = true ∨ u.st ≠ .ready ∨ u.halted = true ∨ prio s.cur < prio u) → exec i s = .next (completed i s s))
      ∧ (s.curRef.isConductor = false → s.curRef.slot < 2 → u.st = .ready → u.halted = false → prio u ≤ prio s.cur → ∃ t : State, exec i s = .next (completed i s t)
          ∧ t.cur = { s.cur with st := .ready } ∧ t.strand o = { u with st := .running } ∧ t.mem = s.mem))

/-- R388, R389: the CSRs of the strand that an instruction may write, with what a write leaves and which field holds it. -/
def Sys2Proof.Claims.csrFields : List (Nat × (Word → Word) × (Strand → Word)) :=
  [(0x002, id, (·.vstart)), (0x004, (· &&& 0xFFFFFFFF), (·.rstate)), (0x005, (· &&& 0x1FFF), (·.rsidx)), (0x008, id, (·.seed)), (0x009, id, (·.sbase)),
   (0x00A, fun x => if x &&& 7 = 6 ∨ x &&& 7 = 7 then x &&& 0xF0 else x &&& 0xF7, (·.rmode)), (0x00B, (· &&& 0x3F), (·.fflags)),
   (0x010, (· &&& 7), (·.acnt)), (0x011, (· &&& 7), (·.astat)), (0x013, (· &&& 0xFFFFFFFF), (·.cbuse)), (0x018, (· &&& 1), (·.schk)),
   (0x029, (· &&& 0xFF), (·.trapcause)), (0x02A, id, (·.trappc)), (0x02B, id, (·.trapval)), (0x02C, (· &&& 0xFFFFFFFFFFFFFFFC), (·.tvec))]

/-- R388, R389: CSRs that ignore writes, with the value each reads. -/
def Sys2Proof.Claims.csrFixed : List (Nat × (State → Word)) :=
  [(0x000, fun s => s.cur.vl), (0x001, fun s => s.cur.vtype), (0x003, fun _ => 256), (0x012, fun s => s.cur.cbgen), (0x020, fun s => s.cur.strandId),
   (0x021, fun s => s.cur.gang), (0x022, fun s => s.cur.launch), (0x023, fun s => s.gtime), (0x024, fun s => s.cur.wdog)]

/-- R389, R390: the CSRs of the module that a supervisor may write, with what each holds and what a write of x leaves: a table address is written
    whole but for its fixed bits, OBJTAB only with no descriptor in use, SAVECNT only up to 65,536. -/
def Sys2Proof.Claims.moduleFields (s : State) (x : Word) : List (Nat × (Sched → Word) × Word) :=
  [(0x800, (·.ctxtab), x &&& 0xFFFFFFFFFF000000), (0x801, (·.objtab), if s.objs = [] then x &&& 0xFFFFFFFFFF000000 else s.sched.objtab),
   (0x802, (·.savepool), x &&& 0xFFFFFFFFFFF00000), (0x803, (·.savecnt), if x.toNat ≤ 65536 then x else s.sched.savecnt)]

/-- R388: CSRRD, CSRWR and CSRSWP of x that are ready complete: the CSR's value is `old`, and `t` is the state with it written. -/
def Sys2Proof.Claims.csrActs (x : XF) (s : State) (old : Word) (t : State) : Prop :=
  let d := (viewOf (.csrrd x)).d
  (ready (.csrrd x) s = true → exec (.csrrd x) s = .next (completed (.csrrd x) s (s.setReg d old)))
  ∧ (ready (.csrwr x) s = true → exec (.csrwr x) s = .next (completed (.csrwr x) s t))
  ∧ (ready (.csrswp x) s = true → exec (.csrswp x) s = .next (completed (.csrswp x) s (t.setReg d old)))

/-- R389: a CSR of the strand, or of the module in supervisor mode, and what is read of and written to it. -/
def Sys2Proof.Claims.StrandRegisters (x : XF) (s : State) : Prop :=
  let n := (viewOf (.csrrd x)).imm16
  let a := s.cur.reg (viewOf (.csrrd x)).a
  (∀ p ∈ csrFields, n = p.1 → ∃ t : Strand, csrActs x s (p.2.2 s.cur) { s with cur := t } ∧ p.2.2 t = p.2.1 a
      ∧ t.s = s.cur.s ∧ t.status = s.cur.status ∧ t.vl = s.cur.vl ∧ t.vtype = s.cur.vtype
      ∧ ∀ q ∈ csrFields, q.1 ≠ n → q.2.2 t = q.2.2 s.cur)
  ∧ (∀ p ∈ csrFixed, n = p.1 → csrActs x s (p.2 s) s)
  ∧ (n = 0x028 → ∃ y : Word, y.getLsbD 2 = a.getLsbD 2 ∧ (∀ b, b ≠ 2 → y.getLsbD b = s.cur.status.getLsbD b)
      ∧ csrActs x s s.cur.status { s with cur := { s.cur with status := y } })
  ∧ (0x030 ≤ n → n ≤ 0x03F → s.latent = [] → s.correctable = [] → descAddr s s.cur.ctx % 256 = 0 → s.objOfLine (descAddr s s.cur.ctx / 128 + 1) = none →
      csrActs x s (BitVec.ofNat 64 (natOfBytes (Memory.readBytes s.mem (descAddr s s.cur.ctx + 0x80 + 8 * (n - 0x30)) 8)) &&& 0x00FFFFFFFFFF007F) s)

/-- R389, R390: the CSRs of the module; CTADMIT reads 0 and takes commands by CSRSWP (R87). -/
def Sys2Proof.Claims.ModuleRegisters (x : XF) (s : State) : Prop :=
  let n := (viewOf (.csrrd x)).imm16
  let d := (viewOf (.csrrd x)).d
  let a := s.cur.reg (viewOf (.csrrd x)).a
  (∀ p ∈ moduleFields s a, n = p.1 → ∃ c : Sched, csrActs x s (p.2.1 s.sched) { s with sched := c } ∧ p.2.1 c = p.2.2
      ∧ c = { s.sched with ctxtab := c.ctxtab, objtab := c.objtab, savepool := c.savepool, savecnt := c.savecnt }
      ∧ ∀ q ∈ moduleFields s a, q.1 ≠ n → q.2.1 c = q.2.1 s.sched)
  ∧ (0x810 ≤ n → n ≤ 0x813 → csrActs x s 0 s)
  ∧ (0x814 ≤ n → n ≤ 0x82F →
      csrActs x s (s.sched.pqown[n - 0x810]?.getD 0) { s with sched := { s.sched with pqown := s.sched.pqown.setIfInBounds (n - 0x810) (a &&& 0x1FFFF) } })
  ∧ (n = 0xC00 → (ready (.csrrd x) s = true → exec (.csrrd x) s = .next (completed (.csrrd x) s (s.setReg d 0)))
      ∧ ∀ t y, ctCommand s a = (t, .ok y) → ready (.csrswp x) s = true → exec (.csrswp x) s = .next (completed (.csrswp x) s (t.setReg d y)))

/-- R384, R388 to R390: CSRRD, CSRWR and CSRSWP that are ready: a number from 0x800 up in user mode takes ACCESS with TRAPVAL the number, with no
    effect. Else CSRRD completes with the value of the CSR; CSRWR leaves in a writable one its rule of s[A], and of a read-only one nothing;
    CSRSWP does both, s[D] taking the value before. STATUS keeps all bits but INTRAP, a window register reads as the context's descriptor has it, and
    PQOWN0 to PQOWN3 read 0 and ignore writes. -/
def Obligations.RegisterAccess : Prop :=
  ∀ (x : XF) (s : State),
    let n := (viewOf (.csrrd x)).imm16
    (∀ i ∈ [Instr.csrrd x, .csrwr x, .csrswp x], ready i s = true → s.cur.status.getLsbD 0 = false → 0x800 ≤ n →
      exec i s = .next (trapped s s 7 (BitVec.ofNat 64 n)))
    ∧ (n < 0x800 → StrandRegisters x s) ∧ (0x800 ≤ n → s.cur.status.getLsbD 0 = true → ModuleRegisters x s)

/-- R391: TLBINV in supervisor mode removes from every cluster TLB and every micro-TLB every entry, those of one context, or those of one context that translate the address, by s[B][1:0];
    kind 3 is ILLEGAL; in user mode it takes ACCESS with TRAPVAL 0. It waits while a bank command, for kinds 1 and 2 one of that context, has translated
    pieces of its broadcast operand still to fetch (log 87). -/
def Sys2Proof.Claims.TranslationInvalidation : Prop :=
  ∀ (i : Instr) (s : State), formsOf .tlbinv .tlbinvX i → ready i s = true →
    let b := s.cur.reg (viewOf i).b
    let va := (s.cur.reg (viewOf i).a).toNat
    let ctx := (b.extractLsb' 16 16).toNat
    let kind := (b.extractLsb' 0 2).toNat
    (s.cur.status.getLsbD 0 = false → exec i s = .next (trapped s s 7 0))
    ∧ (s.cur.status.getLsbD 0 = true → kind = 3 → exec i s = .next (trapped s s 1 (illegalAs 8 i)))
    ∧ (s.cur.status.getLsbD 0 = true → kind ≠ 3 → (∃ c ∈ s.cmds, c.places ≠ [] ∧ (kind = 0 ∨ c.ctx = ctx)) → exec i s = .next (s.asking (viewOf i)))
    ∧ (s.cur.status.getLsbD 0 = true → kind ≠ 3 → (∀ c ∈ s.cmds, c.places ≠ [] → kind ≠ 0 ∧ c.ctx ≠ ctx) → ∃ (l : List TlbEntry) (m : List MicroEntry),
        exec i s = .next (completed i s { s with tlb := l, micro := m })
        ∧ (∀ e, e ∈ l ↔ e ∈ s.tlb ∧ (kind = 1 → e.ctx ≠ ctx) ∧ (kind = 2 → ¬ (e.ctx = ctx ∧ e.vbase = va / 2 ^ e.bits)) ∧ kind ≠ 0)
        ∧ ∀ x, x ∈ m ↔ x ∈ s.micro ∧ (kind = 1 → x.entry.ctx ≠ ctx) ∧ (kind = 2 → ¬ (x.entry.ctx = ctx ∧ x.entry.vbase = va / 2 ^ x.entry.bits))
            ∧ kind ≠ 0)

/-- R115 to R117, R392: OBJDECL with its record read, in state `s1`: refused with a status in s[D][7:0], and nothing tagged; or taken, with id << 32, the
    object listed under the lowest free id, when its lines hold no lease. -/
def Sys2Proof.Claims.declares (i : Instr) (s s1 : State) (r : List Byte) : Prop :=
  let d := (viewOf i).d
  ((fieldAt r 8 1 % 4 > 1 ∨ fieldAt r 0x0B 1 ≠ 0 ∨ (fieldAt r 8 1 % 4 = 0 ∧ fieldAt r 0x10 8 = 0)) →
    exec i s = .next (completed i s (s1.setReg d 1)))
  ∧ (∀ s2 e, declare s1 r = (s2, .error e) → s2.objs = s1.objs ∧ ((∀ l, tidyAt s1 l) → s1.objs = [] → s1.latent = [] → s2.mem = s1.mem)
      ∧ exec i s = .next (completed i s (s2.setReg d (BitVec.ofNat 64 e))))
  ∧ (∀ s2 n due, declare s1 r = (s2, .ok (n, due)) → due ≤ s2.now →
      exec i s = .next (completed i s (s2.setReg d (BitVec.ofNat 64 (n * 2 ^ 32))))
      ∧ n < 262144 ∧ mapGet s1.objs n = none ∧ (∀ k, k < n → (mapGet s1.objs k).isSome = true)
      ∧ ∃ o, mapGet s2.objs n = some o ∧ o.mode = (if (fieldAt r 8 1).testBit 2 then .accord else .lease) ∧ o.tile = (fieldAt r 8 1).testBit 0
          ∧ o.base = BitVec.ofNat 64 (fieldAt r 0 8) ∧ o.defop = fieldAt r 8 1 / 16 ∧ o.ctx = s1.cur.ctx
          ∧ o.lease = (if fieldAt r 0x0C 4 = 0 then 2048 else fieldAt r 0x0C 4))

/-- R115: a record that declares a buffer of one line at an aligned virtual address, LEASE or ACCORD, with the default lease. -/
def Sys2Proof.Claims.lineRecord (r : List Byte) : Prop :=
  fieldAt r 0 8 % 128 = 0 ∧ fieldAt r 0 8 < 0x00FD000000000000 ∧ (fieldAt r 8 1 = 0 ∨ fieldAt r 8 1 = 4) ∧ fieldAt r 9 1 = 0 ∧ fieldAt r 0x0A 1 = 0
    ∧ fieldAt r 0x0B 1 = 0 ∧ fieldAt r 0x0C 4 = 0 ∧ fieldAt r 0x10 8 = 128 ∧ ∀ k, 0x18 ≤ k → k < 64 → r.getD k 0 = 0

/-- R115 to R117, R392: OBJDECL that is ready, its record in the own scratchpad or elsewhere: a misaligned record takes MISALIGN, a fault of its read
    LOAD_FAULT; with the record it is refused or taken; a buffer of one line of an ordinary page that a held translation maps, its line without object or
    lease and id 0 free, is taken with id 0. OBJDROP (log 21) answers 8 for an object there is not, 10 for one of another context in user mode, 9 for a
    stashed one, and drops another: its cells' siblings and observations are gone, and its id is free once its leases have ended. -/
def Obligations.ObjectResults : Prop :=
  (∀ (i : Instr) (s : State), formsOf .objdecl .objdeclX i → ready i s = true → (∀ n d, s.cur.wait ≠ .homes n d) →
    let va := s.cur.reg (viewOf i).a
    let d := (viewOf i).d
    (va.toNat % 64 ≠ 0 → exec i s = .next (trapped s s 3 va))
    ∧ (∀ s1 c x, va.toNat % 64 = 0 → fetchRecord s s.me va 64 = (s1, .error (.fault c x)) → exec i s = .next (trapped s s1 5 x))
    ∧ (∀ s1 r, va.toNat % 64 = 0 → fetchRecord s s.me va 64 = (s1, .ok r) → declares i s s1 r)
    ∧ (∀ o, va.toNat % 64 = 0 → ownBytes s va 64 64 o → declares i s s (ownRecord s o 64))
    ∧ (∀ o e, va.toNat % 64 = 0 → ownBytes s va 64 64 o → lineRecord (ownRecord s o 64) → s.micro = [] →
        let base := fieldAt (ownRecord s o 64) 0 8
        let pa := e.pbase + base % 2 ^ e.bits
        s.tlb.find? (fun x => x.covers s.curRef.cluster s.cur.ctx base) = some e → permitted e.perms .amo (s.cur.status.getLsbD 0) = true →
        e.perms.getLsbD 7 = false → pa % 128 = 0 → pa + 128 ≤ s.ceil → s.ceil ≤ 2 ^ 39 → s.objOfLine (pa / 128) = none → mapGet s.objs 0 = none →
        s.expiryOf (leaseKey none s.modId s.modId (pa / 128)) ≤ s.now →
        ∃ t : State, exec i s = .next (completed i s (t.setReg d 0)) ∧ t.cur = s.cur ∧ t.mem = s.mem
          ∧ (∀ k, k ≠ 0 → mapGet t.objs k = mapGet s.objs k)
          ∧ ∃ x, mapGet t.objs 0 = some x ∧ x.lines = [{ first := pa / 128, count := 1 }] ∧ x.bytes = [{ first := pa, count := 128 }]))
  ∧ (∀ (i : Instr) (s : State), formsOf .objdrop .objdropX i → ready i s = true → (∀ n d, s.cur.wait ≠ .homes n d) → keysRise s.objs = true →
    let n := (s.cur.reg (viewOf i).a).toNat % 2 ^ 18
    let d := (viewOf i).d
    let gone := fun (t : State) (o : Obj) => t.mem = s.mem ∧ (∀ k, k ≠ n → mapGet t.objs k = mapGet s.objs k)
      ∧ (∀ p ∈ t.cells, inSpans o.bytes p.1 = false) ∧ ∀ e ∈ t.cur.obs, inSpans o.bytes e.cell = false
    (mapGet s.objs n = none → exec i s = .next (completed i s (s.setReg d 8)))
    ∧ (∀ o, mapGet s.objs n = some o → o.lines = [] → exec i s = .next (completed i s (s.setReg d 8)))
    ∧ (∀ o, mapGet s.objs n = some o → o.lines ≠ [] →
        (s.cur.status.getLsbD 0 = false → o.ctx ≠ s.cur.ctx → exec i s = .next (completed i s (s.setReg d 10)))
        ∧ ((s.cur.status.getLsbD 0 = true ∨ o.ctx = s.cur.ctx) → (∃ c k, o.mode = .stashed c k) → exec i s = .next (completed i s (s.setReg d 9)))
        ∧ ((s.cur.status.getLsbD 0 = true ∨ o.ctx = s.cur.ctx) → (o.mode = .lease ∨ o.mode = .accord) →
            (objectLeases s n ≤ s.now → ∃ t : State, exec i s = .next (completed i s (t.setReg d 0)) ∧ mapGet t.objs n = none ∧ gone t o)
            ∧ (s.now < objectLeases s n → ∃ t : State, exec i s = .next t ∧ t.cur.pc = s.cur.pc ∧ t.cur.wait = .homes n (objectLeases s n)
                ∧ mapGet t.objs n = some { o with lines := [], bytes := [] } ∧ gone t o))))

/-- R8, R16, R103, R393: NCWSET that is ready writes s[A] without its reserved bits into window register IMM16[3:0] of context s[B][15:0], in its descriptor,
    where a supervisor or the context's own unit names it and the register lies below the capacity (R16); else it takes ACCESS with TRAPVAL 0. It waits while the host holds the descriptor's line (R38). -/
def Sys2Proof.Claims.WindowSetting : Prop :=
  ∀ (i : Instr) (s : State), formsOf .ncwset .ncwsetX i → ready i s = true →
    let c := ((s.cur.reg (viewOf i).b).extractLsb' 0 16).toNat
    let at_ := descAddr s c + 0x80 + 8 * ((viewOf i).imm16 % 16)
    ((s.cur.status.getLsbD 0 = false ∧ c ≠ s.cur.ctx) → exec i s = .next (trapped s s 7 0))
    ∧ ((s.cur.status.getLsbD 0 = true ∨ c = s.cur.ctx) → s.ceil < at_ + 8 → exec i s = .next (trapped s s 7 0))
    ∧ ((s.cur.status.getLsbD 0 = true ∨ c = s.cur.ctx) → at_ + 8 ≤ s.ceil → at_ % 8 = 0 → MemoryForm s → s.latent = [] →
        (∀ l, tidyAt s l) → s.objOfLine (at_ / 128) = none → at_ / 128 ∉ s.snoop →
        ∃ t : State, exec i s = .next (completed i s t)
          ∧ Memory.readBytes t.mem at_ 8 = bytesOfNat 8 (s.cur.reg (viewOf i).a &&& 0x00FFFFFFFFFF007F).toNat
          ∧ (∀ x, (x < at_ ∨ at_ + 8 ≤ x) → Memory.read t.mem x = Memory.read s.mem x) ∧ t.cur.s = s.cur.s)
    ∧ ((s.cur.status.getLsbD 0 = true ∨ c = s.cur.ctx) → at_ + 8 ≤ s.ceil → at_ % 8 = 0 → at_ / 128 ∈ s.snoop → waitsOn i s)

/-- R120, R391, R393: TLBINV and NCWSET. -/
def Obligations.TranslationControl : Prop := Claims.TranslationInvalidation ∧ Claims.WindowSetting

/-! ### Scheduling instructions (R66 to R69, R75 to R79, R394 to R397) -/

/-- R75: the executing context owns queue q, which is no host queue. -/
def Sys2Proof.Claims.ownedQueue (s : State) (q : Nat) : Prop :=
  4 ≤ q ∧ ∃ o, s.sched.pqown[q]? = some o ∧ o.getLsbD 16 = true ∧ (o.extractLsb' 0 16).toNat = s.cur.ctx

/-- R75, R76, R394, R396: PQPUSH and PQPOP that are ready. A queue the context does not own takes ACCESS with TRAPVAL the queue. A push, once earlier
    writes have performed, completes: it appends the entry, or hands it to the pop that has waited longest, with s[D] := 0; into a full
    queue nothing goes and s[D] := 1. A pop of a queue that holds entries completes: it removes and returns one whose key at most seven keys of the
    queue lie below; on an empty queue it answers 0 and all ones with NOWAIT, else the strand waits in arrival order. -/
def Obligations.QueueResults : Prop :=
  (∀ (i : Instr) (s : State), formsOf .pqpush .pqpushX i → ready i s = true →
    let q := (viewOf i).imm16 % 32
    let d := (viewOf i).d
    let l := (s.sched.queues[q]?).getD []
    let e : PqEntry := { key := (s.cur.reg (viewOf i).a).setWidth 32, payload := s.cur.reg (viewOf i).b }
    (¬ ownedQueue s q → exec i s = .next (trapped s s 7 (BitVec.ofNat 64 q)))
    ∧ (ownedQueue s q → settled s 3 →
        (65536 ≤ l.length → exec i s = .next (completed i s (s.setReg d 1)))
        ∧ (l.length < 65536 → (∀ p ∈ s.popQueue, p.1 ≠ q) → ∃ t : State, exec i s = .next (completed i s (t.setReg d 0))
            ∧ t.sched.queues[q]? = some (l ++ [e]) ∧ (∀ k, k ≠ q → t.sched.queues[k]? = s.sched.queues[k]?) ∧ t.cur = s.cur ∧ t.mem = s.mem)
        ∧ (∀ u, l.length < 65536 → s.popQueue.find? (fun p => p.1 == q) = some (q, u) → u ≠ s.curRef → (s.strand u).st = .waiting →
            ∃ t : State, exec i s = .next (completed i s (t.setReg d 0)) ∧ t.sched = s.sched ∧ t.cur = s.cur ∧ t.mem = s.mem
              ∧ (t.strand u).wait = .popDone e.payload e.key ∧ (t.strand u).st ≠ .waiting ∧ ∀ p ∈ t.popQueue, p.2 ≠ u)))
  ∧ (∀ (i : Instr) (s : State), formsOf .pqpop .pqpopX i → ready i s = true →
    let q := (viewOf i).imm16 % 32
    let d := (viewOf i).d
    let l := (s.sched.queues[q]?).getD []
    (∀ p k, s.cur.wait = .popDone p k → exec i s = .next (completed i s ((s.setReg d p).setReg (d + 1) (k.setWidth 64))))
    ∧ ((∀ p k, s.cur.wait ≠ .popDone p k) →
        (¬ ownedQueue s q → exec i s = .next (trapped s s 7 (BitVec.ofNat 64 q)))
        ∧ (ownedQueue s q → l ≠ [] → ∃ (t : State) (e : PqEntry),
            exec i s = .next (completed i s ((t.setReg d e.payload).setReg (d + 1) (e.key.setWidth 64)))
              ∧ e ∈ l ∧ (l.filter (fun x => decide (x.key.toNat < e.key.toNat))).length < 8
              ∧ t.sched.queues[q]? = some (l.erase e) ∧ (∀ k, k ≠ q → t.sched.queues[k]? = s.sched.queues[k]?) ∧ t.cur = s.cur ∧ t.mem = s.mem)
        ∧ (ownedQueue s q → l = [] → (viewOf i).imm16.testBit 5 = true →
            exec i s = .next (completed i s ((s.setReg d 0).setReg (d + 1) (BitVec.allOnes 64))))
        ∧ (ownedQueue s q → l = [] → (viewOf i).imm16.testBit 5 = false → ∃ t : State, exec i s = .next t ∧ t.cur.st = .waiting
            ∧ t.cur.wait = .pop q ∧ t.cur.pc = s.cur.pc ∧ t.cur.s = s.cur.s ∧ t.popQueue = s.popQueue ++ [(q, s.curRef)] ∧ t.sched = s.sched)))

/-- R66 to R69, R394: LAUNCH and TRIGGER that are ready. LAUNCH of a block that is not 64-byte aligned takes MISALIGN, and of an aligned one completes: without an active job or with its phase
    cancelled it completes with 2 (the missing job is the model's reading, log 24), with 4,096 device launches pending with 1, on a refused block with 3 or 4, else
    with the handle in s[D][63:32], the next one where no active launch has it. TRIGGER waits for earlier writes; then it marks the unit once, and while a unit of the launch has neither
    triggered nor ended DONE nothing more happens, and with the last of them the trigger fires: the node's successors' counts fall, once, and the
    phase goes on. -/
def Sys2Proof.Claims.LaunchCalls : Prop :=
  (∀ (i : Instr) (s : State), formsOf .launch .launchX i → ready i s = true →
    let va := s.cur.reg (viewOf i).a
    let d := (viewOf i).d
    (va.toNat % 64 ≠ 0 → exec i s = .next (trapped s s 3 va))
    ∧ (va.toNat % 64 = 0 → ∃ (t : State) (x : Word), exec i s = .next (completed i s (t.setReg d x)) ∧ t.cur.s = s.cur.s)
    ∧ (va.toNat % 64 = 0 → jobOfCur s = none → exec i s = .next (completed i s (s.setReg d 2)))
    ∧ (∀ j, va.toNat % 64 = 0 → jobOfCur s = some j →
        ((j.phaseCancel = true ∨ j.jobCancel = true) → exec i s = .next (completed i s (s.setReg d 2)))
        ∧ (j.phaseCancel = false → j.jobCancel = false → j.live = true →
            (4096 ≤ j.devPending → exec i s = .next (completed i s (s.setReg d 1)))
            ∧ (∀ s1 out, j.devPending < 4096 → takeLaunch s (schedAgent j.ctx) j none va s.curRef.cluster = (s1, out) → ∃ t : State,
                t.cur = s1.cur ∧ t.mem = s1.mem ∧ t.sched.launches = s1.sched.launches ∧ t.sched.gangs = s1.sched.gangs ∧
                match out with
                | .refused aux => exec i s = .next (completed i s (t.setReg d (BitVec.ofNat 64 (2 + aux)))) ∧ (aux = 1 ∨ aux = 2)
                | .empty h => exec i s = .next (completed i s (t.setReg d (BitVec.ofNat 64 (h * 2 ^ 32))))
                    ∧ (s.launchOf s.sched.nextHandle = none → h = s.sched.nextHandle)
                | .placed h => exec i s = .next (completed i s (t.setReg d (BitVec.ofNat 64 (h * 2 ^ 32))))
                    ∧ (s.launchOf s.sched.nextHandle = none → h = s.sched.nextHandle)))))
  ∧ (∀ (i : Instr) (s : State), formsOf .trigger .triggerX i → ready i s = true → s.cur.storeErrs = [] →
    (writesPending s s.cur 3 = true → exec i s = .next (s.asking (viewOf i)))
    ∧ (writesPending s s.cur 3 = false →
        (s.launchOfUnit s.cur = none → exec i s = .next (completed i s s))
        ∧ (∀ l, s.launchOfUnit s.cur = some l →
            let u := s.cur.strandId.toNat % 2 ^ 20
            (u ∈ l.triggered → exec i s = .next (completed i s s))
            ∧ (∀ n, l.node = some n → l.fired = false → u ∉ l.triggered → (∀ k, k < l.units → k = u ∨ k ∈ l.triggered ∨ k ∈ l.doneUnits) →
                let t := s.setLaunch { l with triggered := u :: l.triggered, fired := true }
                (∀ j, s.jobOf l.job = some j → exec i s = .next (completed i s (settleJob (t.setJob (fireNode j n)) l.job)))
                ∧ (s.jobOf l.job = none → exec i s = .next (completed i s t)))
            ∧ ((l.node = none ∨ l.fired = true ∨ ∃ k, k < l.units ∧ k ≠ u ∧ k ∉ l.triggered ∧ k ∉ l.doneUnits) → u ∉ l.triggered →
                exec i s = .next (completed i s (s.setLaunch { l with triggered := u :: l.triggered }))))))

/-- R78, R79, R395, R397: CANCEL and HEART that are ready. CANCEL in user mode takes ACCESS with TRAPVAL 0 for a launch of another job or a JOBTAG; else it
    completes with 1 where no target is active and with 0 where the cancel reaches one: the unit, the launch, the phase or the job named, of the jobs of one
    tag the oldest (`CancelSteps` states what each leaves). HEART completes with
    the remaining budget, deadline, release number or bank budget of the running release, all ones in a best-effort unit. -/
def Sys2Proof.Claims.CancelCalls : Prop :=
  (∀ (i : Instr) (s : State), formsOf .cancel .cancelX i → ready i s = true →
    let level := (viewOf i).imm16 % 4
    let x := s.cur.reg (viewOf i).a
    let d := (viewOf i).d
    let handle := if level = 0 then x.toNat / 2 ^ 32 else x.toNat % 2 ^ 32
    let mine := fun (l : Launch) => ∃ m, s.launchOfUnit s.cur = some m ∧ m.job = l.job
    let sup := s.cur.status.getLsbD 0 = true
    (∀ l, level < 2 → s.launchOf handle = some l → ¬ mine l → ¬ sup → exec i s = .next (trapped s s 7 0))
    ∧ (level = 3 → x ≠ 0 → ¬ sup → exec i s = .next (trapped s s 7 0))
    ∧ (level < 2 → s.launchOf handle = none → exec i s = .next (completed i s (s.setReg d 1)))
    ∧ (∀ l, level = 0 → s.launchOf handle = some l → (mine l ∨ sup) → ∀ u w,
        s.allStrands.find? (fun p => p.2.st != .empty && (p.2.launch.toNat % 2 ^ 32 == l.handle && p.2.unitId == x.toNat % 2 ^ 20)) = some (u, w) →
        exec i s = .next (completed i s ((cancelUnitAt s u l.canmode).setReg d 0)))
    ∧ (∀ l t b, level = 0 → s.launchOf handle = some l → (mine l ∨ sup) → cancelUnit s l (x.toNat % 2 ^ 20) = (t, b) →
        exec i s = .next (completed i s (t.setReg d (if b then 0 else 1))))
    ∧ (∀ l, level = 1 → s.launchOf handle = some l → (mine l ∨ sup) →
        exec i s = .next (completed i s ((cancelLaunch s handle false).setReg d 0))
        ∧ (l.cancelled = true → exec i s = .next (completed i s (s.setReg d 0))))
    ∧ (∀ j, level = 2 → jobOfCur s = some j →
        exec i s = .next (completed i s ((cancelPhase s j.id false).setReg d (if j.live then 0 else 1))))
    ∧ (∀ j, level = 3 → x = 0 → jobOfCur s = some j → exec i s = .next (completed i s ((cancelJob s j.id).setReg d (if j.ended then 1 else 0))))
    ∧ (∀ j ∈ s.sched.jobs ++ s.sched.heldJobs, level = 3 → x ≠ 0 → sup → j.tag = x → j.ended = false →
        (∀ k ∈ s.sched.jobs ++ s.sched.heldJobs, k.tag = x → k.ended = false → j.id ≤ k.id) → (∀ k, s.jobOf j.id = some k → k.ended = false) →
        exec i s = .next (completed i s ((cancelJob s j.id).setReg d 0)))
    ∧ (level = 3 → x ≠ 0 → sup → (∀ j ∈ s.sched.jobs ++ s.sched.heldJobs, j.tag = x → j.ended = true) → exec i s = .next (completed i s (s.setReg d 1))))
  ∧ (∀ (i : Instr) (s : State), formsOf .heart .heartX i → ready i s = true →
    let d := (viewOf i).d
    let sel := (viewOf i).imm16 % 4
    ((∀ l, s.launchOfUnit s.cur = some l → l.contract = none) → exec i s = .next (completed i s (s.setReg d (BitVec.allOnes 64))))
    ∧ (∀ l k c r, s.launchOfUnit s.cur = some l → l.contract = some k → s.contractOf k = some c → c.running = some r →
        exec i s = .next (completed i s (s.setReg d (BitVec.ofNat 64
          (if sel = 0 then c.budget - r.time s.now else if sel = 1 then r.deadline else if sel = 2 then r.n else c.bankbud - r.bankUsed))))))

/-! ### Boot, links and fatal stop as steps (R17 to R34, R57) -/

/-- BOOT_STATUS set. -/
def Sys2Proof.Claims.withBoot (s : State) (n : Nat) : State := { s with pkg := { s.pkg with bootStatus := BitVec.ofNat 64 n } }

/-- R32: a DOMAIN value in rule. -/
def Sys2Proof.Claims.domainRule (v : Word) : Prop :=
  ((v.extractLsb' 0 5).toNat = 1 ∨ (v.extractLsb' 0 5).toNat = 2 ∨ (v.extractLsb' 0 5).toNat = 4 ∨ (v.extractLsb' 0 5).toNat = 8 ∨ (v.extractLsb' 0 5).toNat = 16)
    ∧ (v.extractLsb' 8 4).toNat < (v.extractLsb' 0 5).toNat

/-- R20 to R23, R32 to R34: RESET leaves what DRAM holds (log 27), images and the retirement record and starts the boot ROM at BOOT_STATUS 1; the end of a stage moves
    BOOT_STATUS on, or to its error code, stages 2 and 4 to recovery mode; stage 2 boots a slot whose image is accepted, the one committed last first (log 64); stage 4 raises LAYOUT_GEN, activates the channels left and zeroes
    device memory, and with it drops the objects (log 26); a DOMAIN write counts at 0x06 and 0x87 only, and without one a domain of one module comes up. That GTIME
    starts at 0 is log 1; what a stage finds and the host trained comes with the event (log 25). -/
def Sys2Proof.Claims.BootSteps : Prop :=
  (∀ s : State, ∃ t : State, exec .reset s = .next t ∧ t.pkg.bootStatus = 1 ∧ t.gtime = 0 ∧ (s.stale = [] → t.mem = s.mem) ∧ t.agenda = [] ∧ t.cur.st = .empty ∧ t.others = []
      ∧ t.host = HostPort.reset ∧ t.sched = Sched.reset ∧ t.pkg.chActive = s.pkg.recActive ∧ t.pkg.chFenced = s.pkg.recPending
      ∧ t.pkg.layoutGen = s.pkg.recGen ∧ t.pkg.imageA = s.pkg.imageA ∧ t.pkg.imageB = s.pkg.imageB ∧ t.pkg.preferred = s.pkg.preferred
      ∧ t.pkg.running = none)
  ∧ (∀ n ∈ [1, 3, 5, 7], ∀ (cxl : Bool) (s : State), s.pkg.bootStatus = BitVec.ofNat 64 n →
      exec (.bootStageDone true cxl) s = .next (withBoot s (n + 1)) ∧ exec (.bootStageDone false cxl) s = .next (withBoot s (0x80 + n)))
  ∧ (∀ (cxl : Bool) (s : State), s.pkg.bootStatus = 2 →
      let verified := fun (m : List (Nat × Byte)) => Config.imageVerifies m = true ∧ s.pkg.fusedMin ≤ Config.imageVersion m
      let recovers := fun (ok : Bool) => ∃ t : State, exec (.bootStageDone ok cxl) s = .next t ∧ t.pkg.bootStatus = 0x82 ∧ t.host.mode = 2 ∧ t.mem = s.mem
      let boots := fun (b : Bool) => ∃ t : State, exec (.bootStageDone true cxl) s = .next t ∧ t.pkg.bootStatus = 3 ∧ t.pkg.running = some b ∧ t.mem = s.mem
      let passed := ∀ b, s.pkg.preferred = some b → ¬ verified (imageOf s b)
      (∀ b, s.pkg.preferred = some b → verified (imageOf s b) → boots b)
      ∧ (passed → verified s.pkg.imageA → boots false) ∧ (passed → ¬ verified s.pkg.imageA → verified s.pkg.imageB → boots true)
      ∧ (¬ verified s.pkg.imageA → ¬ verified s.pkg.imageB → recovers true) ∧ recovers false)
  ∧ (∀ (ok cxl : Bool) (s : State), s.pkg.bootStatus = 4 →
      let left := s.pkg.recActive &&& ~~~(s.pkg.chFenced ||| s.pkg.recPending)
      ((ok = false ∨ left = 0) → ∃ t : State, exec (.bootStageDone ok cxl) s = .next t ∧ t.pkg.bootStatus = 0x84 ∧ t.host.mode = 2)
      ∧ (ok = true → left ≠ 0 → MemoryForm s → ∃ t : State, exec (.bootStageDone ok cxl) s = .next t ∧ t.pkg.bootStatus = 5 ∧ t.pkg.chActive = left
          ∧ t.pkg.chFenced = 0 ∧ t.pkg.layoutGen = s.pkg.layoutGen + 1 ∧ t.objs = [] ∧ ∀ a, a < 2 ^ 50 → Memory.read t.mem a = 0))
  ∧ (∀ (ok cxl : Bool) (s : State), s.pkg.bootStatus = 6 → s.host.mode = 0 →
      (ok = true → ∃ t : State, exec (.bootStageDone ok cxl) s = .next t ∧ t.pkg.bootStatus = 6 ∧ t.host.mode = (if cxl then 1 else 2)
        ∧ (s.now + 1000000000, Instr.domainWaitTimeout [none, none, none, none]) ∈ t.agenda)
      ∧ (ok = false → exec (.bootStageDone ok cxl) s = .next (withBoot s 0x86)))
  ∧ (∀ (v : Word) (peers : List (Option PeerInfo)) (s : State),
      (s.pkg.bootStatus ≠ 6 → s.pkg.bootStatus ≠ 0x87 → exec (.domainWrite v peers) s = .next s)
      ∧ ((s.pkg.bootStatus = 6 ∨ s.pkg.bootStatus = 0x87) →
          (domainRule v → ∃ t : State, exec (.domainWrite v peers) s = .next t ∧ t.pkg.bootStatus = 7 ∧ t.pkg.domain.extractLsb' 0 16 = (v &&& 0xF1F).extractLsb' 0 16)
          ∧ (¬ domainRule v → exec (.domainWrite v peers) s = .next { s with pkg := { s.pkg with domain := v &&& 0xF1F, bootStatus := 0x87 } }))
      ∧ (s.pkg.bootStatus ≠ 6 → exec (.domainWaitTimeout peers) s = .next s)
      ∧ (s.pkg.bootStatus = 6 → exec (.domainWaitTimeout peers) s = .next { s with pkg := { s.pkg with domain := 1, bootStatus := 7 } }))

/-- R17, R18, R23, R27, R28, R31, R57: the package's own steps: a port that goes down, a link retry counted, a unit's store that ends in a route error, refresh
    with its scrub, whose lines come with the event (log 34), a temperature sample that is quiet, warns or trips (log 28), and the fatal stops, with the fallback
    dump at DUMP_DEV (log 29). -/
def Sys2Proof.Claims.PlatformSteps : Prop :=
  (∀ (port : Nat) (s : State), port < 4 → 1 < s.domSize → s.modId < s.domSize → s.pkg.domain.getLsbD (16 + port) = true →
      ∃ y : Word, (∀ b, b < 64 → y.getLsbD b = (s.pkg.domain.getLsbD b && decide (b ≠ 16 + port)))
        ∧ exec (.lomuxPortDown s.modId port) s = .next (postEvent { s with pkg := { s.pkg with domain := y } } 11 port 0 0))
  ∧ (∀ (u : SlotRef) (va : Word) (s : State), (s.strand u).st ≠ .empty → ∃ t : State, exec (.routeError u va) s = .next t
      ∧ t.strand u = { s.strand u with storeErrs := (s.strand u).storeErrs ++ [{ cause := 6, va }] } ∧ t.mem = s.mem)
  ∧ (∀ (port : Nat) (s : State), port < 4 → ∃ y : Word, exec (.linkLevelRetry port) s = .next { s with pkg := { s.pkg with linkRetry := y } }
      ∧ (y.extractLsb' (16 * port) 16).toNat = min ((s.pkg.linkRetry.extractLsb' (16 * port) 16).toNat + 1) 65535
      ∧ ∀ p, p < 4 → p ≠ port → y.extractLsb' (16 * p) 16 = s.pkg.linkRetry.extractLsb' (16 * p) 16)
  ∧ (∀ (lines : List Nat) (s : State), (∀ l ∈ lines, setHas s.latent l = false ∧ setHas s.correctable l = false) →
      exec (.refresh { scrubbed := lines, weak := [], lost := [] }) s = .next s)
  ∧ (∀ (l : Nat) (s : State), l < ownLines → l * 128 < s.ceil → s.modId < s.domSize →
      let c := (s.bankOf (l * 128)).1
      exec (.refresh { scrubbed := [], weak := [l], lost := [] }) s = .next { s with correctable := setAdd s.correctable l }
      ∧ exec (.refresh { scrubbed := [], weak := [], lost := [l] }) s = .next { s with latent := setAdd s.latent l }
      ∧ (setHas s.latent l = false → setHas s.poison l = false → setHas s.correctable l = true →
          exec (.refresh { scrubbed := [l], weak := [], lost := [] }) s = .next { s with corrected := mapSet s.corrected c ((mapGet s.corrected c).getD 0 + 1) })
      ∧ (setHas s.latent l = true → ∃ t : State, exec (.refresh { scrubbed := [l], weak := [], lost := [] }) s = .next t ∧ setHas t.poison l = true
          ∧ t.pkg.chFenced.getLsbD c = true ∧ t.pkg.recPending.getLsbD c = true))
  ∧ (∀ (a b : Byte) (s : State),
      let old := s.pkg.thermStat
      let heat := fun (y : Word) => { s with pkg := { s.pkg with thermStat := y } }
      let temps := fun (y : Word) => y.extractLsb' 0 8 = a ∧ y.extractLsb' 8 8 = b
      (a.toNat < 95 → b.toNat < 85 → ∃ y : Word, exec (.thermalSample a b) s = .next (heat y) ∧ temps y ∧ y.extractLsb' 16 2 = old.extractLsb' 16 2)
      ∧ (a.toNat < 105 → b.toNat < 95 → ((95 ≤ a.toNat ∧ (old.extractLsb' 0 8).toNat < 95) ∨ (85 ≤ b.toNat ∧ (old.extractLsb' 8 8).toNat < 85)) →
          ∃ y : Word, exec (.thermalSample a b) s = .next (postEvent (heat y) 12 0 y.toNat 0) ∧ temps y ∧ y.getLsbD 16 = true ∧ y.getLsbD 17 = old.getLsbD 17)
      ∧ ((105 ≤ a.toNat ∨ 95 ≤ b.toNat) → s.pkg.fatal = none → ∃ t : State, exec (.thermalSample a b) s = .next t ∧ t.pkg.fatal = some 1
          ∧ temps t.pkg.thermStat ∧ t.pkg.thermStat.getLsbD 17 = true))
  ∧ (∀ p ∈ ([(.fwAssert, 2), (.internalUe, 3), (.dieLinkFailure, 4)] : List (Instr × Nat)), ∀ s : State,
      (s.pkg.fatal ≠ none → exec p.1 s = .next s)
      ∧ (s.pkg.fatal = none → MemoryForm s → ∃ t : State, exec p.1 s = .next t ∧ t.pkg.fatal = some p.2 ∧ t.cur = s.cur ∧ t.others = s.others
          ∧ (s.host.dumpBase = 0 → s.host.dumpDev ≠ 0 → s.host.dumpDev.toNat + 8 ≤ s.ceil →
              t.pkg.dumpAt = some s.host.dumpDev.toNat ∧ Memory.readBytes t.mem s.host.dumpDev.toNat 8 = bytesOfNat 4 0x5044574B ++ bytesOfNat 2 1 ++ bytesOfNat 2 p.2)))

/-- R17 to R34, R57: boot, links, temperature and fatal stop. -/
def Obligations.PackageSteps : Prop := Claims.BootSteps ∧ Claims.PlatformSteps

/-! ### The host's registers, submission and sillage as steps (R43 to R54) -/

/-- R49: nothing is held back from the ring. -/
def Sys2Proof.Claims.quiet (s : State) : Prop := s.host.backlog = [] ∧ s.host.lostRun = none

/-- R34: the part is not in recovery mode. -/
def Sys2Proof.Claims.served (s : State) : Prop := s.pkg.bootStatus ≠ 0x82 ∧ s.pkg.bootStatus ≠ 0x84

/-- R43, R44, R47: an event posted with room in the opened ring stands there whole, with the next DSEQ; an accepted ENQ write takes the next HSEQ, fills its queue
    and has the scheduler look; one dropped for a reason counts in SUBMIT_REJECTS, saturating, and posts event 4. -/
def Sys2Proof.Claims.SubmissionSteps : Prop :=
  (∀ (s : State) (code src aux : Nat) (data : Word), s.host.opened = true → quiet s → MemoryForm s →
      s.host.nextDseq.toNat ≤ s.host.hostAck.toNat + 2 ^ s.host.silSize.toNat →
      let t := postEvent s code src aux data
      let entry := 2 ^ 51 + s.host.silBase.toNat + 32 * (s.host.nextDseq.toNat % 2 ^ s.host.silSize.toNat)
      t.host.dseqPosted = s.host.nextDseq ∧ t.host.nextDseq = s.host.nextDseq + 1 ∧ t.cur = s.cur
        ∧ Memory.readBytes t.mem entry 32 = bytesOfNat 8 s.host.nextDseq.toNat ++ bytesOfNat 8 s.gtime.toNat ++ bytesOfNat 2 code ++ bytesOfNat 2 src
            ++ bytesOfNat 4 aux ++ bytesOfNat 8 data.toNat
        ∧ ∀ a, (a < entry ∨ entry + 32 ≤ a) → Memory.read t.mem a = Memory.read s.mem a)
  ∧ (∀ (whole : Bool) (data : BitVec 128) (s : State), served s →
      let q := (data.extractLsb' 120 2).toNat
      let hseq := data.extractLsb' 32 32
      let l := (s.sched.queues[q]?).getD []
      let open_ := s.host.ctl.getLsbD 0 = true
      let formed := whole = true ∧ data.extractLsb' 122 6 = 0 ∧ data.extractLsb' 64 6 = 0
      let late := (s.host.hseqAccepted - hseq).toNat < 2 ^ 31
      let next := hseq = s.host.hseqAccepted + 1
      let n := if s.host.submitRejects = BitVec.allOnes 64 then s.host.submitRejects else s.host.submitRejects + 1
      let dropped := fun (r : Nat) => exec (.enq whole data) s = .next (postEvent { s with host := { s.host with submitRejects := n } } 4 q r (hseq.setWidth 64))
      (open_ → formed → next → l.length < 65536 → (∀ p ∈ s.popQueue, p.1 ≠ q) → ∃ t : State, exec (.enq whole data) s = .next t
        ∧ t.host = { s.host with hseqAccepted := hseq } ∧ t.mem = s.mem ∧ t.cur = s.cur ∧ (s.now, Instr.jobPop) ∈ t.agenda
        ∧ t.sched.queues[q]? = some (l ++ [{ key := data.extractLsb' 0 32, payload := (data.extractLsb' 64 56).setWidth 64 }]))
      ∧ (¬ open_ → dropped 1) ∧ (open_ → ¬ formed → dropped 2) ∧ (open_ → formed → late → dropped 3)
      ∧ (open_ → formed → ¬ late → ¬ next → dropped 4) ∧ (open_ → formed → next → 65536 ≤ l.length → dropped 5))

/-- R36, R51: host-port registers that a REGISTER_WRITE sets, with what each then holds. -/
def Sys2Proof.Claims.hostWritable : List (Nat × (HostPort → Word → HostPort)) :=
  [(0x1048, fun h v => { h with silMod := v &&& 0xFFFF }), (0x1050, fun h v => { h with dumpBase := v &&& 0xFFFFFFFFFFFFF000 }),
   (0x1058, fun h v => { h with dumpSize := v }), (0x1060, fun h v => { h with dumpDev := v &&& 0xFFFFFFFFFFFFF000 }),
   (0x2010, fun h v => { h with mbArg0 := v }), (0x2018, fun h v => { h with mbArg1 := v })]

/-- R23, R51: registers whose reading clears nothing, with their values. -/
def Sys2Proof.Claims.plainRegs : List (Nat × (State → Word)) :=
  [(0x0008, fun s => s.pkg.bootStatus), (0x0018, fun s => s.pkg.dramCeil), (0x00C8, fun s => s.pkg.domain), (0x1000, fun s => s.host.ctl),
   (0x1020, fun s => s.host.silBase), (0x1028, fun s => s.host.silSize), (0x1030, fun s => s.host.dseqPosted), (0x1038, fun s => s.host.hostAck),
   (0x1040, fun s => s.host.silLost), (0x1050, fun s => s.host.dumpBase), (0x1058, fun s => s.host.dumpSize), (0x1060, fun s => s.host.dumpDev),
   (0x2008, fun s => s.host.mbStat)]

/-- R36, R49 to R52: the host's writes of HOST_CTL, with and without REATTACH, of HOST_ACK_DSEQ and of the other registers; vector 0 after its interval (log 49), for which it waits again when the interval of now has not passed; and
    reads that clear. -/
def Sys2Proof.Claims.RegisterSteps : Prop :=
  (∀ (v : Word) (s : State), served s → v.getLsbD 1 = false → quiet s →
      let on := v.getLsbD 0 = true ∧ s.host.silBase ≠ 0
      ∃ y : Word, y.extractLsb' 32 16 = v.extractLsb' 32 16 ∧ (y.getLsbD 0 = true ↔ on) ∧ y.extractLsb' 1 31 = 0 ∧ y.extractLsb' 48 16 = 0
        ∧ (on → exec (.openWindow v) s = .next { s with host := { s.host with ctl := y, opened := true } })
        ∧ (¬ on → exec (.openWindow v) s = .next { s with host := { s.host with ctl := y } }))
  ∧ (∀ (v : Word) (s : State), served s → ∃ t : State, exec (.reattach v) s = .next t ∧ t.host.incarnation = s.host.incarnation + 1
      ∧ t.host.ctl = v &&& 0xFFFF00000000 ∧ t.host.hseqAccepted = s.host.hseqAccepted ∧ (∀ p ∈ t.host.slots, p.2.stat.getLsbD 0 = false) ∧ t.sched = s.sched)
  ∧ (∀ (v : Word) (s : State), served s →
      (quiet s → s.host.hostAck.toNat ≤ v.toNat → v.toNat ≤ s.host.dseqPosted.toNat →
        exec (.hostAckDseq v) s = .next { s with host := { s.host with hostAck := v } })
      ∧ ((v.toNat < s.host.hostAck.toNat ∨ s.host.dseqPosted.toNat < v.toNat) → exec (.hostAckDseq v) s = .next { s with host := { s.host with ackerr := true } }))
  ∧ (∀ s : State,
      (s.host.dseqPosted.toNat ≤ s.host.hostAck.toNat → exec .msixModerationExpiry s = .next s)
      ∧ (s.host.hostAck.toNat < s.host.dseqPosted.toNat →
          (s.host.msixAt = none ∨ ∃ m, s.host.msixAt = some m ∧ m + 1000 * (s.host.silMod.toNat % 65536) ≤ s.now) →
          exec .msixModerationExpiry s = .next { s with host := { s.host with msixAt := some s.now, msixCount := s.host.msixCount + 1 } })
      ∧ (∀ m, s.host.hostAck.toNat < s.host.dseqPosted.toNat → s.pkg.fatal = none → s.host.msixAt = some m → s.now < m + 1000 * (s.host.silMod.toNat % 65536) →
          ∃ (t : State) (d : Nat), exec .msixModerationExpiry s = .next t ∧ t.host = s.host ∧ t.mem = s.mem ∧ (d, Instr.msixModerationExpiry) ∈ t.agenda))
  ∧ (∀ (v : Word) (s : State), served s →
      (∀ p ∈ hostWritable, exec (.registerWrite p.1 v) s = .next { s with host := p.2 s.host v })
      ∧ (s.host.ctl.getLsbD 0 = true → exec (.registerWrite 0x1020 v) s = .next s ∧ exec (.registerWrite 0x1028 v) s = .next s)
      ∧ (s.host.ctl.getLsbD 0 = false →
          exec (.registerWrite 0x1020 v) s = .next { s with host := { s.host with silBase := v &&& 0xFFFFFFFFFFFFF000 } }
          ∧ exec (.registerWrite 0x1028 v) s = .next { s with host := { s.host with silSize := if 8 ≤ v.toNat ∧ v.toNat ≤ 20 then v else 8 } })
      ∧ ∀ off ∈ [0x0000, 0x0008, 0x0010, 0x0018, 0x00C0, 0x00D0, 0x1008, 0x1010, 0x1018, 0x1030, 0x1040, 0x2008], exec (.registerWrite off v) s = .next s)
  ∧ (∀ s : State,
      let told := fun (x : Word) => { s with host := { s.host with response := bytesOfNat 8 x.toNat, responsePoison := false } }
      (∀ p ∈ plainRegs, exec (.clearOnRead p.1) s = .next (told (p.2 s)))
      ∧ (∃ y : Word, (∀ b, b < 64 → y.getLsbD b = (s.pkg.thermStat.getLsbD b && decide (b ≠ 16)))
          ∧ exec (.clearOnRead 0x00C0) s = .next { told s.pkg.thermStat with pkg := { s.pkg with thermStat := y } })
      ∧ exec (.clearOnRead 0x00D0) s = .next { told s.pkg.linkRetry with pkg := { s.pkg with linkRetry := 0 } }
      ∧ (∃ t : State, exec (.clearOnRead 0x1018) s = .next t ∧ t = { told s.host.submitRejects with host := { (told s.host.submitRejects).host with submitRejects := 0 } })
      ∧ (s.host.mode < 4 → ∃ (t : State) (x : Word), exec (.clearOnRead 0x1008) s = .next t ∧ t.host.response = bytesOfNat 8 x.toNat ∧ x.extractLsb' 0 2 = BitVec.ofNat 2 s.host.mode
          ∧ x.getLsbD 2 = s.host.ctl.getLsbD 0 ∧ x.getLsbD 4 = s.host.ackerr ∧ x.extractLsb' 8 4 = s.host.incarnation ∧ t.host.ackerr = false))

/-- R54: a slot of the host's reconcile registers after a command, with CMD's low byte. -/
def Sys2Proof.Claims.reconciled (s : State) (slot : Nat) (cmd : Word) (f : RecSlot → RecSlot) : State :=
  setSlot s slot (f { slotAt s slot with cmd := cmd &&& 0xFF })

/-- R54: RECONCILE_COUNT, _BLEND and _READ end with BAD_CMD, MISALIGN, RANGE or NOT_ACCORD in that order (log 30); else COUNT gives the primary sibling, the sibling at
    READ's index or 6, and BLEND the fold as a host agent, which leaves one sibling. The home reads the cell's line, whatever it holds (log 74); BLEND waits while the
    host holds it (R38). STAT holds the code in [7:4] and the sibling count in [10:8]. -/
def Sys2Proof.Claims.ReconcileSteps : Prop :=
  ∀ (slot : Nat) (cmd : Word) (s : State), slot < 256 →
    let pa := (slotAt s slot).cell.toNat
    let op := (cmd.extractLsb' 0 4).toNat
    let sound := op < 12 ∧ pa % 8 = 0 ∧ pa < s.ceil ∧ (s.accordCell pa).isSome = true
    let c := s.cellAt pa
    let stat := fun (code n : Nat) => BitVec.ofNat 64 (code * 16 + n % 8 * 256)
    let ends := fun (i : Instr) (f : RecSlot → RecSlot) => exec i s = .next (reconciled s slot cmd f)
    let found := fun (i : Instr) (f : RecSlot → RecSlot) => exec i s = .next (reconciled (readHome s (.device s.modId pa) 8 .cached).1 slot cmd f)
    (∀ i ∈ [Instr.reconcileCount slot cmd, .reconcileBlend slot cmd, .reconcileRead slot cmd],
      (12 ≤ op → ends i (fun r => { r with stat := stat 4 0 }))
      ∧ (op < 12 → pa % 8 ≠ 0 → ends i (fun r => { r with stat := stat 3 0 }))
      ∧ (op < 12 → pa % 8 = 0 → s.ceil ≤ pa → ends i (fun r => { r with stat := stat 2 0 }))
      ∧ (op < 12 → pa % 8 = 0 → pa < s.ceil → s.accordCell pa = none → ends i (fun r => { r with stat := stat 1 0 })))
    ∧ (sound → found (.reconcileCount slot cmd) (fun r =>
        { r with result := c.primary, dot := (c.sibs.getLastD { val := 0, dot := 0 }).dot, stat := stat (if c.frozen then 5 else 0) c.sibs.length }))
    ∧ (∀ x, sound → c.sibs[(cmd.extractLsb' 6 2).toNat]? = some x → found (.reconcileRead slot cmd) (fun r =>
        { r with result := x.val, dot := x.dot, stat := stat (if c.frozen then 5 else 0) c.sibs.length }))
    ∧ (sound → c.sibs[(cmd.extractLsb' 6 2).toNat]? = none → found (.reconcileRead slot cmd) (fun r => { r with stat := stat 6 c.sibs.length }))
    ∧ (sound → pa / 128 ∈ s.snoop → ∃ t : State, exec (.reconcileBlend slot cmd) s = .next t ∧ t.cells = s.cells ∧ slotAt t slot = slotAt s slot)
    ∧ (∀ x xs, sound → pa / 128 ∉ s.snoop → c.frozen = false → c.ctr + 1 ≤ 2 ^ 40 - 1 → c.sibs = x :: xs →
        let y := foldOf op x.val (xs.map (·.val)) (slotAt s slot).value
        let d := dotOf (agentBits s (3840 + slot)) (c.ctr + 1)
        ∃ t : State, exec (.reconcileBlend slot cmd) s = .next t ∧ t.cellAt pa = { c with sibs := [{ val := y, dot := d }], ctr := c.ctr + 1 }
          ∧ slotAt t slot = { slotAt s slot with cmd := cmd &&& 0xFF, result := y, dot := d, stat := stat 0 1 })

/-- R43 to R54: the host's registers and reconcile commands. -/
def Obligations.HostRegisterSteps : Prop := Claims.RegisterSteps ∧ Claims.ReconcileSteps

/-! ### The management mailbox (R20, R33, R55 to R57) -/

/-- R55: MB_STAT with a status and BUSY clear. -/
def Sys2Proof.Claims.mailDone (s : State) (status : Nat) : State := { s with host := { s.host with mbStat := BitVec.ofNat 64 (status * 256) } }

/-- R20, R33, R55 to R57: the mailbox commands end with status 0, 1 BUSY, 2 BAD_ARG, 3 VERIFY_FAIL or 4 NOT_FATAL: LAYOUT_CHANGE, FW_BEGIN, FW_CHUNK, FW_COMMIT, ATTEST, ATTEST_READ,
    CERT_READ, DUMP_NOW and DUMP_READ, each with what it leaves. In recovery mode all but the firmware update are refused. What an image verifies as, and the
    certificate bytes, are values the spec does not give (log 7); which of two faults counts is log 30; a chunk past the size stated, an update without its
    FW_BEGIN, and a layout change and DUMP_NOW in the fatal state are the model's choices (log 63), and so is what of the fallback dump there is to read (log 29). -/
def Sys2Proof.Claims.MailboxSteps : Prop :=
  (∀ s : State, ¬ served s → ∀ i ∈ [Instr.attest, .attestRead, .certRead, .dumpNow, .dumpRead], exec i s = .next (mailDone s 2))
  ∧ (∀ (peers : List (Option PeerInfo)) (s : State), ¬ served s → exec (.layoutChange peers) s = .next (mailDone s 2))
  ∧ (∀ (peers : List (Option PeerInfo)) (s : State), served s →
      let left := s.pkg.recActive &&& ~~~(s.pkg.chFenced ||| s.pkg.recPending ||| BitVec.ofNat 512 (natOfBytes (mbBytes s 64)))
      ((s.cur.st ≠ .empty ∨ s.pkg.fatal ≠ none) → exec (.layoutChange peers) s = .next (mailDone s 1))
      ∧ (workResident s = false → s.pkg.fatal = none → left = 0 → exec (.layoutChange peers) s = .next (mailDone s 2))
      ∧ (workResident s = false → s.pkg.fatal = none → left ≠ 0 → ∃ t : State, exec (.layoutChange peers) s = .next t ∧ t.host.mbStat = 0 ∧ t.pkg.chActive = left
          ∧ t.pkg.layoutGen = s.pkg.layoutGen + 1 ∧ t.pkg.chFenced = 0))
  ∧ (∀ s : State,
      let slot := match s.pkg.running with
        | some b => !b
        | none => s.host.mbArg1.getLsbD 0
      (0x1000000 < s.host.mbArg0.toNat → exec .fwBegin s = .next (mailDone s 2))
      ∧ (s.host.mbArg0.toNat ≤ 0x1000000 → ∃ t : State, exec .fwBegin s = .next t ∧ t.host.mbStat = 0 ∧ t.pkg.writing = some slot
          ∧ (if slot then t.pkg.sizeB else t.pkg.sizeA) = s.host.mbArg0.toNat ∧ imageOf t slot = []
          ∧ imageOf t (!slot) = imageOf s (!slot) ∧ t.mem = s.mem))
  ∧ (∀ s : State,
      let off := s.host.mbArg0.toNat
      (s.pkg.writing = none → exec .fwChunk s = .next (mailDone s 2) ∧ exec .fwCommit s = .next (mailDone s 2))
      ∧ (∀ slot, s.pkg.writing = some slot →
          let size := if slot then s.pkg.sizeB else s.pkg.sizeA
          ((off % 4096 ≠ 0 ∨ size ≤ off) → exec .fwChunk s = .next (mailDone s 2))
          ∧ (off % 4096 = 0 → off < size → ∃ t : State, exec .fwChunk s = .next t ∧ t.host.mbStat = 0 ∧ imageOf t (!slot) = imageOf s (!slot)
              ∧ ∀ i, i < 4096 → off + i < size → mapGet (imageOf t slot) (off + i) = some (mbByte s i))
          ∧ (let image := imageOf s slot
             let good := Config.imageVerifies image = true ∧ s.pkg.fusedMin ≤ Config.imageVersion image
             let posted := fun (x : State) (st : Nat) => mailDone (postEvent x 15 (if slot then 1 else 0) st (BitVec.ofNat 64 (Config.imageVersion image))) st
             (good → exec .fwCommit s = .next (posted { s with pkg := { s.pkg with preferred := some slot } } 0))
             ∧ (¬ good → exec .fwCommit s = .next (posted s 3)))))
  ∧ (∀ s : State, served s →
      let off := s.host.mbArg0.toNat
      (∃ t : State, exec .attest s = .next t ∧ t.host.mbStat = 0 ∧ t.host.report.take 16 = [0x4B, 0x57, 0x41, 0x54, 1, 0, 0, 0] ++ bytesOfNat 8 (pkgId s).toNat
        ∧ t.pkg = s.pkg ∧ t.mem = s.mem)
      ∧ ((off % 4096 ≠ 0 ∨ s.host.report.length ≤ off) → exec .attestRead s = .next (mailDone s 2))
      ∧ (off % 4096 = 0 → off < s.host.report.length → ∃ t : State, exec .attestRead s = .next t ∧ t.host.mbStat = 0
          ∧ ∀ i b, i < 4096 → s.host.report[off + i]? = some b → mbByte t i = b)
      ∧ (1 < off → exec .certRead s = .next (mailDone s 2))
      ∧ (off ≤ 1 → ∃ t : State, exec .certRead s = .next t ∧ t.host.mbStat = 0 ∧ t.host.mbArg0 = BitVec.ofNat 64 (Config.certLength off)
          ∧ ∀ i, i < 4096 → s.host.mbArg1.toNat + i < Config.certLength off → mbByte t i = Config.partByte (1 + off) (s.host.mbArg1.toNat + i))
      ∧ (s.pkg.fatal = none → ∃ t : State, exec .dumpNow s = .next t ∧ t.host.mbStat = 0 ∧ t.pkg.fatal = some 5)
      ∧ (s.pkg.fatal ≠ none → exec .dumpNow s = .next (mailDone s 0))
      ∧ (s.pkg.fatal = none → exec .dumpRead s = .next (mailDone s 4))
      ∧ (∀ c, s.pkg.fatal = some c → s.pkg.dumpAt = none → exec .dumpRead s = .next (mailDone s 2))
      ∧ (∀ c d, s.pkg.fatal = some c → s.pkg.dumpAt = some d → d + 0x62800 ≤ s.ceil → off < 0x62800 → ∃ t : State, exec .dumpRead s = .next t ∧ t.host.mbStat = 0
          ∧ ∀ i, i < 4096 → off + i < 0x62800 → mbByte t i = Memory.read s.mem (d + off + i)))

/-- R44, R45, R54, R55: events and submissions in their rings, and the management mailbox. -/
def Obligations.RingAndMailboxSteps : Prop := Claims.SubmissionSteps ∧ Claims.MailboxSteps

/-! ### Host and device memory as steps (R35 to R42) -/

/-- A line of device memory that no object tags, with no error latent anywhere, and DRAM behind the L2 in dirty lines alone. -/
def Sys2Proof.Claims.plainLine (s : State) (line : Nat) : Prop := s.objOfLine line = none ∧ s.latent = [] ∧ ∀ l, tidyAt s l

/-- R16, R18, R36 to R39: host reads and writes of device memory in CXL mode and through BAR4. A read within a line answers the bytes with their poison and changes
    no memory, in CXL mode leaving the line in the filter; in a full filter it is held while a line is taken back; a write of memory that no object
    tags stores exactly the enabled bytes; past the ceiling a read (logs 31, 66) answers nothing and a write does nothing. -/
def Sys2Proof.Claims.HostAccessSteps : Prop :=
  (∀ (pa n : Nat) (s : State), pa + n ≤ s.ceil → 1 ≤ n → pa % 128 + n ≤ 128 → plainLine s (pa / 128) →
      let answers := fun (t : State) => t.host.response = Memory.readBytes s.mem pa n ∧ t.host.responsePoison = setHas s.poison (pa / 128) ∧ t.mem = s.mem ∧ t.cur = s.cur
      (s.host.mode = 1 → snoopVictim s (pa / 128) = none → ∃ t : State, exec (.cxlMemRead pa n) s = .next t ∧ answers t ∧ pa / 128 ∈ t.snoop)
      ∧ (∀ v, s.host.mode = 1 → snoopVictim s (pa / 128) = some v → exec (.cxlMemRead pa n) s =
          .next { s with snoopInv := setAdd s.snoopInv v, heldReads := s.heldReads ++ [{ pa, n, line := v }] })
      ∧ (s.host.mode = 2 → served s → ∃ t : State, exec (.bar4Read pa n) s = .next t ∧ answers t ∧ t.snoop = s.snoop))
  ∧ (∀ (pa n : Nat) (s : State), s.ceil < pa + n →
      let refused := { s with host := { s.host with response := [], responsePoison := false } }
      (s.host.mode = 2 → served s → exec (.bar4Read pa n) s = .next refused) ∧ (s.host.mode = 1 → exec (.cxlMemRead pa n) s = .next refused))
  ∧ (∀ (pa : Nat) (data : List (Option Byte)) (s : State), s.ceil < pa + data.length →
      (s.host.mode = 2 → served s → exec (.bar4Write pa data) s = .next s) ∧ exec (.memwrptl pa data) s = .next s)
  ∧ (∀ (pa : Nat) (data : List Byte) (s : State), pa + data.length ≤ s.ceil → s.ceil ≤ 2 ^ 39 → s.objs = [] → s.latent = [] → (∀ l, tidyAt s l) →
      MemoryForm s → s.host.mode = 1 →
      ∃ t : State, exec (.memwr pa data) s = .next t ∧ Memory.readBytes t.mem pa data.length = data ∧ t.cur = s.cur ∧ t.snoop = s.snoop
        ∧ ∀ a, (a < pa ∨ pa + data.length ≤ a) → Memory.read t.mem a = Memory.read s.mem a)
  ∧ (∀ (pa : Nat) (data : List (Option Byte)) (s : State), pa + data.length ≤ s.ceil → s.ceil ≤ 2 ^ 39 → s.objs = [] → s.latent = [] → (∀ l, tidyAt s l) →
      MemoryForm s → ∀ i, (i = Instr.memwrptl pa data ∧ s.host.mode = 1) ∨ (i = Instr.bar4Write pa data ∧ s.host.mode = 2 ∧ served s) →
      ∃ t : State, exec i s = .next t ∧ t.cur = s.cur
        ∧ (∀ k b, data[k]? = some (some b) → Memory.read t.mem (pa + k) = b)
        ∧ ∀ a, (a < pa ∨ data.length ≤ a - pa ∨ data[a - pa]? = some none) → Memory.read t.mem a = Memory.read s.mem a)

/-- R38 to R42: what the host sends or asks of lines: back-invalidate responses, behind which a write that waited for the line performs, snoops of host lines,
    line fills, completions. That a response about a line the filter does not hold changes nothing, and that a completion without data keeps a refusal, is log 31;
    under core number 255 the zero-length read is the scheduler's (log 77). -/
def Sys2Proof.Claims.HostLineSteps : Prop :=
  (∀ (pa : Nat) (data : List Byte) (s : State), s.host.mode = 1 → pa % 128 + data.length ≤ 128 → (∀ h ∈ s.heldReads, h.line ≠ pa / 128) →
      let waits := s.homeWrites.filter (fun w => w.pa / 128 == pa / 128)
      (pa / 128 ∉ s.snoop → setHas s.snoopInv (pa / 128) = false → (∀ c ∈ s.cmds, pa / 128 ∉ c.take) → exec (.birsp pa data) s = .next s)
      ∧ (∀ w, waits = [w] → w.use = .cached → w.pa % 128 + w.bytes.length ≤ 128 → pa / 128 ∈ s.snoop → setHas s.snoopInv (pa / 128) = true → plainLine s (pa / 128) →
          MemoryForm s → ∃ t : State, exec (.birsp pa data) s = .next t ∧ pa / 128 ∉ t.snoop ∧ Memory.readBytes t.mem w.pa w.bytes.length = w.bytes
            ∧ (∀ x ∈ t.homeWrites, x.pa / 128 ≠ pa / 128))
      ∧ (waits = [] → pa / 128 ∈ s.snoop → plainLine s (pa / 128) → MemoryForm s → ∃ t : State, exec (.birsp pa data) s = .next t
          ∧ Memory.readBytes t.mem pa data.length = data ∧ (setHas s.snoopInv (pa / 128) = true → pa / 128 ∉ t.snoop)
          ∧ (setHas s.snoopInv (pa / 128) = false → t.snoop = s.snoop) ∧ (∀ c ∈ t.cmds, pa / 128 ∉ c.take)
          ∧ ∀ a, (a < pa ∨ pa + data.length ≤ a) → Memory.read t.mem a = Memory.read s.mem a))
  ∧ (∀ (ha : Nat) (s : State), s.host.mode = 1 →
      let st := hostState s.hostLines (ha / 64)
      let back := if st = some .modified then Memory.readBytes s.mem (2 ^ 51 + ha / 64 * 64) 64 else []
      ∀ p ∈ ([(.snpinv ha, none), (.snpdata ha, if st = none then none else some .shared), (.snpcur ha, st)] : List (Instr × Option Mesi)),
        ∃ t : State, exec p.1 s = .next t ∧ t.host.response = back ∧ hostState t.hostLines (ha / 64) = p.2 ∧ t.mem = s.mem ∧ t.cur = s.cur)
  ∧ (∀ (ha : Nat) (exclusive : Bool) (data : List Byte) (s : State), s.host.mode = 1 → hostState s.hostLines (ha / 64) ≠ some .modified → data.length = 64 →
      MemoryForm s → ∃ t : State, exec (.hostLineResponse ha exclusive data) s = .next t ∧ Memory.readBytes t.mem (2 ^ 51 + ha / 64 * 64) 64 = data
        ∧ hostState t.hostLines (ha / 64) = some (if exclusive then .exclusive else .shared))
  ∧ (∀ (ha : Nat) (data : List Byte) (s : State),
      let m := Memory.writeBytes s.mem (2 ^ 51 + ha) data
      (s.host.mode = 2 → exec (.hostReadCompletion ha data) s = .next { s with mem := m })
      ∧ (s.host.mode ≠ 0 → data ≠ [] → ∃ t : State, exec (.atomicopCompletion ha data) s = .next t ∧ t.mem = m ∧ t.cur = s.cur)
      ∧ (s.host.mode ≠ 0 → data = [] → ∃ t : State, exec (.atomicopCompletion ha data) s = .next t ∧ t.mem = s.mem ∧ setHas t.host.atomicRefused ha = true))
  ∧ (∀ (u : SlotRef) (s : State), s.host.mode = 2 →
      (u.core ≠ 255 → s.lateSyncs = [] → (s.strand u).st ≠ .empty → ∃ t : State, exec (.zeroLengthReadCompletion u) s = .next t
        ∧ t.strand u = { s.strand u with hostStores := false, zeroRead := if (s.strand u).zeroRead = .sent then .answered else (s.strand u).zeroRead } ∧ t.mem = s.mem)
      ∧ (u.core = 255 → ∃ t : State, exec (.zeroLengthReadCompletion u) s = .next t ∧ t.mem = s.mem ∧ t.cur = s.cur
        ∧ t.sched.jobs = s.sched.jobs.map (fun j => { j with hostStores := false })
        ∧ ∀ j ∈ s.sched.jobs, j.hostStores = true → (s.now, Instr.jobComplete j.id) ∈ t.agenda))

/-- R35 to R42: host accesses and host lines. -/
def Obligations.HostMemorySteps : Prop := Claims.HostAccessSteps ∧ Claims.HostLineSteps

/-! ### Accesses at homes, ports and walkers as steps (R99, R107, R118, R119, R123, R135, R138, R145, R155, R327) -/

/-- R97 to R99: from a table at a level down, with `k` levels left, the walk of `va` comes to a leaf of `bits` offset bits at physical base `base`. -/
def Sys2Proof.Claims.leafBelow (s : State) (va bits base : Nat) (perms : BitVec 8) : Nat → Nat → Nat → Prop
  | 0, _, _ => False
  | k + 1, level, table =>
    let pte := natOfBytes (Memory.readBytes s.mem (table + 8 * (va / 2 ^ (56 - 10 * level) % 1024)) 8)
    let addr := pte / 2 ^ 13 % 2 ^ 39 * 2 ^ 13
    table + 8192 ≤ s.ceil ∧ pte.testBit 0 = true ∧ malformed pte level = false
      ∧ (if pte.testBit 4 then bits = 56 - 10 * level ∧ base = addr ∧ perms = BitVec.ofNat 8 pte
         else Sys2Proof.Claims.leafBelow s va bits base perms k (level + 1) addr)

/-- R118, R119, R145: an L1 miss, a store, its acknowledgment, the end of a lease, which frees the id of a dropped object (log 21), an access past the caches, and a
    page walk, which leaves the translation to the leaf that it comes to (that it fills the micro-TLB of the cluster's first core is the model's choice, log 12), each as
    it performs on device memory that no object tags. A write waits while the host holds its line (R38). -/
def Sys2Proof.Claims.LineSteps : Prop :=
  (∀ (core pa : Nat) (s : State), core < 144 → pa < s.ceil → plainLine s (pa / 128) → setHas s.poison (pa / 128) = false → inResultRow s (pa / 128 * 128) = false →
      let line := pa / 128
      let key := leaseKey none s.modId s.modId line
      ∃ t : State, exec (.homeRead core pa) s = .next t ∧ t.mem = s.mem ∧ t.cur = s.cur ∧ t.expiryOf key = max (s.now + 2048) (s.expiryOf key)
        ∧ l1Copy (t.core core).l1 line s.now =
            some { line, data := Memory.readBytes s.mem (line * 128) 128, expiry := some (s.now + 2048), passed := false })
  ∧ (∀ (core pa : Nat) (data : List Byte) (s : State), core < 144 → data ≠ [] → pa % 128 + data.length ≤ 128 → pa + data.length ≤ s.ceil →
      plainLine s (pa / 128) → MemoryForm s →
      (pa / 128 ∉ s.snoop → ∃ t : State, exec (.homeWrite core pa data) s = .next t ∧ Memory.readBytes t.mem pa data.length = data
        ∧ ∀ a, (a < pa ∨ pa + data.length ≤ a) → Memory.read t.mem a = Memory.read s.mem a)
      ∧ (pa / 128 ∈ s.snoop → ∃ t : State, exec (.homeWrite core pa data) s = .next t ∧ t.mem = s.mem ∧ setHas t.snoopInv (pa / 128) = true
        ∧ (s.now + 64, Instr.homeWrite core pa data) ∈ t.agenda))
  ∧ (∀ (u : SlotRef) (s : State), (s.strand u).st ≠ .empty → ∃ t : State, exec (.writeAck u) s = .next t ∧ t.mem = s.mem
      ∧ t.strand u = { s.strand u with acks := (s.strand u).acks.filter (fun a => decide (a.due > s.now)) })
  ∧ (∀ (id : Nat) (o : Obj) (s : State), mapGet s.objs id = some o → ∃ t : State, exec (.leaseExpiry id) s = .next t ∧ t = { s with cores := t.cores, objs := t.objs }
      ∧ (∀ p ∈ t.cores, ∀ x ∈ p.2.l1, inSpans o.lines x.line = true → ∀ e, x.expiry = some e → s.now < e)
      ∧ (o.lines ≠ [] → t.objs = s.objs)
      ∧ (o.lines = [] → keysRise s.objs = true → objectLeases s id ≤ s.now → (∀ p ∈ s.allStrands, ∀ d, p.2.wait ≠ .homes id d) → mapGet t.objs id = none))
  ∧ (∀ (cluster ctx : Nat) (sup : Bool) (kind : AccessKind) (va : Word) (s : State), cluster < 16 → ∃ t : State,
      exec (.pageWalk cluster ctx sup kind va) s = .next t ∧ t.cur = s.cur ∧ t.sched = s.sched
        ∧ ((∀ l, tidyAt s l) → s.objs = [] → s.latent = [] → t.mem = s.mem)
        ∧ (∀ e ∈ t.tlb, e ∈ s.tlb ∨ (e.cluster = cluster ∧ e.ctx = ctx ∧ e.vbase = va.toNat / 2 ^ e.bits))
        ∧ ∀ root bits base perms, contextRoot s ctx = some root → leafBelow s va.toNat bits base perms 4 1 root → permitted perms kind sup = true →
            (∀ l, tidyAt s l) → s.objs = [] → s.latent = [] → (∀ e ∈ s.tlb, e.covers cluster ctx va.toNat = false) →
            (∀ x ∈ s.micro, x.core ≠ 8 * cluster ∨ x.entry.covers cluster ctx va.toNat = false) →
            let e : TlbEntry := { cluster, ctx, vbase := va.toNat / 2 ^ bits, bits, pbase := base, perms, held := false }
            t.micro.head? = some { core := 8 * cluster, entry := e }
              ∧ ((s.tlb.filter (fun x => x.cluster == cluster && x.set == e.set)).length < 16 → ∃ h, t.tlb = { e with held := h } :: s.tlb))
  ∧ (∀ (pa n : Nat) (s : State), n ≠ 0 → pa % 128 + n ≤ 128 → pa + n ≤ s.ceil → plainLine s (pa / 128) → MemoryForm s →
      let old := s.dramLine (pa / 128)
      (∃ t : State, exec (.ncPageAccess pa n none) s = .next t ∧ t.mem = s.mem ∧ t.cur = s.cur)
      ∧ ∀ x : Word, ∃ t : State, exec (.ncPageAccess pa n (some x)) s = .next t
          ∧ (pa / 128 ∉ s.snoop → pa / 128 ∉ s.l2 → Memory.readBytes t.mem pa n = bytesOfNat n x.toNat ∧ ∀ a, (a < pa ∨ pa + n ≤ a) → Memory.read t.mem a = Memory.read s.mem a)
          ∧ (pa / 128 ∈ s.snoop → t.mem = s.mem ∧ t.stale = s.stale ∧ t.homeWrites = s.homeWrites ++ [{ pa, bytes := bytesOfNat n x.toNat, use := .bypass }])
          ∧ (pa / 128 ∉ s.snoop → pa / 128 ∈ s.l2 → t.mem = s.mem
              ∧ t.dramLine (pa / 128) = old.take (pa % 128) ++ bytesOfNat n x.toNat ++ old.drop (pa % 128 + n)))

/-- R35, R123, R135, R138, R155, R327: an AMO of a unit and an AtomicOp of the host (log 67) at plain memory, a store and a BLEND at an accord cell, an access at a scratchpad port, a stash line filled, and a full/empty
    deadline, each as it performs. That a fill of a line that no mapping covers and a deadline with nothing due change nothing is the model's choice (log 50). -/
def Sys2Proof.Claims.AtomicSteps : Prop :=
  (∀ (f : AmoFn) (pa n : Nat) (cmp y : BitVec 128) (s : State), pa % n = 0 → pa + n ≤ s.ceil →
      plainLine s (pa / 128) → setHas s.poison (pa / 128) = false → MemoryForm s →
      let old := natOfBytes (Memory.readBytes s.mem pa n)
      let new := (amoNew f n old (y.toNat % 2 ^ (8 * n)) (cmp.toNat % 2 ^ (8 * n))).getD old
      let performs := fun (t : State) => natOfBytes (Memory.readBytes t.mem pa n) = new % 2 ^ (8 * n)
        ∧ ∀ a, (a < pa ∨ pa + n ≤ a) → Memory.read t.mem a = Memory.read s.mem a
      (∀ u, (s.strand u).st ≠ .empty → (n = 4 ∨ n = 8) → pa / 1024 ∉ s.rowClear → pa / 128 ∉ s.snoop → (∀ w ∈ s.homeWrites, w.pa / 128 ≠ pa / 128) →
        ∃ t : State, exec (.homeAmo (some u) f pa n cmp y) s = .next t ∧ performs t)
      ∧ (s.host.mode ≠ 0 → served s → (f = .add ∨ f = .swap ∨ f = .cas) → (n = 4 ∨ n = 8 ∨ (n = 16 ∧ f = .cas)) →
        ∃ t : State, exec (.homeAmo none f pa n cmp y) s = .next t ∧ performs t ∧ t.host.response = Memory.readBytes s.mem pa n ∧ t.cur = s.cur))
  ∧ (∀ (u : SlotRef) (pa : Nat) (v : Word) (o : Obj) (s : State) (c : AccCell) (d : Word) (folded : Bool), (s.strand u).st ≠ .empty → pa % 8 = 0 →
      s.accordCell pa = some o →
      pa / 128 ∉ s.snoop →
      accordStore (s.cellAt pa) o.defop (poolFree s pa) v (obsDots (s.strand u).obs pa) (agentBits s (agentNumber u)) = (c, .ok d folded) →
      ∃ t : State, exec (.accordStore u pa v) s = .next t ∧ t.cellAt pa = c ∧ obsDots (t.strand u).obs pa = [d])
  ∧ (∀ (u : SlotRef) (pa : Nat) (op : BitVec 4) (cond : Bool) (v : Word) (o : Obj) (s : State) (c : AccCell) (y d : Word), (s.strand u).st ≠ .empty → pa % 8 = 0 →
      s.accordCell pa = some o → pa / 128 ∉ s.snoop →
      accordBlend (s.cellAt pa) op.toNat v (agentBits s (agentNumber u)) cond (obsDots (s.strand u).obs pa) = (c, .ok (y, some d)) →
      ∃ t : State, exec (.accordBlend u pa op cond v) s = .next t ∧ t.cellAt pa = c ∧ obsDots (t.strand u).obs pa = [d])
  ∧ (∀ (core off n : Nat) (s : State), core < 128 → off + n ≤ 0x200000 → (∀ slot, slot < 2 → (s.strand { core, slot }).stash = []) → s.syncs = [] →
      let loc := (Place.scratch s.modId core off).loc s.modId
      exec (.scratchpadPortAccess core off n none) s = .next s
      ∧ ∀ x : Word, exec (.scratchpadPortAccess core off n (some x)) s = .next { s with mem := Memory.writeBytes s.mem loc (bytesOfNat n x.toNat) })
  ∧ (∀ (core off : Nat) (s : State), core < 128 →
      ((∀ slot, slot < 2 → (s.strand { core, slot }).stash = []) → exec (.stashLineFill core off) s = .next s)
      ∧ (∀ u m i line, stashOwner s core off = some (u, m, i) → setHas m.filled i = false → m.lines[i]? = some line → s.latent = [] → s.objCache = [] → (∀ l, tidyAt s l) → MemoryForm s →
          ∃ t : State, exec (.stashLineFill core off) s = .next t
            ∧ Memory.readBytes t.mem ((Place.scratch s.modId core (m.off + 128 * i)).loc s.modId) 128 = Memory.readBytes s.mem (line * 128) 128))
  ∧ (∀ (u : SlotRef) (s : State),
      let due := fun (w : PortWait) => w.who = u ∧ w.store = none ∧ ∃ d, w.deadline = some d ∧ d ≤ s.now
      ((∀ w ∈ s.portQueue, ¬ due w) → exec (.feDeadline u) s = .next s)
      ∧ (∀ w ∈ s.portQueue, due w → (s.strand u).st = .waiting → ∃ t : State, exec (.feDeadline u) s = .next t ∧ (t.strand u).wait = .portDeadline
          ∧ (t.strand u).st ≠ .waiting ∧ (∀ x ∈ t.portQueue, ¬ due x) ∧ (s.portQueue = [w] → t.mem = s.mem)))

/-- R99, R107, R118, R119, R123, R135, R138, R145, R155, R327: accesses as they perform. -/
def Obligations.HomeSteps : Prop := Claims.LineSteps ∧ Claims.AtomicSteps

/-! ### Copies, collectives and streams as steps (R203 to R207, R343 to R353) -/

/-- R350, R352: n bytes at an own-scratchpad address of a unit are bytes o of its core's scratchpad, in its reservation, with no stash mapping there. -/
def Sys2Proof.Claims.unitBytes (s : State) (u : SlotRef) (va : Word) (n align o : Nat) : Prop :=
  va.toNat = 0x00FD000000000000 + o ∧ o % align = 0 ∧ o + n ≤ 0x200000 ∧ u.isConductor = false ∧ (s.strand u).scratchBase ≤ o
    ∧ o + n ≤ (s.strand u).scratchBase + (s.strand u).scratchSize ∧ ∀ slot, slot < 2 → (s.strand { core := u.core, slot }).stash = []

/-- R352: what DST receives: of COLLGAT the ranks' bytes in order, of COLLRED with SUM on integers the sum modulo 2^w of the ranks' elements; of COLLBAR nothing. -/
def Sys2Proof.Claims.collected (e : Epoch) (out : List Byte) : Prop :=
  let data := fun (k : Nat) => ((e.arrivals.find? (fun a => a.rank == k)).map (·.data)).getD []
  (e.kind = 2 → out = []) ∧ (e.kind = 1 → out = ((List.range e.npart).map data).flatten)
    ∧ ∀ w, e.kind = 0 → e.op = 0 → ((e.et = 2 ∧ w = 4) ∨ (e.et = 3 ∧ w = 8)) → out.length = w * (e.bytes / w)
        ∧ ∀ i, i < e.bytes / w → fieldAt out (w * i) w = ((List.range e.npart).map (fun k => fieldAt (data k) (w * i) w)).sum % 2 ^ (8 * w)

/-- R203, R205, R207, R343, R345, R350 to R353: a copy's sector as it is translated, its bytes as its CPGO found them (log 53), and as it completes, a collective's
    arrival, and its completion: every DST that lies in a scratchpad, and then every DONE, and bytes that a stream prefetches. How
    a copy's sectors follow one another and what ends it are logs 16 and 43, when a participant arrives log 44. That an event about a copy, an epoch or a stream that
    is not there changes nothing is the model's choice (log 50). -/
def Obligations.EngineSteps : Prop :=
  (∀ (core n : Nat) (s : State), core < 128 → n < 4 → (∀ x ∈ s.lateSyncs, s.now < x.due) →
      (s.copyAt core n = none → exec (.copySectorTranslated core n) s = .next s ∧ exec (.copySectorComplete core n) s = .next s)
      ∧ (∀ c, s.copyAt core n = some c → (s.strand c.owner).st ≠ .empty →
          (∀ p ∈ (s.strand { c.owner with slot := 1 - c.owner.slot }).waitCopies, p.1 ≠ n) →
          (c.st = .parked → exec (.copySectorTranslated core n) s = .next s)
          ∧ (c.begun = none → exec (.copySectorComplete core n) s = .next s)
          ∧ (c.begun = none → c.st ≠ .parked → c.flac = none → (∃ l ∈ c.levels, l.count = 0) → ∃ t : State, exec (.copySectorTranslated core n) s = .next t
              ∧ t.copyAt core n = none ∧ (t.strand c.owner).copyEnds[n]? = some { sect := c.sect, status := 0 } ∧ t.mem = s.mem)
          ∧ (c.begun = none → c.st ≠ .parked → c.flac = none → (∀ l ∈ c.levels, l.count ≠ 0) →
              let run := { c with st := .running }
              let src := (sectorOf run 0).1
              let dst := (sectorOf run 0).2.1
              let k := (sectorOf run 0).2.2
              let s0 := s.setCopy core n (some run)
              (∀ s1, resolve s0 (s0.agentOf c.owner) .load none src k 1 = (s1, .error 5) → ∃ t : State, exec (.copySectorTranslated core n) s = .next t
                ∧ (∃ p, t.copyAt core n = some p ∧ p.st = .parked ∧ p.cursor = c.cursor ∧ p.off = c.off ∧ p.sect = c.sect)
                ∧ (t.strand c.owner).status.getLsbD 4 = true ∧ ((s.strand c.owner).pending = none → (t.strand c.owner).pending = some (5, src)))
              ∧ (∀ s1 e, resolve s0 (s0.agentOf c.owner) .load none src k 1 = (s1, .error e) → e ≠ 5 → ∃ t : State,
                  exec (.copySectorTranslated core n) s = .next t ∧ t.copyAt core n = none ∧ (t.strand c.owner).copyEnds[n]? = some { sect := c.sect, status := 7 })
              ∧ (∀ s1 s2 s3 s4 gs gd now bs, resolve s0 (s0.agentOf c.owner) .load none src k 1 = (s1, .ok gs) →
                  resolve s1 (s0.agentOf c.owner) .store none dst k 1 = (s2, .ok gd) → windowBars s2 gs = false → windowBars s2 gd = false → partCell s2 gd.place k = false →
                  farBarred s2 (s2.agentOf c.owner).ctx gs.place k = false → farBarred s2 (s2.agentOf c.owner).ctx gd.place k = false →
                  syncPlace s2 run = .ok none → spanDown s2 gs.place k = false → spanRows s2 gs.place k = false → hostWait s2 gd.place k = none →
                  readSpan s2 gs.place k gs.use = (s3, some now) → bs = run.found s3.modId gs.place now gs.use → spanDown s3 gd.place k = false →
                  writeSpan s3 gd.place bs (s3.writerOf c.owner) gd.use = (s4, none) → partUe s4 gd.place k = false →
                  ∃ t : State, exec (.copySectorTranslated core n) s = .next t
                    ∧ t.copyAt core n = some { run with begun := some k, endAt := s.now + (k / 64 + 1), acked := ackDue s3 gd k }
                    ∧ t.mem = s4.mem ∧ (s.now + (k / 64 + 1), Instr.copySectorComplete core n) ∈ t.agenda))
          ∧ (s.now < c.endAt → exec (.copySectorComplete core n) s = .next s)
          ∧ (∀ k, c.endAt ≤ s.now → c.begun = some k → c.sync = 0 → c.flac = none → c.off + k < c.bytes → ∃ t : State, exec (.copySectorComplete core n) s = .next t
              ∧ t.copyAt core n = some { c with begun := none, sect := c.sect + 1, off := c.off + k } ∧ t.mem = s.mem
              ∧ (s.now, Instr.copySectorTranslated core n) ∈ t.agenda)
          ∧ (∀ k, c.endAt ≤ s.now → c.begun = some k → c.sync = 0 → c.flac = none → c.bytes ≤ c.off + k → c.levels = [] → ∃ t : State, exec (.copySectorComplete core n) s = .next t
              ∧ t.copyAt core n = none ∧ (t.strand c.owner).copyEnds[n]? = some { sect := c.sect + 1, status := 0 } ∧ t.mem = s.mem)))
  ∧ (∀ (u : SlotRef) (kind : Nat) (desc : Word) (s s1 : State) (r : List Byte), (s.strand u).st ≠ .empty → kind ≤ 2 →
      fetchRecord s (s.agentOf u) desc 64 = (s1, .ok r) →
      (∃ t : State, exec (.collectiveArrival (.near u) kind desc) s = .next t ∧
        ∀ p, collFieldsOk r kind = true → rendPlace s1 (s1.agentOf u) (BitVec.ofNat 64 (fieldAt r 0x10 8)) = some p →
          (joinEpoch s1 u kind r p).2 = true →
          ∃ e ∈ t.epochs, e.rend = p.loc s1.modId ∧ ∃ a ∈ e.arrivals, a.unit = some u ∧ a.rank = fieldAt r 0x26 2 ∧ a.dst = BitVec.ofNat 64 (fieldAt r 8 8)
            ∧ a.doneVa = BitVec.ofNat 64 (fieldAt r 0x18 8)))
  ∧ (∀ (f : FarParticipant) (kind : Nat) (rend : Word) (p : Place) (s : State), placeOf s rend.toNat 640 = some p → hostWait s p 640 = none → ∃ t : State, exec (.collectiveArrival (.far f) kind rend) s = .next t
      ∧ ∃ e ∈ t.epochs, e.rend = p.loc s.modId ∧ ∃ a ∈ e.arrivals, a.unit = none ∧ a.rank = f.rank ∧ a.data = f.data ∧ a.runs = f.dst)
  ∧ (∀ (rend : Nat) (s : State),
      let closed := fun (e : Epoch) => e.rend = rend ∧ e.npart ≤ e.arrivals.length
      ((∀ e ∈ s.epochs, ¬ closed e) → exec (.collectiveComplete rend) s = .next s)
      ∧ (∀ (e : Epoch) (u : Arrival → SlotRef) (o : Arrival → Nat), s.epochs = [e] → closed e → s.syncs = [] → MemoryForm s → (∀ a ∈ e.arrivals, a.seat s = some (u a)) →
          let loc := fun (a : Arrival) => coreLoc s (u a).core (o a)
          ((∃ d, e.due = some d ∧ d ≤ s.now) → (∀ a ∈ e.arrivals, unitBytes s (u a) a.doneVa 8 8 (o a)) → e.arrivals.Pairwise (fun a b => loc a ≠ loc b) →
            ∃ t : State, exec (.collectiveComplete rend) s = .next t ∧ t.epochs = []
              ∧ (∀ a ∈ e.arrivals, Memory.readBytes t.mem (loc a) 8 = bytesOfNat 4 e.status ++ bytesOfNat 4 e.number)
              ∧ ∀ x, (∀ a ∈ e.arrivals, x < loc a ∨ loc a + 8 ≤ x) → Memory.read t.mem x = Memory.read s.mem x)
          ∧ (e.due = none → e.status ≠ 0 → ∃ t : State, exec (.collectiveComplete rend) s = .next t ∧ t.mem = s.mem ∧ t.epochs = [{ e with due := some 0 }])
          ∧ (∀ out, e.due = none → e.status = 0 → out = collResult e → collected e out →
              let takers := e.arrivals.filter (fun a => a.dst != 0)
              (∀ a ∈ takers, unitBytes s (u a) a.dst out.length 1 (o a)) →
              takers.Pairwise (fun a b => loc a + out.length ≤ loc b ∨ loc b + out.length ≤ loc a) →
              ∃ t : State, exec (.collectiveComplete rend) s = .next t ∧ t.epochs = [{ e with due := some 0 }] ∧ (s.now, Instr.collectiveComplete rend) ∈ t.agenda
                ∧ (∀ a ∈ takers, Memory.readBytes t.mem (loc a) out.length = out)
                ∧ ∀ x, (∀ a ∈ takers, x < loc a ∨ loc a + out.length ≤ x) → Memory.read t.mem x = Memory.read s.mem x)))
  ∧ (∀ e : Epoch, collected e (collResult e))
  ∧ (∀ (u : SlotRef) (q n : Nat) (x : Stream) (s : State), (s.strand u).st ≠ .empty → (s.strand u).streams[q]? = some x →
      (x.active = false → exec (.streamPrefetch u q n) s = .next s)
      ∧ (∀ s1 bs, x.active = true →
          let k := min (min n (16384 - bufferedOn s u.core)) (x.len - (x.pos + x.buf.length))
          streamFetch s (s.agentOf u) x (k / 64 + 2) (x.base + BitVec.ofNat 64 (x.pos + x.buf.length)) k = (s1, .ok bs) →
          ∃ t : State, exec (.streamPrefetch u q n) s = .next t ∧ (t.strand u).streams[q]? = some { x with buf := x.buf ++ bs } ∧ t.mem = s1.mem))

/-! ### The scheduler's own steps (R45, R46, R61, R72, R73, R80 to R91, R214 to R219, R270) -/

/-- R38, R42, R45, R46, R61, R83 to R91: a host entry popped; a job that has ended, with its waits and its DONE word; a contract's release that does
    nothing, is a miss, or starts; its budget; and CTADMIT's commands. A job held behind another of its contract counts as active (log 68), a release
    whose time reaches C is stopped once that cycle is over, for it is DONE when its last unit halts in it (log 32), and a contract's first release
    under CTADMIT is log 19. That a release or an overrun of a contract there is not changes nothing is the model's choice (log 50). -/
def Sys2Proof.Claims.JobEvents : Prop :=
  (∀ s : State,
      ((1024 ≤ s.sched.jobs.length + s.sched.heldJobs.length ∨ ∀ q, q < 4 → (s.sched.queues[q]?).getD [] = []) → exec .jobPop s = .next s)
      ∧ (∀ q s1 e s2, s.sched.jobs.length + s.sched.heldJobs.length < 1024 → q < 4 → (s.sched.queues[q]?).getD [] ≠ [] →
          (∀ p, p < q → (s.sched.queues[p]?).getD [] = []) → popEntry s q = some (s1, e) →
          (∀ r d, readJob (s1.post 0 .jobPop) (s.host.ctl.extractLsb' 32 16).toNat e.payload = (s2, .error (r, d)) → exec .jobPop s = .next (postEvent s2 3 q r d))
          ∧ (∀ j, readJob (s1.post 0 .jobPop) (s.host.ctl.extractLsb' 32 16).toNat e.payload = (s2, .ok j) → j.contract ≠ none →
              exec .jobPop s = .next { s2 with sched := if s2.sched.jobs.any (fun x => x.contract == j.contract) then
                  { s2.sched with heldJobs := s2.sched.heldJobs ++ [j] } else { s2.sched with jobs := s2.sched.jobs ++ [j] } })
          ∧ (∀ j, readJob (s1.post 0 .jobPop) (s.host.ctl.extractLsb' 32 16).toNat e.payload = (s2, .ok j) → j.contract = none →
              exec .jobPop s = .next (settleJob (instantiate { s2 with sched := { s2.sched with jobs := s2.sched.jobs ++ [j] } } j.id) j.id))))
  ∧ (∀ (id : Nat) (j : Job) (s : State), s.jobOf id = some j →
      ((j.live = true ∨ (j.jobCancel = false ∧ j.phase < j.phases)) → exec (.jobComplete id) s = .next (settleJob s id))
      ∧ (j.live = false → (∀ r ∈ j.runs, r.st ≠ .waiting) → settleJob s id = s)
      ∧ (j.live = false → (j.jobCancel = true ∨ j.phases ≤ j.phase) →
          let visible := j.visible ≤ s.now ∧ (j.hostStores = false ∨ s.host.mode ≠ 2) ∧ s.homeWrites = []
          let without := fun (s : State) => { s with sched := { s.sched with jobs := s.sched.jobs.filter (fun x => x.id != id) } }
          (s.now < j.visible → exec (.jobComplete id) s = .next (s.post (j.visible - s.now) (.jobComplete id)))
          ∧ (j.visible ≤ s.now → j.hostStores = true → s.host.mode = 2 → exec (.jobComplete id) s = .next s)
          ∧ (j.visible ≤ s.now → (j.hostStores = false ∨ s.host.mode ≠ 2) → s.homeWrites ≠ [] → exec (.jobComplete id) s = .next (s.post 64 (.jobComplete id)))
          ∧ (visible → j.doneVa = 0 → (∀ x ∈ s.sched.heldJobs, x.contract ≠ j.contract) →
              (j.notify = false → exec (.jobComplete id) s = .next ((without s).post 0 .jobPop))
              ∧ (j.notify = true → exec (.jobComplete id) s = .next ((postEvent (without s) 1 0xFFFF (if j.anyCancelled then 1 else 0) j.tag).post 0 .jobPop)))
          ∧ (visible → j.doneVa ≠ 0 → ∀ (s1 : State) (g : Target), resolve s (schedAgent j.ctx) .store none j.doneVa 8 8 = (s1, .ok g) →
              (∀ s2, hostWait s1 g.place 8 = some s2 → exec (.jobComplete id) s = .next (s2.post 64 (.jobComplete id)))
              ∧ (∀ s2, hostWait s1 g.place 8 = none → unreachable s1 g.place = false → windowBars s1 g = false → farBarred s1 j.ctx g.place 8 = false →
                  writeSpan s1 g.place (bytesOfNat 8 (if j.anyCancelled then j.tag ||| BitVec.twoPow 64 63 else j.tag).toNat) { agent := 0, unit := none } g.use
                    = (s2, none) → j.notify = false → (∀ x ∈ s2.sched.heldJobs, x.contract ≠ j.contract) →
                  exec (.jobComplete id) s = .next ((without s2).post 0 .jobPop)))
          ∧ (visible → j.doneVa ≠ 0 → ∀ (s1 : State) (f : Nat), resolve s (schedAgent j.ctx) .store none j.doneVa 8 8 = (s1, .error f) →
              (∀ x ∈ s1.sched.heldJobs, x.contract ≠ j.contract) →
              exec (.jobComplete id) s = .next ((postEvent (without s1) 1 0xFFFF ((if j.anyCancelled then 1 else 0) + 2) j.tag).post 0 .jobPop))))
  ∧ (∀ (id : Nat) (s : State), s.contractOf id = none → exec (.contractRelease id) s = .next s ∧ exec (.budgetOverrun id) s = .next s)
  ∧ (∀ (id : Nat) (c : Contract) (s : State), s.contractOf id = some c →
      let at_ := fun (n : Nat) => c.first + n * c.period
      (s.now < at_ c.nextRel → exec (.contractRelease id) s = .next s)
      ∧ (at_ c.nextRel ≤ s.now → c.running ≠ none → ∃ t : State, exec (.contractRelease id) s = .next t
          ∧ t.contractOf id = some { c with nextRel := c.nextRel + 1, misses := c.misses + 1 } ∧ t.sched.jobs = s.sched.jobs ∧ t.cur = s.cur
          ∧ ∃ d, (d, Instr.contractRelease id) ∈ t.agenda ∧ at_ (c.nextRel + 1) ≤ d)
      ∧ (at_ c.nextRel ≤ s.now → c.running = none → (∀ j ∈ s.sched.jobs, j.contract = some id → j.live = true ∨ j.jobCancel = true ∨ j.phases ≤ j.phase) →
          ∃ t : State, exec (.contractRelease id) s = .next t ∧ t.contractOf id = some { c with nextRel := c.nextRel + 1 } ∧ t.sched.jobs = s.sched.jobs)
      ∧ (∀ j : Job, at_ c.nextRel ≤ s.now → c.running = none →
          s.sched.jobs.find? (fun j => j.contract == some id && !j.live && !j.jobCancel && decide (j.phase < j.phases)) = some j →
          (∀ x ∈ s.sched.contracts, x.clusters = c.clusters → x.running = none) → ∃ s1 : State,
            let r : Release := { n := c.nextRel, stopped := false, dispatched := false, deadline := at_ c.nextRel + c.deadline, used := 0, since := none, bankUsed := 0 }
            exec (.contractRelease id) s = .next (settleJob (instantiate s1 j.id) j.id)
            ∧ s1.contractOf id = some { c with nextRel := c.nextRel + 1, releases := c.releases + 1, running := some r }
            ∧ s1.sched.jobs = s.sched.jobs ∧ s1.cur = s.cur ∧ s1.mem = s.mem
            ∧ (∃ d, (d, Instr.contractRelease id) ∈ s1.agenda ∧ at_ (c.nextRel + 1) ≤ d)
            ∧ (0 < c.bankbud → ∀ k : Nat, (partitionStacks s1 c.clusters).getLsbD k = true → s1.closed.getLsbD k = true))
      ∧ ((c.running = none ∨ ∃ r, c.running = some r ∧ (r.since = none ∨ r.stopped = true ∨ r.time s.now < c.budget)) →
          exec (.budgetOverrun id) s = .next s)
      ∧ (∀ r, c.running = some r → r.since ≠ none → r.stopped = false → r.time s.now = c.budget →
          exec (.budgetOverrun id) s = .next (s.post 1 (.budgetOverrun id)))
      ∧ (∀ r j, c.running = some r → r.since ≠ none → r.stopped = false → c.budget < r.time s.now →
          s.sched.jobs.find? (fun j => j.contract == some id && j.live) = some j →
          exec (.budgetOverrun id) s = .next (cancelPhase
            (postEvent (s.setContract { c with overruns := c.overruns + 1, running := some { r with stopped := true } }) 6 id (r.n % 2 ^ 32) j.tag) j.id true)))
  ∧ (∀ (va : Word) (s s1 : State),
      (∀ e x, fetchRecord s s.me va 64 = (s1, .error (.fault e x)) → exec (.ctadmitAdmit va) s = .next s1 ∧ exec (.ctadmitWithdraw va) s = .next s1)
      ∧ (∀ r, fetchRecord s s.me va 64 = (s1, .ok r) →
          (contractOfRecord r = none → ∃ t : State, exec (.ctadmitAdmit va) s = .next t ∧ t.sched = s1.sched)
          ∧ (∀ c, contractOfRecord r = some c → ∃ t : State, exec (.ctadmitAdmit va) s = .next t
              ∧ (admitStatus s1 c ≠ 0 → t.sched = s1.sched)
              ∧ (admitStatus s1 c = 0 → ∃ n, t.sched.contracts = s1.sched.contracts ++ [{ c with nextRel := n }] ∧ (s1.now ≤ c.first + n * c.period)
                  ∧ (n = 0 ∨ c.first + n * c.period < s1.now + c.period)))
          ∧ ((s1.contractOf (fieldAt r 0 2) = none ∨ ∃ j ∈ s1.sched.jobs ++ s1.sched.heldJobs, j.contract = some (fieldAt r 0 2)) →
              ∃ t : State, exec (.ctadmitWithdraw va) s = .next t ∧ t.sched = s1.sched)
          ∧ (s1.contractOf (fieldAt r 0 2) ≠ none → (∀ j ∈ s1.sched.jobs ++ s1.sched.heldJobs, j.contract ≠ some (fieldAt r 0 2)) →
              ∃ t : State, exec (.ctadmitWithdraw va) s = .next t ∧ t.sched.contracts = s1.sched.contracts.filter (fun x => x.id != fieldAt r 0 2))))

/-- R71 to R74, R214 to R219: gangs offered to the placers; a strand asked to halt, its write-out, its restore, and a dirty tile's write-back. What
    other modules tell is taken in at GANG_PLACE (log 55), with the cells of objects that they have changed forgotten (R128, R132); the 160 cycles of
    a write-out are log 32, and the layout of a save record beyond R193 is log 14; that an event of a gang or unit there is not changes nothing is log 50.
    The place a gang takes is that of `tryDie`, which `GangOrder` states. -/
def Sys2Proof.Claims.GangSteps : Prop :=
  (∀ s : State, (∀ w ∈ s.sched.gangs, s.now < w.due) →
      ((∀ x ∈ s.news, s.now < x.due) → exec .gangPlace s = .next s)
      ∧ ∀ x, s.news = [x] → x.due ≤ s.now → x.mod < 16 → x.mod ≠ s.modId →
          (x.peer.objs = (s.peer x.mod).objs → exec .gangPlace s = .next { s with peers := mapSet s.peers x.mod x.peer, news := [], pkg := s.pkg.withDown x.mod x.down })
          ∧ (keysRise s.cells = true → ∃ t : State, exec .gangPlace s = .next t ∧ t.peers = mapSet s.peers x.mod x.peer ∧ t.news = [] ∧ t.mem = s.mem
              ∧ (∀ k, (x.mod, k) ∈ t.pkg.down ↔ k ∈ x.down) ∧ (∀ d, d.1 ≠ x.mod → (d ∈ t.pkg.down ↔ d ∈ s.pkg.down))
              ∧ ∀ loc, let gone := farGone s x.mod (s.peer x.mod).objs x.peer.objs loc
                (gone = false → mapGet t.cells loc = mapGet s.cells loc ∧ ∀ e ∈ s.cur.obs, e.cell = loc → e ∈ t.cur.obs)
                ∧ (gone = true → mapGet t.cells loc = none ∧ (∀ e ∈ t.cur.obs, e.cell ≠ loc)
                    ∧ ((∃ e ∈ s.cur.obs, e.cell = loc) → t.cur.astat.getLsbD 1 = true))))
  ∧ (∀ (w : GangWait) (l : Launch) (s : State), s.sched.gangs = [w] → w.due ≤ s.now → (∀ x ∈ s.news, s.now < x.due) → s.launchOf w.handle = some l → l.contract = none →
      wholeGang s w = true →
      let d := s.sched.nextDie
      let s1 := { s with sched := { s.sched with nextDie := 1 - d } }
      ∀ i ∈ [Instr.gangPlace, .placementBackoffExpiry w.handle w.gang],
        (∀ t, tryDie s1 l w d = some t → exec i s = .next (dropGang t w))
        ∧ (∀ t, tryDie s1 l w d = none → tryDie s1 l w (1 - d) = some t → exec i s = .next (dropGang t w))
        ∧ (tryDie s1 l w d = none → tryDie s1 l w (1 - d) = none → ∃ (t : State) (b : Nat), exec i s = .next t ∧ t.cur = s.cur ∧ t.others = s.others
            ∧ t.sched.gangs = [{ w with fails := w.fails + 1, due := s.now + b }] ∧ b ≤ 4000 ∧ min (64 * 2 ^ w.fails) 4000 ≤ 2 * b
            ∧ (s.now + b, Instr.placementBackoffExpiry w.handle w.gang) ∈ t.agenda))
  ∧ (∀ (handle gang : Nat) (s : State), (∀ w ∈ s.sched.gangs, w.handle = handle → w.gang = gang → s.now < w.due) →
      exec (.placementBackoffExpiry handle gang) s = .next s)
  ∧ (∀ (u : SlotRef) (s : State), (s.strand u).st ≠ .empty → (s.strand u).st ≠ .trapped →
      (∀ p, (s.strand u).st = .running → (s.strand u).wait = .none → ∃ t : State, exec (.strandHalt u (some p)) s = .next t ∧ (t.strand u).cv.limit = some p ∧ (t.strand u).st = .running ∧ (t.strand u).s = (s.strand u).s
        ∧ (s.now + 160, Instr.writeOutComplete u) ∈ t.agenda ∧ t.mem = s.mem)
      ∧ (∃ t : State, exec (.strandHalt u none) s = .next t ∧ (t.strand u).st = .ready ∧ (t.strand u).halted = true ∧ (t.strand u).cv = Convoy.idle ∧ (t.strand u).s = (s.strand u).s
        ∧ (t.strand u).pc = (s.strand u).pc ∧ (s.now + 160, Instr.writeOutComplete u) ∈ t.agenda
        ∧ (s.portQueue = [] → t.mem = s.mem))
      ∧ ((s.strand u).st = .running → (s.strand u).cv.limit ≠ none → exec (.writeOutComplete u) s = .next (s.post 1 (.writeOutComplete u)))
      ∧ ((s.strand u).halted = false → (s.strand u).cv.limit = none → exec (.writeOutComplete u) s = .next s))
  ∧ (∀ (u : SlotRef) (r : Nat) (s : State), u.ok = true → (s.strand u).st = .ready → (s.strand u).halted = true → (s.strand u).wait = .none → (s.strand u).record = some r → ∃ (t : State) (v : Saved),
      exec (.writeOutComplete u) s = .next t ∧ (t.strand u).st = .empty ∧ v ∈ t.sched.saved ∧ v.record = r ∧ v.conductor = u.isConductor
        ∧ v.unit.s = (s.strand u).s ∧ v.unit.v = (s.strand u).v ∧ v.unit.k = (s.strand u).k ∧ v.unit.pc = (s.strand u).pc ∧ v.unit.vl = (s.strand u).vl
        ∧ v.unit.obs = [] ∧ v.unit.acks = [])
  ∧ (∀ (r : Nat) (u : SlotRef) (v : Saved) (s : State), s.sched.saved.find? (fun x => x.record == r) = some v → u.ok = true → (s.strand u).st = .empty →
      u.isConductor = v.conductor → recordReady s v = true → MemoryForm s → s.objs = [] → r + 0xD0000 ≤ 2 ^ 39 →
      (v.conductor = true ∨ roomAt (reservations s u.core) v.unit.scratchBase v.unit.scratchSize = true) →
      let at_ := fun (off n : Nat) => natOfBytes (Memory.readBytes s.mem (r + off) n)
      ∃ t : State, exec (.contextRestore r u) s = .next t ∧ (∀ x ∈ t.sched.saved, x.record ≠ r) ∧ (t.strand u).st = .running
        ∧ (∀ i, i < 32 → (t.strand u).s[i]? = some (BitVec.ofNat 64 (at_ (8 * i) 8))) ∧ (t.strand u).pc = BitVec.ofNat 64 (at_ 0x100 8)
        ∧ (t.strand u).vl = BitVec.ofNat 64 (at_ 0x108 8)
        ∧ (v.conductor = false → ∀ i, 1 ≤ i → i < 8 → (t.strand u).k[i]? = some (BitVec.ofNat 4096 (at_ (0x200 + 512 * i) 512)))
        ∧ (v.conductor = false → ∀ i, i < 32 → (t.strand u).v[i]? = some (BitVec.ofNat 2048 (at_ (0x2000 + 256 * i) 256))))
  ∧ (∀ (core n : Nat) (x : Tile) (s : State), (s.core core).tiles[n]? = some x →
      (x.dirty = false → exec (.tileWriteback core n) s = .next s)
      ∧ (∀ i r, x.dirty = true → x.owner = some i → s.saveRec i = some r → MemoryForm s → s.objs = [] → s.latent = [] → s.snoop = [] → (∀ l, tidyAt s l) →
          r.addr + 0xD0000 ≤ s.ceil → r.addr + 0xD0000 ≤ 2 ^ 39 → ∃ t : State, exec (.tileWriteback core n) s = .next t
          ∧ (t.core core).tiles[n]? = some { x with owner := none, dirty := false } ∧ t.cur = s.cur
          ∧ Memory.readBytes t.mem (r.addr + 0x10000 + n * 0x10000) 65536 = tileBytes x))

/-- R80, R81, R214, R270: the watchdog judged, an empty slot's one without effect (log 50), and a convoy refused before it runs, whose strand
    is halted at its handler where it has been asked to halt. -/
def Sys2Proof.Claims.WatchdogSteps : Prop :=
  (∀ (u : SlotRef) (s : State), ((s.strand u).st = .empty ∨ (s.strand u).wdog = 0) → exec (.watchdogExpiry u) s = .next s)
  ∧ (∀ (u : SlotRef) (s : State), (s.strand u).st ≠ .empty → (s.strand u).wdog ≠ 0 → (∀ q, (s.strand u).wait ≠ .pop q) →
      let limit := (s.strand u).wdCount + (s.strand u).wdog.toNat
      (s.now < limit → ∃ t : State, exec (.watchdogExpiry u) s = .next t ∧ t.strand u = s.strand u ∧ t.mem = s.mem ∧ (limit, Instr.watchdogExpiry u) ∈ t.agenda)
      ∧ (limit ≤ s.now → u.ok = true → ∃ t : State, exec (.watchdogExpiry u) s = .next t ∧ (t.strand u).st = .empty))
  ∧ (∀ (u : SlotRef) (q : Nat) (l : Launch) (s : State), (s.strand u).st ≠ .empty → (s.strand u).wdog ≠ 0 → (s.strand u).wait = .pop q →
      s.launchOfUnit (s.strand u) = some l → l.persist = true → ∃ t : State, exec (.watchdogExpiry u) s = .next t
        ∧ t.strand u = { s.strand u with wdCount := s.now } ∧ t.mem = s.mem)
  ∧ (∀ (reason member : Nat) (word : Word32) (s : State), s.cur.st = .running →
      let t := trapEntry s 1 (BitVec.ofNat 64 (reason * 2 ^ 36 + member * 2 ^ 32 + word.toNat)) s.cur.pc
      exec (.illegalEncoding reason member word) s = .next (if s.cur.cv.limit = none then t else halted t))

/-- R368, R375, R382: the words of a command that run, in order: of every iteration of its nest, level 0 fastest, each body word whose guard holds
    there, with its number. -/
def Sys2Proof.Claims.nestWords (c : BankCmd) : List (Word32 × BluCtx) :=
  (nestOrder (c.levels.map (fun l => List.range l.runs))).flatMap (fun idx =>
    let x := iterationAt c idx
    (c.body.zipIdx.filter (fun p => guardRuns (getGuard p.1) x)).map (fun p => (p.1, { x with bpc := p.2 })))

/-- R182, R378: the contributions to the n-th reduction of one group, its banks in global order, and whether a bank's is missing. -/
def Sys2Proof.Claims.groupOf (c : BankCmd) (n level key : Nat) : List Contribution × Bool :=
  let banks := c.banks.filter (fun b => groupKey level b == key)
  let parts := banks.filterMap (fun b => c.contribs.find? (fun k => k.n == n && k.bank == b))
  (parts, decide (parts.length < banks.length))

/-- R163, R164, R171, R176, R181 to R185, R372, R375, R378: a bank command's start, or its wait for leases, the host and earlier commands: its body
    runs on each of its banks; the end of a table build; an RTREE's roots, whose reduced rows are written when every contribution has come or can
    come no more (log 17), after every body has run (log 80); the end of a build there is not, which changes nothing (log 50); and completion, which waits for open banks, keeps the summary in the unit's slot, and
    leaves every row full and the rows of poisoned banks poisoned. -/
def Obligations.BankSteps : Prop :=
  (∀ (g : Nat) (c : BankCmd) (s : State), s.cmdOf g = some c →
      let s0 := s.setCmd c
      (c.st = .accepted → c.places = [] → closedTo s0 c = false → (s.now < c.due ∨ taking s0 c = true ∨ banksBusy s0 c = true) →
        exec (.bankCommandStart g) s = .next (s0.post 1 (.bankCommandStart g)))
      ∧ (c.st = .accepted → c.places = [] → closedTo s0 c = false → c.due ≤ s.now → taking s0 c = false → banksBusy s0 c = false →
          let c1 := { c with st := .started }
          let s1 := c.banks.foldl (fun s b => runBank c1 b s) (s0.setCmd c1)
          let trees := (((s1.cmdOf g).map (·.contribs)).getD []).foldl (fun n k => max n (k.n + 1)) 0
          ∃ t : State, exec (.bankCommandStart g) s = .next t ∧ t.mem = s1.mem ∧ t.blus = s1.blus ∧ t.cmds = s1.cmds ∧ t.poison = s1.poison
            ∧ t.rowClear = s1.rowClear ∧ t.stale = s1.stale ∧ ∃ d, s.now ≤ d ∧ (d, Instr.bankCommandComplete g) ∈ t.agenda
              ∧ ∀ n, n < trees → (d, Instr.rtreeRootWrite g n) ∈ t.agenda)
      ∧ (c.st = .accepted → c.places = [] → closedTo s0 c = false → c.due ≤ s.now → taking s0 c = false → banksBusy s0 c = false → ∃ (t : State) (c' : BankCmd),
          exec (.bankCommandStart g) s = .next t ∧ t.cmdOf g = some c' ∧ c'.st = .started ∧ c'.banks = c.banks ∧ t.cur = s.cur
            ∧ ∃ d, s.now ≤ d ∧ (d, Instr.bankCommandComplete g) ∈ t.agenda)
      ∧ (∀ n, c.st = .started → ∃ t : State, exec (.rtreeRootWrite g n) s = .next t ∧ t.cur = s.cur ∧
          ((∀ k ∈ c.contribs, k.n ≠ n) → t = s) ∧ ∃ c', t.cmdOf g = some c' ∧ c'.contribs.length = c.contribs.length ∧ ∀ k ∈ c'.contribs, k.n = n → k.words = [])
      ∧ (∀ (n key row : Nat) (k0 root : Contribution) (rest : List Contribution) (missing : Bool), c.st = .started → MemoryForm s →
          s.rowClear.Pairwise (· < ·) → s.poison.Pairwise (· < ·) → c.contribs.find? (fun k => k.n == n) = some k0 →
          groupOf c n k0.level key = (root :: rest, missing) → (∀ k ∈ root :: rest, k.words.length = 256) → isRoot c k0.level root.bank = true →
          resultRow s c root.bank root.j = some row →
          let reduced := reduceGroup root.op ((root :: rest).map (fun k => (k.bank, k.words)))
          ∃ t : State, exec (.rtreeRootWrite g n) s = .next t ∧ Memory.readBytes t.mem (row * 1024) 1024 = laneBytes reduced.1
            ∧ setHas t.rowClear row = false ∧ (∀ i, i < 8 → setHas t.poison (row * 8 + i) = missing)
            ∧ (reduced.2 ≠ 0 → (t.bluAt root.bank).status.getLsbD 9 = true))
      ∧ (∀ (n : Nat) (k0 : Contribution), c.st = .started → c.contribs.find? (fun k => k.n == n) = some k0 →
          (∀ k ∈ c.contribs, k.n = n → isRoot c k0.level k.bank = false) →
          ∃ t : State, exec (.rtreeRootWrite g n) s = .next t ∧ t.mem = s.mem ∧ t.rowClear = s.rowClear ∧ t.poison = s.poison)
      ∧ (c.st = .started → (∃ b ∈ c.banks, (s.bluAt b).st = .run) → exec (.bankCommandComplete g) s = .next (s.post 1 (.bankCommandComplete g)))
      ∧ (c.st = .started → (∀ b ∈ c.banks, (s.bluAt b).st ≠ .run) → (∀ k ∈ c.contribs, k.words = []) →
          (∃ k : Nat, s.cur.bankSlots[k]? = some { grant := some g }) → ∃ (t : State) (c' : BankCmd), exec (.bankCommandComplete g) s = .next t
            ∧ t.cmdOf g = some c' ∧ c'.st = .complete ∧ c'.summary.getLsbD 63 = true ∧ c'.summary.getLsbD 0 = false ∧ (∀ b ∈ c.banks, (t.bluAt b).st = .idle)
            ∧ (s.launchOf c.handle = none → (∀ r ∈ c.rows, r ∉ t.rowClear)
                ∧ ∀ p ∈ c.written, p.1 ∈ c.banks → (s.bluAt p.1).status.getLsbD 10 = true → ∀ i, i < 8 → setHas t.poison (p.2 * 8 + i) = true)))
  ∧ (∀ (c : BankCmd) (b : Nat) (s : State),
      let s1 := { s.setBlu b (startBlu (s.bluAt b) c.ctx c.bcastPoison) with blu := { BluCtx.reset with bank := b, grant := c.grant } }
      let s2 := (nestWords c).foldl (fun s p => runWord p.1 { s with blu := { p.2 with bank := b, tree := s.blu.tree } }) s1
      let x := s2.bluAt b
      let s3 := s2.setBlu b (if x.st = .run ∧ x.buildHalf.st ≠ .building then { x with st := .done } else x)
      { runBank c b s with blu := .reset } = { s3 with blu := .reset })
  ∧ (∀ (op a b : Nat) (x y : List (BitVec 32)), reduceGroup op [(a, x)] = (x, 0) ∧ reduceGroup op [(a, x), (b, y)] = combineRows op x y)
  ∧ (∀ (b : Nat) (s : State), b < 8192 →
      ((s.bluAt b).buildHalf.st ≠ .building → exec (.tableBuildEnd b) s = .next s)
      ∧ ((s.bluAt b).buildHalf.st = .building → ∃ t : State, exec (.tableBuildEnd b) s = .next t ∧ t.mem = s.mem
          ∧ (t.bluAt b).buildHalf = { (s.bluAt b).buildHalf with st := .built } ∧ (t.bluAt b).readHalf = (s.bluAt b).readHalf
          ∧ (t.bluAt b).st = if (s.bluAt b).st = .run then .done else (s.bluAt b).st))

/-! ### The whole machine (R32, R51, R192, R197, R198, R209 to R213, R259 to R270, R389) -/

/-- R23, R32, R51, R71, R389: what reset leaves of the values the spec states: the boot ROM at BOOT_STATUS 1, a domain of one module, the scheduler's and the host port's
    registers, DSEQ 1 next, no unit in any slot, and the default values of the registers a CSR read answers. That tables, caches, filters and queues start empty, where
    the spec gives them no reset value, is log 1. -/
def Obligations.ResetState : Prop :=
  let s := State.reset
  s.pkg.bootStatus = 1 ∧ s.pkg.domain = 1 ∧ s.pkg.linkRetry = 0 ∧ s.pkg.fatal = none ∧ s.domSize = 1 ∧ s.modId = 0
  ∧ s.sched.ctxtab = 0 ∧ s.sched.objtab = 0x01000000 ∧ s.sched.savepool = 0x02000000 ∧ s.sched.savecnt = 256 ∧ (∀ q, q < 32 → s.sched.pqown[q]? = some 0)
  ∧ s.sched.jobs = [] ∧ s.sched.launches = [] ∧ s.sched.contracts = [] ∧ s.sched.nextDie = 0 ∧ (∀ q, q < 32 → s.sched.queues[q]? = some [])
  ∧ s.host.ctl = 0 ∧ s.host.hseqAccepted = 0 ∧ s.host.submitRejects = 0 ∧ s.host.silSize = 8 ∧ s.host.dseqPosted = 0 ∧ s.host.nextDseq = 1 ∧ s.host.incarnation = 0
  ∧ (∀ u, (s.strand u).st = .empty) ∧ s.objs = [] ∧ s.tlb = [] ∧ s.micro = [] ∧ s.cells = [] ∧ s.cmds = [] ∧ s.snoop = []
  ∧ (∀ n ∈ [0x000, 0x001, 0x002, 0x004, 0x005, 0x008, 0x009, 0x00A, 0x00B, 0x010, 0x011, 0x012, 0x013, 0x018, 0x029, 0x02A, 0x02B, 0x02C], csrRead s n = 0)
  ∧ csrRead s 0x003 = 256

/-- R51, R20, log 2: memory at reset is in its canonical form and lists nothing (the model's choice: an unlisted byte reads 0). -/
def Obligations.ResetMemoryForm : Prop := MemoryForm State.reset ∧ State.reset.mem = []

/-- Every step, of a strand, of an event or of time, keeps memory in its canonical form. -/
def Obligations.StepKeepsMemoryForm : Prop := ∀ s t : State, MemoryForm s → step s = .next t → MemoryForm t

/-- R259 to R271: decoding undoes encoding, with every field at every value its encoding admits: of words, of bytes with more bytes after them, and of the words of a bank
    command's body. -/
def Obligations.DecodeEncode : Prop :=
  (∀ (i : Instr) (v : View), i.view = some v → i.wellFormed = true → decodeWords (encode i) = .ok i)
  ∧ (∀ (i : Instr) (v : View) (rest : List Byte), i.view = some v → i.wellFormed = true → decode (encodeBytes i ++ rest) = .ok (i, rest))
  ∧ (∀ (i : Instr) (w : Word32), i.view = none → encode i = [w] → i.wellFormed = true → decodeBlu w = .ok i)

/-- Words written out from the encodings of the spec (R259 to R264, R270, R321, R394) decode to the instructions they stand for. -/
def Obligations.DecodeWords : Prop :=
  let hd : Hd := { stall := 0, c := false }
  let r := fun (d a b : BitVec 5) => ({ hd, d, a, b } : RF)
  decodeWords [0x314A0000] = .ok (.add (r 5 5 6))
  ∧ decodeWords [0x00000640] = .ok (.fence (r 0 0 0))
  ∧ decodeWords [0x398A05C0] = .ok (.amoadd (r 5 6 7))
  ∧ decodeWords [0x00546B00] = .ok (.kfirst (r 10 1 0))
  ∧ decodeWords [0x400C0BC0] = .ok (.vsetvl (r 6 0 8))
  ∧ decodeWords [0x01503800] = .ok (.vldFf (r 8 5 0))
  ∧ decodeWords [0x018A9F00] = .ok (.objdrop (r 5 6 0))
  ∧ decodeWords [0x00002F00] = .ok (.halt (r 0 0 0)) ∧ decodeWords [0x00001F00] = .ok (.eret (r 0 0 0)) ∧ decodeWords [0x00003F00] = .ok (.yield (r 0 0 0))
  ∧ decodeWords [0x00000F00] = .ok (.trap (r 0 0 0)) ∧ decodeWords [0x00001F40] = .ok (.trigger (r 0 0 0))
  ∧ decodeWords [0x01C05F02, 0, 0x002C0000] = .ok (.csrwr { r := r 0 7 0, w1 := Ext1.zero, w2 := { Ext2.zero with imm16 := 0x2C } })
  ∧ decodeWords [0x000A4F02, 0, 0x00280000] = .ok (.csrrd { r := r 5 0 0, w1 := Ext1.zero, w2 := { Ext2.zero with imm16 := 0x28 } })
  ∧ decodeWords [0x00084F42, 0, 0x00060000] = .ok (.pqpopX { r := r 4 0 0, w1 := Ext1.zero, w2 := { Ext2.zero with imm16 := 6 } })
  ∧ decodeWords [] = .error .short

/-- A strand that may take its next convoy: no event is due, it runs, and no cancel, pending fault or halt stands before it. -/
def Sys2Proof.Claims.stepsNext (s : State) : Prop :=
  s.pkg.fatal = none ∧ (∀ p ∈ s.agenda.head?, s.now < p.1) ∧ s.cur.st = .running ∧ s.cur.cancel = .none ∧ s.cur.pending = none ∧ s.cur.cv.limit = none

/-- What a step adds around a convoy: time passes by 1 + STALL, polled waits look again, and the turn passes on (log 5, log 6). -/
def Sys2Proof.Claims.around (s : State) (r : Res) : Res := mapNext (fun t => rotate (wakePolls (advanceTime t (convoyTime s)))) r

/-- R197, R265: when the words fetched at the pc decode to an instruction that this agent runs and whose types are in rule, a step runs exactly it, in the state the fetch left;
    what the step adds around it is `around`. -/
def Obligations.StepRunsInstruction : Prop :=
  ∀ (s s1 : State) (ws : List Word32) (i : Instr) (v : View), stepsNext s → fetchConvoy s 4 s.cur.pc = (s1, .ok [ws]) → decodeWords ws = .ok i → i.view = some v →
    Check.agentRuns s.curRef.isConductor (majorOf (ws.headD 0)) = true → (baseTyped v = true → baseBad s.cur v = false) → s1.cur = s.cur → s1.curRef = s.curRef →
    step s = around s (exec i s1)

/-- R99, R192, R198, R270: the traps a convoy takes before any of its instructions runs: a fetch that fails takes its cause with TRAPVAL the address; words that decode to no
    instruction take ILLEGAL with their reason, a major another agent executes reason 9 (log 23); an instruction whose types VTYPE refuses takes reason 8; under SCHK
    a reader too close to its producer takes STALL_UNDER with what is left of the latency. R263, R306, R355, R358: the base lengths of VFCLASS, ACCRD and ACCWR take reason
    8 under every VTYPE, for no one type is both a float and an integer, and no LMUL is both 1 and more than 1. -/
def Sys2Proof.Claims.ConvoyTraps : Prop :=
  (∀ (s s1 : State) (c : Nat) (va : Word), stepsNext s → fetchConvoy s 4 s.cur.pc = (s1, .error (c, va)) → s1.cur = s.cur → step s = around s (.next (trapEntry s1 c va s.cur.pc)))
  ∧ (∀ (s s1 : State) (w : Word32) (rest : List Word32), stepsNext s → fetchConvoy s 4 s.cur.pc = (s1, .ok [w :: rest]) → s1.curRef = s.curRef → s1.cur = s.cur →
      let trap := fun (reason : Nat) => step s = around s (.next (trapEntry s1 1 (BitVec.ofNat 64 (reason * 2 ^ 36 + w.toNat)) s.cur.pc))
      let runs := Check.agentRuns s.curRef.isConductor (majorOf w)
      (Check.assigned (majorOf w) = true → runs = false → trap 9)
      ∧ (∀ r, runs = true → decodeWords (w :: rest) = .error (.illegal r) → trap r)
      ∧ (∀ i v, runs = true → decodeWords (w :: rest) = .ok i → i.view = some v → baseTyped v = true → baseBad s.cur v = true → trap 8))
  ∧ (∀ (i : Instr) (v : View) (s : State), i.view = some v → alone s.cur = true →
      (∀ r, illegalReason s.curRef.isConductor s.cur v = some r → exec i s = .next (trapped s s 1 (BitVec.ofNat 64 (r * 2 ^ 36) + (v.word0).setWidth 64)))
      ∧ (legal i s = true → s.cur.schk.getLsbD 0 = true → stallUnder s.cur.prods (scalarReads s.cur v) ≠ 0 →
          exec i s = .next (trapped s s 2 (BitVec.ofNat 64 (stallUnder s.cur.prods (scalarReads s.cur v))))))
  ∧ (∀ (r : RF) (s : State), alone s.cur = true → s.curRef.isConductor = false → ∀ i ∈ [Instr.vfclass r, .accrd r, .accwr r], i.wellFormed = true →
      exec i s = .next (trapped s s 1 (illegalAs 8 i)))

/-- R197, R265: the members of a convoy run in order, each in the state that the one before it left, until one waits. -/
def Sys2Proof.Claims.membersRun : Nat → List Instr → State → State → Prop
  | _, [], s, t => t = s
  | k, i :: is, s, t =>
    if s.cur.wait ≠ .none then t = { s with cur := { s.cur with cv := { s.cur.cv with member := k } } }
    else ∃ u, exec i { s with cur := { s.cur with cv := { s.cur.cv with member := k } } } = .next u ∧ Sys2Proof.Claims.membersRun (k + 1) is u t

/-- R197, R212: an element-wise member of a convoy of several, or of one that stops at an element, takes the row's value in each active element it may
    begin and raises their flags, and SBASE advances (logs 36, 41: the model's reading where the convoy traps); it moves no pc, which its convoy does. -/
def Sys2Proof.Claims.ElementwiseMember (row : VecRow) : Prop :=
  ∀ (i : Instr) (s : State), row.forms i → s.cur.cv.multi = true → legal i s = true →
    let v := typedView i s
    let acts := fun (e : Nat) => active s.cur v e && s.cur.cv.limit.all (fun l => decide (e < l))
    (vlOf s.cur v ≤ s.cur.vstart.toNat → exec i s = .next { s with cur := advanced row.rounds v s.cur })
    ∧ (s.cur.vstart.toNat < vlOf s.cur v → ∀ (s1 s2 : State) (a b : Src) (x y : Nat → Nat),
        fetchVec s v false (Check.vlmax v) (Check.tA v) = (s1, a, none) →
        (if row.usesB then fetchB s1 v (Check.vlmax v) (Check.tB v) = (s2, b, none) else s2 = s1) →
        (∀ e, acts e = true → a.elem e = .ok (x e)) →
        (row.usesB = true → ∀ e, acts e = true → b.elem e = .ok (y e)) → (row.usesB = false → ∀ e, y e = 0) →
        let r := fun (e : Nat) => row.res s.cur v e (x e) (y e) (elemIn s.cur v.d (dstCount v) (Check.tD v).width e)
        ∃ V, groupTakesOn s.cur v acts (fun e => (r e).1) V
          ∧ exec i s = .next { s2 with cur := advanced row.rounds v ({ s2.cur with v := V }.raise
              (allFlags s.cur v (fun e => if acts e then (r e).2 else 0))) })

/-- R103, R195, R197, R198, R212, R265, R266, R270: a convoy of several members. Members out of place and a fourth that does not end it take ILLEGAL with
    their number; under SCHK it traps before any member executes; its members run in order, each in the state the one before left, and the convoy
    retires past all its words, or traps as one at its first word, or is left waiting, with every member complete up to the element that trapped
    or waits and VSTART there. That it runs a second time, from what the first pass has found (`keepFound`), is the model's (log 69), as are the flags and SBASE of the elements below a trap
    (logs 36, 41). Convoys of row-progress instructions run in blocks of rows (R354) and are not among these. -/
def Sys2Proof.Claims.ConvoyMembers : Prop :=
  (∀ (s s1 : State) (ms : List (List Word32)), stepsNext s → fetchConvoy s 4 s.cur.pc = (s1, .ok ms) → s1.cur = s.cur → s1.curRef = s.curRef → 2 ≤ ms.length →
      let word := fun (k : Nat) => ((ms.getD k []).headD 0).toNat
      let trap := fun (reason k : Nat) => step s = around s (.next (trapEntry s1 1 (BitVec.ofNat 64 (reason * 2 ^ 36 + k * 2 ^ 32 + word k)) s.cur.pc))
      (ms.length = 4 → ((ms.getD 3 []).headD 0).getLsbD 2 = true → trap 7 3)
      ∧ (∀ k, (ms.length = 4 → ((ms.getD 3 []).headD 0).getLsbD 2 = false) → k < ms.length → misfit ((ms.getD k []).headD 0) = true →
          (∀ j, j < k → misfit ((ms.getD j []).headD 0) = false) → trap 6 k)
      ∧ (∀ is, checkConvoy s1 ms = .ok is →
          let vs := is.filterMap Instr.view
          let under := stallUnder s.cur.prods (vs.flatMap (scalarReads s.cur))
          let start := fun (s1 : State) (limit : Option Nat) =>
            { s1 with cur := { s1.cur with wait := .none, cv := { Convoy.idle with multi := true, addr := s.cur.pc, bytes := convoyBytes vs, limit } } }
          (s.cur.schk.getLsbD 0 = true → under ≠ 0 → step s = around s (.next (trapEntry s1 2 (BitVec.ofNat 64 under) s.cur.pc)))
          ∧ (rowConvoy vs = false → (s.cur.schk.getLsbD 0 = true → under = 0) → ∀ t : State, membersRun 0 is (start s1 none) t →
              let left := fun (e : Nat) (u : State) => { u with cur := { u.cur with vstart := BitVec.ofNat 64 e, wait := .none, cv := Convoy.idle } }
              let ran := fun (u : State) => u.cur.wait = .none ∧ u.cur.cv.trap = none
              (ran t → step s = around s (.next (convoyDone s.cur vs t)))
              ∧ (t.cur.wait ≠ .none → t.cur.vstart = s.cur.vstart → step s = around s (.next (keepAsked s1 t)))
              ∧ (t.cur.wait ≠ .none → t.cur.vstart ≠ s.cur.vstart → ∀ u : State, membersRun 0 is (start (keepAsked s1 t) (some (startOf t.cur))) u → ran u →
                  step s = around s (.next (left (startOf t.cur) u)))
              ∧ (∀ (c e : Nat) (x : Word) (u : State), t.cur.wait = .none → t.cur.cv.trap = some (c, x, e) →
                  membersRun 0 is (start (keepFound s1 t) (some e)) u →
                  (ran u → step s = around s (.next (trapEntry (left e (freezeFound t u)) c x s.cur.pc)))
                  ∧ (∀ (c' e' : Nat) (x' : Word) (w : State), u.cur.wait = .none → u.cur.cv.trap = some (c', x', e') →
                      membersRun 0 is (start (keepFound (keepFound s1 t) u) (some e')) w → ran w →
                      step s = around s (.next (trapEntry (left e' (freezeFound u w)) c' x' s.cur.pc)))))))
  ∧ (∀ (vs : List View) (s t : State), t.cur.cv.pops = [] → t.cur.cv.srBase = 0 → t.cur.cv.counts = [] →
      let u := convoyDone s.cur vs t
      u.cur.pc = s.cur.pc + BitVec.ofNat 64 ((vs.map View.bytes).sum) ∧ u.cur.wait = .none ∧ u.cur.cv = Convoy.idle ∧ u.cur.v = t.cur.v ∧ u.cur.k = t.cur.k
        ∧ u.cur.fflags = t.cur.fflags ∧ u.mem = t.mem ∧ u.others = t.others ∧ u.sched = t.sched
        ∧ (t.cur.cv.writes = [] → u.cur.s = t.cur.s) ∧ (∀ d x, t.cur.cv.writes = [(d, x)] → u.cur.s = (t.setReg d x).cur.s)
        ∧ ((∃ v ∈ vs, v.clearsVstart = true) → u.cur.vstart = 0))
  ∧ (∀ row ∈ intRows, ElementwiseMember row) ∧ (∀ row ∈ floatRows, ElementwiseMember row)

/-- R209, R210: taking a trap with INTRAP clear and a handler set saves the cause, the value and the address, sets INTRAP and goes on at TVEC; every other register, and memory, is
    as before. With INTRAP set, or without a handler, the unit ends and its slot is empty. -/
def Sys2Proof.Claims.TrapEntry : Prop :=
  (∀ (s : State) (cause : Nat) (val pc : Word), s.cur.status.getLsbD 2 = false → s.cur.tvec ≠ 0 →
    let t := trapEntry s cause val pc
    t.cur.trapcause = BitVec.ofNat 64 cause ∧ t.cur.trapval = val ∧ t.cur.trappc = pc ∧ t.cur.pc = s.cur.tvec
      ∧ t.cur.status.getLsbD 2 = true ∧ (∀ b, b ≠ 2 → t.cur.status.getLsbD b = s.cur.status.getLsbD b)
      ∧ t.cur.s = s.cur.s ∧ t.cur.v = s.cur.v ∧ t.cur.k = s.cur.k ∧ t.cur.vl = s.cur.vl ∧ t.cur.vtype = s.cur.vtype ∧ t.cur.vstart = s.cur.vstart
      ∧ t.cur.rstate = s.cur.rstate ∧ t.cur.rsidx = s.cur.rsidx ∧ t.cur.fflags = s.cur.fflags ∧ t.cur.rmode = s.cur.rmode ∧ t.cur.tvec = s.cur.tvec
      ∧ t.cur.streams = s.cur.streams ∧ t.cur.obs = s.cur.obs ∧ t.mem = s.mem ∧ t.others = s.others ∧ t.sched = s.sched)
  ∧ (∀ (s : State) (cause : Nat) (val pc : Word), s.curRef.ok = true → (s.cur.status.getLsbD 2 = true ∨ s.cur.tvec = 0) →
      let t := trapEntry s cause val pc
      t.cur.st = .empty ∧ t.curRef = s.curRef)

/-- R197, R301: what an instruction that completes leaves beside its own effect: the pc past its words, no convoy and no wait; VSTART 0 after a chainable vector instruction that is
    no HISTO or SCALEPICK (log 22) and as it was after the others; all else as the effect left it. -/
def Sys2Proof.Claims.CompletionAdvances : Prop :=
  ∀ (i : Instr) (v : View) (s t : State), i.view = some v → i.wellFormed = true → t.cur.cv.pops = [] → t.cur.cv.srBase = 0 →
    t.cur.cv.writes = [] → t.cur.cv.counts = [] →
    let u := completed i s t
    u.cur.pc = s.cur.pc + BitVec.ofNat 64 (4 * (encode i).length) ∧ u.cur.wait = .none ∧ u.cur.cv = Convoy.idle
      ∧ u.cur.s = t.cur.s ∧ u.cur.v = t.cur.v ∧ u.cur.k = t.cur.k ∧ u.cur.fflags = t.cur.fflags ∧ u.cur.status = t.cur.status ∧ u.cur.sbase = t.cur.sbase
      ∧ u.cur.streams = t.cur.streams ∧ u.mem = t.mem ∧ u.others = t.others ∧ u.sched = t.sched ∧ u.cores = t.cores ∧ u.gtime = t.gtime
      ∧ (Check.classOf v.major v.fn ≠ .chainable → u.cur.vstart = t.cur.vstart)
      ∧ (Check.classOf v.major v.fn = .chainable → Check.isRowCompanion v.major v.fn = false → u.cur.vstart = 0)

/-- R195 to R198, R208 to R212, R265, R266, R270: traps, convoys of several, trap entry, completion (logs 36, 41, 69). -/
def Obligations.ConvoyEnds : Prop := Claims.ConvoyTraps ∧ Claims.ConvoyMembers ∧ Claims.TrapEntry ∧ Claims.CompletionAdvances

/-! ### Work as the scheduler moves it: graphs, launches, cancels and places (R61 to R74, R78, R79, R371, R386) -/

/-- A node that may start no more (R64): a predecessor of it is CANCELLED and has not fired. -/
def Sys2Proof.Claims.deadNode (j : Job) (i : Nat) : Prop :=
  ∃ (p : Nat) (x : NodeRun) (n : GraphNode), p < i ∧ j.runs[p]? = some x ∧ x.st = .cancelled ∧ x.fired = false ∧ j.nodes[p]? = some n ∧ i ∈ n.succs

/-- R64: every node of the phase is DONE or CANCELLED and no device launch of it is left. -/
def Sys2Proof.Claims.phaseDone (j : Job) : Prop := j.live = true ∧ j.devPending = 0 ∧ ∀ r ∈ j.runs, r.st = .done ∨ r.st = .cancelled

/-- R61, R63, R64, R89: how a phase goes. It starts with each node's count at NPRED; firing a node lowers the count of each successor once for each edge, and
    once in all; a node ends CANCELLED, or DONE and fired; the nodes are visited in ascending index, each waiting one cancelled where its phase or
    job is or a predecessor bars it, launched when its count is zero, else left; and a phase that is complete is told of, ends its release, and the
    job goes on to its next phase, waits for its contract's next release, or ends. -/
def Sys2Proof.Claims.PhaseSteps : Prop :=
  (∀ (s : State) (id : Nat) (j : Job), s.jobOf id = some j →
      instantiate s id = advance (s.setJob { j with live := true, runs := j.nodes.map (fun n => ({ pending := n.npred, fired := false, st := .waiting } : NodeRun)), phaseCancel := false, devPending := 0 }) id
      ∧ advance s id = (List.range j.runs.length).foldl (fun t i => visitNode t id i) s)
  ∧ (∀ (j : Job) (i : Nat) (r : NodeRun), j.runs[i]? = some r →
      (r.fired = true → fireNode j i = j)
      ∧ (∀ n, r.fired = false → j.nodes[i]? = some n → ∃ l, fireNode j i = { j with runs := l } ∧ l.length = j.runs.length
          ∧ ∀ (k : Nat) (x : NodeRun), j.runs[k]? = some x → l[k]? = some { x with pending := x.pending - n.succs.count k, fired := x.fired || decide (k = i) })
      ∧ endNode j i true = { j with anyCancelled := true, runs := j.runs.set i { r with st := .cancelled } }
      ∧ ∀ x, (fireNode j i).runs[i]? = some x → endNode j i false = { fireNode j i with runs := (fireNode j i).runs.set i { x with st := .done } })
  ∧ (∀ (s : State) (id i : Nat) (j : Job) (r : NodeRun) (n : GraphNode), s.jobOf id = some j → j.runs[i]? = some r → j.nodes[i]? = some n →
      let cancelled := j.phaseCancel = true ∨ j.jobCancel = true ∨ deadNode j i
      (r.st ≠ .waiting → visitNode s id i = s)
      ∧ (r.st = .waiting → cancelled → visitNode s id i = s.setJob (endNode j i true))
      ∧ (r.st = .waiting → ¬ cancelled → r.pending ≠ 0 → visitNode s id i = s)
      ∧ (r.st = .waiting → ¬ cancelled → r.pending = 0 → ∀ s1 out, takeLaunch s (schedAgent j.ctx) j (some i) n.lpb 0xFFFF = (s1, out) →
          s1.jobOf id = some j ∧ visitNode s id i = s1.setJob (match out with
            | .refused _ => endNode j i true
            | .empty _ => endNode j i false
            | .placed _ => { j with runs := j.runs.set i { r with st := .launched } })))
  ∧ (∀ (s : State) (id k : Nat) (j : Job), settleJob s id = settle 64 (advance s id) id
      ∧ (s.jobOf id = some j →
        let next := fun (p : Nat) => { j with live := false, phase := p }
        let s1 := endRelease (if j.notifyPhase then postEvent s 2 0xFFFF j.phase j.tag else s) j
        (¬ phaseDone j → settle (k + 1) s id = s)
        ∧ (phaseDone j → (j.jobCancel = true ∨ j.phases ≤ j.phase + 1) → settle (k + 1) s id = (s1.setJob (next j.phases)).post 0 (.jobComplete id))
        ∧ (phaseDone j → j.jobCancel = false → j.phase + 1 < j.phases → j.contract ≠ none → settle (k + 1) s id = s1.setJob (next (j.phase + 1)))
        ∧ (phaseDone j → j.jobCancel = false → j.phase + 1 < j.phases → j.contract = none →
            settle (k + 1) s id = settle k (instantiate (s1.setJob (next (j.phase + 1))) id) id)))
  ∧ (∀ (s : State) (j : Job), (j.contract = none → endRelease s j = s)
      ∧ ∀ n c, j.contract = some n → s.contractOf n = some c → ∃ t : State, endRelease s j = t ∧ t.contractOf n = some { c with running := none }
          ∧ t.sched.jobs = s.sched.jobs ∧ t.cur = s.cur ∧ t.mem = s.mem ∧ (s.now, Instr.gangPlace) ∈ t.agenda)

/-- R38, R42, R45, R46, R61, R64, R83 to R91: jobs, phases, contracts and their events (logs 19, 32, 50, 68). -/
def Obligations.JobSteps : Prop := Claims.JobEvents ∧ Claims.PhaseSteps

/-- R68, R69, R89: a launch parameter block in rule for a job: the checks that LAUNCH_RANGE makes of its bytes. -/
def Sys2Proof.Claims.blockRule (s : State) (r : List Byte) (j : Job) : Prop :=
  let shape := fieldAt r 0x14 2
  let w := shape % 16
  let cond := shape.testBit 4
  shape < 32 ∧ fieldAt r 0x1D 1 < 8 ∧ (∀ k, 0x2C ≤ k → k < 64 → r.getD k 0 = 0) ∧ 1 ≤ w ∧ w ≤ 8
    ∧ fieldAt r 0x18 4 % 4096 = 0 ∧ fieldAt r 0x18 4 ≤ 0x100000 ∧ fieldAt r 0x1C 1 ≤ 15 ∧ fieldAt r 0x1E 2 = j.contract.getD 0xFFFF
    ∧ (cond = true ↔ fieldAt r 0x20 8 ≠ 0) ∧ fieldAt r 0x10 4 * (w + if cond then 1 else 0) < 2 ^ 20
    ∧ ∀ n c, j.contract = some n → s.contractOf n = some c → shape = c.shape.toNat ∧ fieldAt r 0x10 4 ≤ c.gangs

/-- R68 to R70: a launch as its block gives it, before any of its units has ended. -/
def Sys2Proof.Claims.launchOfBlock (l : Launch) (r : List Byte) (j : Job) (node : Option Nat) : Prop :=
  l.job = j.id ∧ l.node = node ∧ l.contract = j.contract ∧ l.entry = BitVec.ofNat 64 (fieldAt r 0 8)
    ∧ l.param = (if fieldAt r 8 8 = 0 then j.param else BitVec.ofNat 64 (fieldAt r 8 8)) ∧ l.gangs = fieldAt r 0x10 4
    ∧ l.width = fieldAt r 0x14 2 % 16 ∧ l.cond = (fieldAt r 0x14 2).testBit 4 ∧ l.scratch = fieldAt r 0x18 4 ∧ l.prio = fieldAt r 0x1C 1
    ∧ l.persist = (fieldAt r 0x1D 1).testBit 0 ∧ l.canmode = (fieldAt r 0x1D 1).testBit 1 ∧ l.wdscope = (fieldAt r 0x1D 1).testBit 2
    ∧ l.centry = BitVec.ofNat 64 (fieldAt r 0x20 8) ∧ l.wdog = fieldAt r 0x28 4
    ∧ l.finished = 0 ∧ l.doneUnits = [] ∧ l.triggered = [] ∧ l.bad = false ∧ l.fired = false ∧ l.cancelled = false

/-- R68, R69: a block taken for a node or a device launch: refused with 1 (LAUNCH_RANGE) where it is misaligned, cannot be read or breaks a rule,
    with 2 (LAUNCH_LAYOUT) where its layout generation is another; else a launch of no unit is DONE at once, and one of units waits with every gang
    for its place. That a contract's shape is judged before LAYOUT is log 75. -/
def Sys2Proof.Claims.LaunchSteps : Prop :=
  ∀ (s : State) (a : Agent) (j : Job) (node : Option Nat) (lpb : Word) (src : Nat),
    (lpb.toNat % 64 ≠ 0 → takeLaunch s a j node lpb src = (postEvent s 5 src 1 j.tag, .refused 1))
    ∧ (∀ s1 e, lpb.toNat % 64 = 0 → fetchRecord s a lpb 64 = (s1, .error e) → takeLaunch s a j node lpb src = (postEvent s1 5 src 1 j.tag, .refused 1))
    ∧ (∀ s1 r, lpb.toNat % 64 = 0 → fetchRecord s a lpb 64 = (s1, .ok r) →
        let layout := fieldAt r 0x16 2 = s1.pkg.layoutGen.toNat
        let none' := fieldAt r 0x10 4 * (fieldAt r 0x14 2 % 16 + if (fieldAt r 0x14 2).testBit 4 then 1 else 0) = 0
        (¬ blockRule s1 r j → takeLaunch s a j node lpb src = (postEvent s1 5 src 1 j.tag, .refused 1))
        ∧ (blockRule s1 r j → ¬ layout → takeLaunch s a j node lpb src = (postEvent s1 5 src 2 j.tag, .refused 2))
        ∧ (blockRule s1 r j → layout → none' → ∃ (s2 : State) (h : Nat), takeLaunch s a j node lpb src = (s2, .empty h)
            ∧ s2.sched.launches = s1.sched.launches ∧ s2.sched.gangs = s1.sched.gangs ∧ s2.mem = s1.mem)
        ∧ (blockRule s1 r j → layout → ¬ none' → ∃ (s2 : State) (l : Launch), takeLaunch s a j node lpb src = (s2, .placed l.handle)
            ∧ launchOfBlock l r j node ∧ (s1.launchOf s1.sched.nextHandle = none → l.handle = s1.sched.nextHandle)
            ∧ s2.sched.nextHandle = (l.handle + 1) % 2 ^ 32 ∧ s2.sched.launches = s1.sched.launches ++ [l]
            ∧ s2.sched.gangs = s1.sched.gangs ++ (List.range l.gangs).map (fun g => { handle := l.handle, gang := g, fails := 0, due := s1.now, back := [], gone := [] })
            ∧ (s1.now, Instr.gangPlace) ∈ s2.agenda ∧ s2.cur = s1.cur ∧ s2.mem = s1.mem))

/-- R64, R66 to R69, R394: LAUNCH, TRIGGER, and a launch parameter block as it is taken (logs 24, 75). -/
def Obligations.LaunchResults : Prop := Claims.LaunchCalls ∧ Claims.LaunchSteps

/-- R60, R64 to R66, R143, R191, R193, R386: the end of a unit: its slot is empty, its save record is free and its cores are offered again; its launch counts it, with
    whether it ended DONE; a trigger that waited only for it fires; and with the last unit, and no bank command in flight, the launch is gone and its
    node has ended, DONE where no unit ended otherwise and no cancel has reached it. -/
def Sys2Proof.Claims.UnitEnds : Prop :=
  ∀ (s : State) (u : SlotRef) (done normal : Bool), u.ok = true →
    let w := s.strand u
    let h := w.launch.toNat % 2 ^ 32
    let n := w.strandId.toNat % 2 ^ 20
    let t := endUnit s u done normal
    let same := fun (x y : Job) => x = { y with visible := x.visible, hostStores := x.hostStores } ∧ y.visible ≤ x.visible
    ((t.strand u).st = .empty ∧ (s.now, Instr.gangPlace) ∈ t.agenda ∧ ∀ r, w.record = some r → ∀ x ∈ t.sched.records, x.addr ≠ r)
    ∧ (∀ l, s.launchOf h = some l →
        let l1 := { l with finished := l.finished + 1, doneUnits := if done then n :: l.doneUnits else l.doneUnits, bad := l.bad || !done }
        let untold := l.node = none ∨ l.fired = true ∨ l.triggered = [] ∨ ∃ k, k < l.units ∧ k ∉ l1.triggered ∧ k ∉ l1.doneUnits
        (l.finished + 1 < l.units → untold → t.launchOf h = some l1)
        ∧ (∀ i j, l.finished + 1 < l.units → l.node = some i → ¬ untold → s.jobOf l.job = some j → ∃ (s1 : State) (j1 : Job),
            t = settleJob (s1.setJob (fireNode j1 i)) l.job ∧ same j1 j ∧ s1.launchOf h = some { l1 with fired := true })
        ∧ (∀ j, l.units ≤ l.finished + 1 → untold → (∀ c ∈ s.cmds, c.handle = h → c.st = .complete) → s.jobOf l.job = some j → ∃ (s1 : State) (j1 : Job),
            same j1 j ∧ (∀ x ∈ s1.sched.launches, x.handle ≠ h) ∧ t = settleJob (s1.setJob (match l.node with
              | some i => endNode (if l.fired then fireNode j1 i else j1) i (l1.bad || l.cancelled)
              | none => { j1 with devPending := j1.devPending - 1, anyCancelled := j1.anyCancelled || (l1.bad || l.cancelled) })) l.job))

/-- R213, R385 to R387: TRAP, ERET, HALT and YIELD, and what the end of a unit leaves. -/
def Obligations.UnitControl : Prop := Claims.UnitInstructions ∧ Claims.UnitEnds

/-- The resident units of a launch. -/
def Sys2Proof.Claims.residents (s : State) (h : Nat) : List SlotRef :=
  (s.allStrands.filter (fun p => p.2.st != .empty && p.2.launch.toNat % 2 ^ 32 == h)).map (·.1)

/-- R78, R79: a cancel as it reaches a resident unit, which it marks, its wait abandoned with no effect; a second one, or one after the trap, does nothing. -/
def Sys2Proof.Claims.UnitCancels (s : State) (u : SlotRef) (terminate : Bool) : Prop :=
  let w := s.strand u
  let mark := if terminate then CancelSt.terminate else CancelSt.trap
  let again := w.cancel = .terminate ∨ (terminate = false ∧ (w.cancel ≠ .none ∨ w.cancelTrapTaken = true))
  (again → cancelUnitAt s u terminate = s)
  ∧ (¬ again → w.wait.settled = true → cancelUnitAt s u terminate = s.setStrand u { w with cancel := mark })
  ∧ (¬ again → w.st ≠ .waiting → w.wait.settled = false → s.portQueue = [] → (∀ p ∈ s.popQueue, p.2 ≠ u) →
      cancelUnitAt s u terminate = s.setStrand u { w with cancel := mark })
  ∧ (¬ again → w.st = .waiting → w.wait.settled = false → s.portQueue = [] → ∃ t : State, cancelUnitAt s u terminate = t
      ∧ (t.strand u).cancel = mark ∧ (t.strand u).wait = .none ∧ ((t.strand u).st = .running ∨ (t.strand u).st = .ready)
      ∧ (t.strand u).pc = w.pc ∧ (t.strand u).s = w.s ∧ t.popQueue = s.popQueue.filter (fun p => p.2 != u) ∧ t.sched = s.sched ∧ t.mem = s.mem)

/-- R71, R78, R79, R91: a cancel as it reaches a launch: what has ended or been cancelled stays; else its resident units are cancelled, and those that wait for a
    place never start and count CANCELLED. A release that is stopped (`force`) terminates the units whatever cancel has come before (log 81). -/
def Sys2Proof.Claims.LaunchCancels (s : State) (h : Nat) (force : Bool) : Prop :=
  (s.launchOf h = none → cancelLaunch s h force = s)
  ∧ (∀ l, s.launchOf h = some l →
      let s1 := s.setLaunch { l with cancelled := true }
      (l.cancelled = true → force = false → cancelLaunch s h force = s)
      ∧ ((l.cancelled = false ∨ force = true) → (∀ w ∈ s.sched.gangs, w.handle ≠ h) → l.finished < l.units →
          cancelLaunch s h force = (residents s h).foldl (fun t u => cancelUnitAt t u (force || l.canmode)) s1)
      ∧ (∀ i j w, (l.cancelled = false ∨ force = true) → residents s h = [] → s.sched.gangs = [w] → w.handle = h → w.gang = 0 → w.back = [] → w.gone = [] →
          l.gangs = 1 → l.width = 1 → l.cond = false → l.finished = 0 → l.node = some i → l.fired = false → l.triggered = [] →
          (∀ c ∈ s.cmds, c.handle ≠ h) → s.jobOf l.job = some j →
          let s2 := { s with sched := { s.sched with launches := s.sched.launches.filter (fun x => x.handle != h), gangs := [] } }
          cancelLaunch s h force = settleJob (s2.setJob (endNode j i true)) l.job))

/-- R61, R78, R79: a cancel as it reaches the live phase of a job, or a job. -/
def Sys2Proof.Claims.JobCancels (s : State) (id : Nat) : Prop :=
  (s.jobOf id = none → (∀ force, cancelPhase s id force = s) ∧ ((∀ j ∈ s.sched.heldJobs, j.id ≠ id) → cancelJob s id = s)
    ∧ ∀ j, s.sched.heldJobs.find? (fun j => j.id == id) = some j → cancelJob s id =
        { s with sched := { s.sched with jobs := s.sched.jobs ++ [{ j with jobCancel := true, anyCancelled := true }],
                                         heldJobs := s.sched.heldJobs.filter (fun x => x.id != id) } }.post 0 (.jobComplete id))
  ∧ (∀ j, s.jobOf id = some j →
      let handles := (s.sched.launches.filter (fun l => l.job == id)).map (·.handle)
      let s1 := s.setJob { j with phaseCancel := true, anyCancelled := true }
      let s2 := s.setJob { j with jobCancel := true, anyCancelled := true }
      (∀ force, (j.live = false ∨ (j.phaseCancel = true ∧ force = false)) → cancelPhase s id force = s)
      ∧ (∀ force, j.live = true → (j.phaseCancel = false ∨ force = true) →
          cancelPhase s id force = settleJob (handles.foldl (fun t h => cancelLaunch t h force) s1) id)
      ∧ (∀ force, j.live = true → (j.phaseCancel = false ∨ force = true) → handles = [] → j.devPending = 0 → (∀ r ∈ j.runs, r.st ≠ .launched) →
          j.phases ≤ j.phase + 1 → j.notifyPhase = false → j.contract = none → ∃ (t : State) (k : Job), cancelPhase s id force = t ∧ t.jobOf id = some k
            ∧ k.live = false ∧ k.phase = j.phases ∧ k.anyCancelled = true ∧ (s.now, Instr.jobComplete id) ∈ t.agenda
            ∧ ∀ (i : Nat) (r : NodeRun), j.runs[i]? = some r → k.runs[i]? = some (if r.st = .waiting then { r with st := .cancelled } else r))
      ∧ ((j.jobCancel = true ∨ (j.live = false ∧ j.phases ≤ j.phase)) → cancelJob s id = s)
      ∧ (j.jobCancel = false → j.live = true → cancelJob s id = cancelPhase s2 id false)
      ∧ (j.jobCancel = false → j.live = false → j.phase < j.phases → cancelJob s id = s2.post 0 (.jobComplete id)))

/-- R73, R78, R79, R81, R91, R209, R385: what a cancel leaves: of a resident unit, a launch, a phase and a job; of one unit of a launch that is saved, that waits for a place,
    or that has ended; and what a unit that is cancelled does at its next convoy boundary: it takes trap 17 with TRAPVAL 0, or ends. -/
def Sys2Proof.Claims.CancelSteps : Prop :=
  (∀ (s : State) (u : SlotRef) (b : Bool), u.ok = true → UnitCancels s u b) ∧ (∀ (s : State) (h : Nat) (b : Bool), LaunchCancels s h b)
  ∧ (∀ (s : State) (id : Nat), JobCancels s id)
  ∧ (∀ (s : State) (l : Launch) (n : Nat),
      let mine := fun (t : Strand) => t.launch.toNat % 2 ^ 32 == l.handle && t.strandId.toNat % 2 ^ 20 == n
      let resident := s.allStrands.find? (fun p => p.2.st != .empty && mine p.2)
      let saved := s.sched.saved.find? (fun v => mine v.unit)
      (∀ u w, resident = some (u, w) → cancelUnit s l n = (cancelUnitAt s u l.canmode, true))
      ∧ (∀ v, resident = none → saved = some v → l.canmode = true → cancelUnit s l n = (endSaved s v l.handle, true))
      ∧ (∀ v, resident = none → saved = some v → l.canmode = false → v.unit.cancel = .none → v.unit.cancelTrapTaken = false → cancelUnit s l n =
          ({ s with sched := { s.sched with saved := s.sched.saved.map (fun x => if x.record = v.record then { x with unit := { x.unit with cancel := .trap } } else x) } }, true))
      ∧ (∀ v, resident = none → saved = some v → l.canmode = false → (v.unit.cancel ≠ .none ∨ v.unit.cancelTrapTaken = true) → cancelUnit s l n = (s, true))
      ∧ (∀ w, resident = none → saved = none → s.sched.gangs = [w] → w.handle = l.handle → w.back = [] → w.gang = n / l.perGang → n % l.perGang ∉ w.gone →
          w.gone.length + 1 < l.perGang → cancelUnit s l n =
            (countUnit { s with sched := { s.sched with gangs := [{ w with gone := n % l.perGang :: w.gone }] } } l.handle n false, true))
      ∧ (resident = none → saved = none → (∀ w ∈ s.sched.gangs, w.handle ≠ l.handle) → cancelUnit s l n = (s, false)))
  ∧ (∀ s : State, s.pkg.fatal = none → (∀ p ∈ s.agenda.head?, s.now < p.1) → s.cur.st = .running → s.cur.cv.limit = none → s.cur.wait.settled = false →
      (s.cur.cancel = .terminate → step s = around s (.next (endUnit s s.curRef false false)))
      ∧ (s.cur.cancel = .trap → step s = around s (.next (trapEntry { s with cur := { s.cur with cancel := .none, cancelTrapTaken := true } } 17 0 s.cur.pc))))

/-- R78, R79, R395, R397: CANCEL at each level with what it leaves, and HEART (log 81). -/
def Obligations.CancelAndHeart : Prop := Claims.CancelCalls ∧ Claims.CancelSteps

/-! ### Places (R70 to R74, R106, R193) -/

/-- R71, R74: the unit in a slot gives way to a launch: it is best-effort work, and the launch is a contracted release's or has a higher priority. -/
def Sys2Proof.Claims.givesWay (s : State) (u : SlotRef) (l : Launch) : Prop :=
  ∃ m, s.launchOfUnit (s.strand u) = some m ∧ m.contract = none ∧ (l.contract ≠ none ∨ l.prio < m.prio)

/-- R71, R106: a range of a core's scratchpad that lies beside every reservation resident on the core but those of some units. -/
def Sys2Proof.Claims.fitsBeside (s : State) (core base size : Nat) (leaving : SlotRef → Prop) : Prop :=
  base + size ≤ 0x200000 ∧ ∀ p ∈ s.allStrands, p.1.core = core → p.2.st ≠ .empty → p.2.scratchSize ≠ 0 → ¬ leaving p.1 →
    base + size ≤ p.2.scratchBase ∨ p.2.scratchBase + p.2.scratchSize ≤ base

/-- R71: seats on adjacent cores from one up, each with the slot and the base it takes. -/
def Sys2Proof.Claims.seatedFrom (s : State) (l : Launch) (core : Nat) (seats : List Seat) (run : List (Seat × SlotRef × Nat)) : Prop :=
  run.length = seats.length ∧ ∀ i x, seats[i]? = some x → ∃ u b, seatOn s l (core + i) x = some (u, b) ∧ run[i]? = some (x, u, b)

/-- R71: the seats of a gang find no place in a cluster from its core c up. -/
def Sys2Proof.Claims.barredFrom (s : State) (l : Launch) (core : Nat) (seats : List Seat) : Prop := ∀ run, ¬ seatedFrom s l core seats run

/-- R71: a core or conductor that takes a seat of a best-effort gang: no contracted unit on it, its running slot empty or holding a unit that gives way,
    the reservation beside every other: a returning unit's own, or for a new unit the lowest (log 83). R74: a contracted gang's displaces
    only units that give way. -/
def Sys2Proof.Claims.FreeCores : Prop :=
  ∀ (s : State) (l : Launch) (core : Nat) (x : Seat) (u : SlotRef) (b : Nat),
    (core < 128 → l.contract = none → seatOn s l core x = some (u, b) →
      let z : SlotRef := { core, slot := 0 }
      let o : SlotRef := { core, slot := 1 }
      let open_ := (s.strand u).st = .empty ∨ givesWay s u l
      (u = z ∨ u = o) ∧ (∀ v ∈ [z, o], ∀ m, s.launchOfUnit (s.strand v) = some m → m.contract = none)
        ∧ ((s.strand u).st ≠ .running → (s.strand z).st ≠ .running ∧ (s.strand o).st ≠ .running) ∧ open_
        ∧ (∀ v, x.saved = some v → b = v.unit.scratchBase ∧ fitsBeside s core b v.unit.scratchSize (fun _ => False))
        ∧ (x.saved = none → fitsBeside s core b l.scratch (fun _ => False) ∧ ∀ c, fitsBeside s core c l.scratch (fun _ => False) → b ≤ c))
    ∧ (core < 128 → l.contract = none → (s.strand { core, slot := 0 }).st = .empty → (s.strand { core, slot := 1 }).st = .empty →
      (∀ v ∈ [({ core, slot := 0 } : SlotRef), { core, slot := 1 }], ∀ m, s.launchOfUnit (s.strand v) = some m → m.contract = none) → x.saved = none →
      (∃ c, fitsBeside s core c l.scratch (fun _ => False)) → ∃ c, seatOn s l core x = some ({ core, slot := 0 }, c))
    ∧ (core < 128 → l.contract ≠ none → seatOn s l core x = some (u, b) → ((s.strand u).st = .empty ∨ givesWay s u l)
        ∧ fitsBeside s core b (match x.saved with | some v => v.unit.scratchSize | none => l.scratch) (fun v => givesWay s v l))
    ∧ (128 ≤ core → seatOn s l core x = some (u, b) → u = { core, slot := 0 } ∧ b = 0 ∧ ((s.strand u).st = .empty ∨ givesWay s u l))

/-- R70 to R74, R84, R193: the order in which a place is sought: a die's clusters in rotation from the one after its last placement, the lowest first after reset, and of
    them a contracted release's partition alone; in a cluster the lowest core from which the gang's core units find adjacent free cores, and its
    conductor with them (`FreeCores`); no place without a save record for each new unit, or with a unit that may not come back yet. The cluster
    found is the die's last. A new unit starts with R70's state and the lowest free record (log 83). -/
def Sys2Proof.Claims.GangOrder : Prop :=
  FreeCores
  ∧ (∀ (s : State) (l : Launch) (seats : List Seat) (cond : Option Seat) (cluster : Nat),
      (∀ c run tail, c + seats.length ≤ 8 → seatedFrom s l (cluster * 8 + c) seats run → (∀ k, k < c → barredFrom s l (cluster * 8 + k) seats) →
        ((cond = none ∧ tail = []) ∨ ∃ x u b, cond = some x ∧ seatOn s l (128 + cluster) x = some (u, b) ∧ tail = [(x, u, b)]) →
        placeIn s l seats cond cluster = some (run ++ tail))
      ∧ (((∀ c, c + seats.length ≤ 8 → barredFrom s l (cluster * 8 + c) seats) ∨ ∃ x, cond = some x ∧ seatOn s l (128 + cluster) x = none) →
        placeIn s l seats cond cluster = none))
  ∧ (∀ (s : State) (l : Launch) (w : GangWait) (die : Nat),
      let seats := (seatsOf s l w).1
      let cond := (seatsOf s l w).2
      let first := match s.sched.lastCluster[die]? with
        | some (some c) => (c + 1 - 8 * die) % 8
        | _ => 0
      let at_ := fun (i : Nat) => 8 * die + (first + i) % 8
      let may := fun (c : Nat) => ∀ n k, l.contract = some n → s.contractOf n = some k → k.clusters.getLsbD c = true
      let ready := (w.back = [] → l.perGang ≤ (freeRecords s).length + w.gone.length)
        ∧ ∀ x ∈ cond.toList ++ seats, ∀ v, x.saved = some v → recordReady s v = true
      (∀ i p, ready → i < 8 → may (at_ i) → placeIn s l seats cond (at_ i) = some p → (∀ j, j < i → may (at_ j) → placeIn s l seats cond (at_ j) = none) →
        let t := p.foldl (fun s x => seatUnit s l w.gang x) s
        tryDie s l w die = some { t with sched := { t.sched with lastCluster := t.sched.lastCluster.setIfInBounds die (some (at_ i)) } })
      ∧ ((¬ ready ∨ ∀ i, i < 8 → may (at_ i) → placeIn s l seats cond (at_ i) = none) → tryDie s l w die = none)
      ∧ (w.back = [] → seats = ((List.range l.width).filter (fun p => !w.gone.contains p)).map (fun p => { pos := p, saved := none })
          ∧ cond = if l.cond = true ∧ l.width ∉ w.gone then some { pos := l.width, saved := none } else none))
  ∧ (∀ (s : State) (l : Launch) (g pos b rec : Nat) (u : SlotRef) (rest : List Nat) (j : Job), u.ok = true → (s.strand u).st = .empty → victims s l u b l.scratch = [] →
      freeRecords s = rec :: rest → s.jobOf l.job = some j →
      let unit := g * (l.width + if l.cond then 1 else 0) + pos
      ∃ t : State, seatUnit s l g ({ pos, saved := none }, u, b) = t ∧ (t.strand u).st = .running ∧ (t.strand u).record = some rec ∧ (∃ x ∈ t.sched.records, x.addr = rec)
        ∧ (t.strand u).pc = (if u.isConductor then l.centry else l.entry) ∧ (t.strand u).reg 1 = l.param ∧ (t.strand u).reg 2 = BitVec.ofNat 64 j.phase
        ∧ (t.strand u).reg 3 = BitVec.ofNat 64 unit ∧ (t.strand u).reg 31 = (if u.isConductor then 0 else BitVec.ofNat 64 (0x00FD000000000000 + b + l.scratch))
        ∧ (∀ i, i < 32 → i ∉ [1, 2, 3, 31] → (t.strand u).reg i = 0) ∧ (t.strand u).wdog = BitVec.ofNat 64 l.wdog
        ∧ (t.strand u).strandId = BitVec.ofNat 64 (unit + pos * 2 ^ 20) ∧ (t.strand u).launch = BitVec.ofNat 64 (l.handle + j.phase * 2 ^ 32)
        ∧ (t.strand u).gang = BitVec.ofNat 64 (g + l.width * 2 ^ 24 + if l.cond then 2 ^ 28 else 0) ∧ (t.strand u).vl = 0 ∧ (t.strand u).vtype = 0
        ∧ ((t.strand u).status.getLsbD 0 = decide (j.ctx = 0)) ∧ (t.strand u).ctx = j.ctx)

/-- R71 to R74, R80, R81, R128, R132, R214 to R219, R270: gangs, halts, restore, watchdog and refused convoys (logs 14, 32, 55). -/
def Obligations.PlacementSteps : Prop := Claims.GangSteps ∧ Claims.WatchdogSteps ∧ Claims.GangOrder

/-! ### What BCMD judges (R173, R187, R371, R382) -/

/-- R377: table b of a TBUILD, and the room its entries leave (R173). -/
def Sys2Proof.Claims.noReplica (f : TbF) : Prop := (if f.ew then 8192 else 16384) < (f.t.toNat + 1) * 2 ^ ((f.k.toNat + 1) * (f.g.toNat + 1))

/-- R173: bytes of terms that a TBUILD.T takes. -/
def Sys2Proof.Claims.termsOf (f : TbF) : Nat := (f.t.toNat + 1) * (f.g.toNat + 1) * 2 ^ (f.k.toNat + 1) * (if f.aw then 4 else 2)

/-- R371: RANGE at one executed instance in a bank with these result rows, of a command with this many broadcast units. A negative cursor is out of
    range at every instance that runs (log 62). -/
def Sys2Proof.Claims.rangeBad (s : State) (units : Nat) (rows : List Nat) (i : Instr) (x : BluCtx) : Prop :=
  x.ia < 0 ∨ x.bo < 0 ∨ x.j < 0 ∨
  match i with
  | .luacc _ | .luaccS _ => 49152 ≤ x.ia / 64
  | .accput f | .rtree f => (rows.length : Int) ≤ x.j + f.joff.toNat
  | .bldw f => (f.sel = 0 ∧ 49152 ≤ x.ia / 64) ∨ (f.sel = 1 ∧ (units : Int) ≤ x.bo + f.koff.toNat)
  | .bstw f => f.sel = 0 ∧ (49152 ≤ x.ia / 64 ∨ ∀ r ∈ rows, (r / s.activeCount / 16 : Nat) ≠ x.ia / 64)
  | _ => False

/-- R187, R382: the cost of an executed instance, `lu` being that of a LUACC. -/
def Sys2Proof.Claims.instanceCost (lu : Nat) (i : Instr) : Nat :=
  match i with
  | .luacc _ | .luaccS _ => lu
  | .tbuildR f | .tbuildT f => ((f.t.toNat + 1) * 2 ^ ((f.k.toNat + 1) * (f.g.toNat + 1)) + 15) / 16
  | .accput _ => 128
  | .rtree f => if f.level = 0 then 128 else 428
  | .accclr _ => 256
  | .bldw _ | .bstw _ => 2
  | _ => 1

/-- The result object of a descriptor, where it names one in use. -/
def Sys2Proof.Claims.resultObject (s : State) (r : List Byte) : Option Obj :=
  if fieldAt r 0x2C 4 = 0xFFFFFFFF then none else mapGet s.objs (fieldAt r 0x2C 4)

/-- The result rows of each addressed bank. -/
def Sys2Proof.Claims.rowsByBank (s : State) (r : List Byte) : List (Nat × List Nat) :=
  (descBanks r).map (fun b => (b, match resultObject s r with | some o => resultRows s o b | none => []))

/-- R371: the statuses with which BCMD refuses a command, in their order, each with its condition on the descriptor r, the body and the state. -/
def Sys2Proof.Claims.refusals (s : State) (r : List Byte) (body : List Word32) : List (Nat × Prop) :=
  let c := cmdOfDesc r body
  let bclen := fieldAt r 0x28 4
  let nwords := fieldAt r 0x18 1
  let is := fun (w : Word32) (i : Instr) => decodeBlu w = .ok i
  let reserved := fun (k : Nat) => k = 9 ∨ (12 ≤ k ∧ k < 16) ∨ (0x19 ≤ k ∧ k < 0x20) ∨ (0x4A ≤ k ∧ k < 0x50) ∨ (0xB0 ≤ k ∧ k < 0x100)
    ∨ ∃ l, l < 6 ∧ 0x5C + 16 * l ≤ k ∧ k < 0x60 + 16 * l
  let bound := 1100 + commandCost s c (rowsByBank s r)
  [(1, ∀ k, k < 8 → ((s.cur.bankSlots[k]?).bind (·.grant)).isSome = true),
   (2, (∃ k, reserved k ∧ r.getD k 0 ≠ 0) ∨ nwords = 0 ∨ 16 < nwords ∨ fieldAt r 0x10 8 % 4 ≠ 0 ∨ descBanks r = [] ∨ bclen % 64 ≠ 0 ∨ 65536 < bclen
      ∨ (fieldAt r 0x20 8 ≠ 0 ∧ bclen = 0) ∨ fieldAt r 0x20 8 % 64 ≠ 0),
   (3, ∃ w ∈ body, (∀ i, ¬ is w i) ∨ ∃ f, is w (.tbuildT f) ∧ termsOf f ≤ 512 ∧ 512 < 64 * f.wa.toNat + termsOf f),
   (4, ∃ w ∈ body, (∃ f, is w (.tbuildR f) ∧ noReplica f) ∨ ∃ f, is w (.tbuildT f) ∧ (noReplica f ∨ 512 < termsOf f)),
   (5, ∃ off ∈ [0x2C, 0x30, 0x34, 0x38, 0x3C], fieldAt r off 4 ≠ 0xFFFFFFFF ∧ mapGet s.objs (fieldAt r off 4) = none),
   (6, (∃ o, resultObject s r = some o ∧ (o.mode ≠ .lease ∨ o.tile = true ∨ o.base.toNat % 1024 ≠ 0 ∨ o.len % 1024 ≠ 0))
      ∨ (resultObject s r = none ∧ ∃ w ∈ body, (∃ f, is w (.accput f)) ∨ (∃ f, is w (.rtree f)) ∨ ∃ f, is w (.bstw f) ∧ f.sel = 0)),
   (7, ∃ b ∈ descBanks r, s.pkg.chActive.getLsbD (b / 16) = false),
   (8, ∃ b ∈ descBanks r, s.pkg.chFenced.getLsbD (b / 16) = true),
   (9, ∃ p ∈ nestWords c, ∃ i, is p.1 i ∧ ∃ q ∈ rowsByBank s r, rangeBad s (bclen / 64) q.2 i p.2),
   (10, 4000 < bound),
   (11, ∃ k rel, releaseOf s s.cur = some (k, rel) ∧ k.bankbud < rel.bankUsed + bound)]

/-- R371, R187, R382: BCMD's checks are made in this order and the first that fails is the status, with BOUND from the tenth on; none fails in a command that
    is accepted, with the result rows of each addressed bank. The bound counts each executed instance and each change of the open row of the dearest
    bank. -/
def Sys2Proof.Claims.CommandStatuses : Prop :=
  ∀ (s : State) (r : List Byte) (body : List Word32),
    let c := cmdOfDesc r body
    let bound := 1100 + commandCost s c (rowsByBank s r)
    (∀ k st p, (refusals s r body)[k]? = some (st, p) → p → (∀ q ∈ (refusals s r body).take k, ¬ q.2) →
      ∃ rows, judge s r c = (st, if 10 ≤ st then bound else 0, rows))
    ∧ ((∀ q ∈ refusals s r body, ¬ q.2) → judge s r c = (0, bound, rowsByBank s r))
    ∧ commandCost s c (rowsByBank s r) = ((nestWords c).map (fun p => wordCost (luaccCost body) p.1)).sum
        + 50 * ((rowsByBank s r).map (fun p => rowChanges (opensRow s c p.1 p.2) (nestWords c) none 0)).foldl max 0
    ∧ ∀ w i lu, decodeBlu w = .ok i → wordCost lu w = instanceCost lu i

/-- R370 to R372: BCMD refused with the status of the first check that fails, or accepted. -/
def Obligations.CommandIssue : Prop := Claims.CommandCalls ∧ Claims.CommandStatuses
end

