-- ==== Sys2Proof/Laws/Ops.lean ====
section
/-! SUPPORT. What the shared operations of an instruction do: the checks before it, how its effect becomes a step, retiring, trapping. -/

namespace Sys2Proof.Machine

open Sys2Proof

/-- A strand alone in its convoy is in no convoy of several. -/
theorem multi_of_alone {t : Strand} (h : alone t = true) : t.cv.multi = false := by
  have h' : t.cv = { Convoy.idle with hist := t.cv.hist } := by simpa [alone] using h
  rw [h']; rfl

/-- A strand alone in its convoy is at member 0. -/
theorem member_of_alone {t : Strand} (h : alone t = true) : t.cv.member = 0 := by
  have h' : t.cv = { Convoy.idle with hist := t.cv.hist } := by simpa [alone] using h
  rw [h']; rfl

/-- A strand alone in its convoy holds no pops. -/
theorem pops_of_alone {t : Strand} (h : alone t = true) : t.cv.pops = [] := by
  have h' : t.cv = { Convoy.idle with hist := t.cv.hist } := by simpa [alone] using h
  rw [h']; rfl

/-- A strand alone in its convoy has taken no random bits for it. -/
theorem srBase_of_alone {t : Strand} (h : alone t = true) : t.cv.srBase = 0 := by
  have h' : t.cv = { Convoy.idle with hist := t.cv.hist } := by simpa [alone] using h
  rw [h']; rfl

/-- A strand alone in its convoy holds no results for its retirement. -/
theorem writes_of_alone {t : Strand} (h : alone t = true) : t.cv.writes = [] := by
  have h' : t.cv = { Convoy.idle with hist := t.cv.hist } := by simpa [alone] using h
  rw [h']; rfl

/-- A strand alone in its convoy holds no counts for its retirement. -/
theorem counts_of_alone {t : Strand} (h : alone t = true) : t.cv.counts = [] := by
  have h' : t.cv = { Convoy.idle with hist := t.cv.hist } := by simpa [alone] using h
  rw [h']; rfl

/-- A strand alone in its convoy stops at no element. -/
theorem limit_of_alone {t : Strand} (h : alone t = true) : t.cv.limit = none := by
  have h' : t.cv = { Convoy.idle with hist := t.cv.hist } := by simpa [alone] using h
  rw [h']; rfl

/-- An instruction that is ready runs its own effect, with the extended words it has or implies. -/
theorem guarded_of_ready {i : Instr} {v : View} {s : State} (hv : i.view = some v) (h : ready i s = true) (op : View → State → Eff) :
    guarded (some v) s op = finish v s (op (effective s.cur v) s) := by
  simp only [ready, legal, unstalled, hv, Bool.and_eq_true, beq_iff_eq, Bool.or_eq_true, Bool.not_eq_true'] at h
  obtain ⟨⟨ha, hl⟩, hu⟩ := h
  have hm := multi_of_alone ha
  simp only [guarded, hl, hm]
  rcases hu with hu | hu
  · rw [hu]; rfl
  · simp [hu]

/-- A refused instruction takes the ILLEGAL trap. -/
theorem guarded_of_illegal {v : View} {s : State} {r : Nat} (ha : alone s.cur = true)
    (h : illegalReason s.curRef.isConductor s.cur v = some r) (op : View → State → Eff) :
    guarded (some v) s op = .next (trapEntry s Cause.illegal (illegalVal r 0 v.word0) s.cur.pc) := by
  simp [guarded, h, finish, multi_of_alone ha, member_of_alone ha]

/-- An under-stalled instruction takes the STALL_UNDER trap. -/
theorem guarded_of_stall {v : View} {s : State} (ha : alone s.cur = true)
    (h : illegalReason s.curRef.isConductor s.cur v = none) (hb : s.cur.schk.getLsbD 0 = true)
    (hu : stallUnder s.cur.prods (scalarReads s.cur v) ≠ 0) (op : View → State → Eff) :
    guarded (some v) s op = .next (trapEntry s Cause.stallUnder (BitVec.ofNat 64 (stallUnder s.cur.prods (scalarReads s.cur v))) s.cur.pc) := by
  simp [guarded, h, finish, multi_of_alone ha, hb, hu]

/-- An effect that ends well retires the convoy of an instruction alone in it. -/
theorem finish_ok {v : View} {s t : State} (ha : alone s.cur = true) :
    finish v s (.ok t) = .next (retire t (nextPc s v) v.clearsVstart (prodsAfter s.cur v)) := by
  simp [finish, multi_of_alone ha]

/-- A jump retires the convoy and goes to its target. -/
theorem finish_jump {v : View} {s t : State} {x : Word} (ha : alone s.cur = true) :
    finish v s (.jump t x) = .next (retire t x false (prodsAfter s.cur v)) := by
  simp [finish, multi_of_alone ha]

/-- A trap that names no element is taken at the instruction. -/
theorem finish_trap {v : View} {s t : State} {c : Nat} {x : Word} (ha : alone s.cur = true) :
    finish v s (.trap t c x none) = .next (trapEntry t c x s.cur.pc) := by
  simp [finish, multi_of_alone ha]

/-- A trap at an element leaves it in VSTART. -/
theorem finish_trap_elem {v : View} {s t : State} {c e : Nat} {x : Word} (ha : alone s.cur = true) :
    finish v s (.trap t c x (some e)) = .next (trapEntry { t with cur := { t.cur with vstart := BitVec.ofNat 64 e } } c x s.cur.pc) := by
  simp [finish, multi_of_alone ha]

/-- What retiring changes: the strand alone. -/
theorem retire_onlyStrand (s : State) (next : Word) (vec : Bool) (p : List Producer) : onlyStrand s (retire s next vec p) := rfl

/-- The pc after a convoy has retired. -/
@[simp] theorem retire_pc (s : State) (next : Word) (vec : Bool) (p : List Producer) : (retire s next vec p).cur.pc = next := rfl

/-- Retiring leaves memory. -/
@[simp] theorem retire_mem (s : State) (next : Word) (vec : Bool) (p : List Producer) : (retire s next vec p).mem = s.mem := rfl

/-- Without pops or random bits, retiring changes only the pc, VSTART of vector work and the convoy's bookkeeping. -/
theorem retire_of_alone {s : State} (ha : alone s.cur = true) (next : Word) (vec : Bool) (p : List Producer) :
    retire s next vec p = { s with cur := { s.cur with pc := next, vstart := (if vec then 0 else s.cur.vstart), prods := p, cv := .idle,
                                                       wait := .none, captured := [], zeroRead := .none, wdCount := s.now } } := by
  have h1 := pops_of_alone ha
  have h2 := srBase_of_alone ha
  have h3 := writes_of_alone ha
  have h4 := counts_of_alone ha
  simp [retire, commitPops, commitWrites, commitCounts, h1, h2, h3, h4]

/-- A ready instruction whose effect is to write one scalar register completes. -/
theorem guarded_regOp {i : Instr} {v : View} {s : State} (hv : i.view = some v) (h : ready i s = true) (hb : baseTyped v = false)
    (f : Strand → View → Word) :
    guarded (some v) s (regOp f) = .next (completed i s (s.setReg v.d (f s.cur v))) := by
  have ha : alone s.cur = true := by simp [ready] at h; exact h.1.1
  rw [guarded_of_ready hv h]
  simp [effective, hb, regOp, finish_ok ha, completed, viewOf, hv, nextPc]

end Sys2Proof.Machine
end

