-- ==== Sys2Proof/Laws/Access.lean ====
section
/-! SUPPORT. What the shared memory operations do at an aligned address of the own scratchpad, where no stash mapping stands. -/

namespace Sys2Proof.Machine

open Sys2Proof

@[simp] theorem strand_curRef (s : State) : s.strand s.curRef = s.cur := by simp [State.strand]

/-- With no mapping in either slot no unit of the core owns a stash line. -/
theorem stashOwner_none {s : State} {c o : Nat} (h : ∀ slot, slot < 2 → (s.strand { core := c, slot }).stash = []) :
    stashOwner s c o = none := by
  have h0 := h 0 (by omega)
  have h1 := h 1 (by omega)
  simp [stashOwner, stashAt, h0, h1]

/-- R93, R105, R106: the checks of an own-scratchpad access pass. -/
theorem resolve_own {s : State} {k : AccessKind} {va : Word} {n align o : Nat} (h : ownBytes s va n align o)
    (ha : align ∣ 0x00FD000000000000) :
    resolve s s.me k none va n align = (s, .ok { place := .scratch s.modId s.curRef.core o, nc := false, window := false }) := by
  obtain ⟨h1, h2, h3, h4, h5, h6, -⟩ := h
  have ha' : va.toNat % align = 0 := by
    obtain ⟨q, hq⟩ := ha
    rw [h1, hq, Nat.mul_add_mod]; exact h2
  simp only [resolve, ha', ne_eq, not_true_eq_false, if_false]
  rw [if_neg (by omega), if_pos (by omega)]
  have : fixedWindow s s.me none va.toNat n = .ok (.scratch s.modId s.curRef.core o) := by
    simp only [fixedWindow, State.me, strand_curRef, h3]
    rw [if_pos (by simp; omega)]
    have h7 : va.toNat - 0x00FD000000000000 = o := by omega
    simp [h7, h4, h5]
  simp [this]

/-- R28: this module is always reached. -/
theorem unreachable_own (s : State) (c o : Nat) : unreachable s (.scratch s.modId c o) = false := by
  simp [unreachable, Place.module, routeDown]

/-- R106: this module's own scratchpad needs no other module's word. -/
theorem farBarred_own (s : State) (ctx c o n : Nat) : farBarred s ctx (.scratch s.modId c o) n = false := by
  simp [farBarred]

/-- R164: a scratchpad holds no result row. -/
theorem rowWaits_own (s : State) (m c o : Nat) : rowWaits s (.scratch m c o) = false := by simp [rowWaits]

/-- R38: the host holds no line of a scratchpad. -/
theorem hostWait_own (s : State) (m c o n : Nat) : hostWait s (.scratch m c o) n = none := by
  simp [hostWait, heldLines, Place.lines]

/-- A load of the own scratchpad answers the bytes in memory and changes nothing. -/
theorem loadAt_own {s : State} {va : Word} {n align o : Nat} (h : ownBytes s va n align o) (m : Nat) (ord : Ord) :
    loadAt s s.me { place := .scratch s.modId s.curRef.core o, nc := false, window := false } m ord = (s, .val (ownValue s o m)) := by
  obtain ⟨-, -, -, -, -, -, hs⟩ := h
  have hf : stashFill s s.curRef.core o = s := by simp [stashFill, stashOwner_none hs]
  simp [loadAt, windowBars, leaseable, unreachable_own, farBarred_own, rowWaits_own, readHome, hf, poisoned, landing, stashBad, stashOwner_none hs, State.accordAt, ownValue, ownLoc]

/-- A store to the own scratchpad leaves its bytes there and changes nothing else. -/
theorem storeAt_own {s : State} {va : Word} {n align o : Nat} (h : ownBytes s va n align o) (m : Nat) (x ea : Word) (ord : Ord) :
    storeAt s s.me { place := .scratch s.modId s.curRef.core o, nc := false, window := false } m x ea ord = (ownStore s o m x.toNat, .done) := by
  obtain ⟨-, -, -, -, -, -, hs⟩ := h
  have hf : stashFill s s.curRef.core o = s := by simp [stashFill, stashOwner_none hs]
  have hd : ∀ n, stashDirty s s.curRef.core o n = s := fun n => by simp [stashDirty, stashOwner_none hs]
  simp [storeAt, storeGate, storePlain, windowBars, State.accordAt, unreachable_own, farBarred_own, hostWait_own, writeOwnL1, writeHome, hf, hd, addAck, ownStore, ownLoc]

end Sys2Proof.Machine
end

