-- ==== Sys2Proof/Laws/Memory.lean ====
section
/-! SUPPORT. Reading and writing memory: what a byte written reads as, and that every memory operation keeps the canonical form. -/

namespace Sys2Proof.Machine

/-- All keys of a list lie above a number. -/
def Above {α : Type} (i : Nat) (m : List (Nat × α)) : Prop := ∀ c ∈ m, i < c.1

theorem keysRise_cons {α : Type} (c : Nat × α) (m : List (Nat × α)) :
    keysRise (c :: m) = true ↔ Above c.1 m ∧ keysRise m = true := by
  obtain ⟨k, v⟩ := c
  induction m generalizing k v with
  | nil => simp [keysRise, Above]
  | cons d m ih =>
    obtain ⟨k', v'⟩ := d
    have h := ih k' v'
    simp only [keysRise, Bool.and_eq_true, decide_eq_true_eq]
    rw [h]
    simp only [Above, List.mem_cons, forall_eq_or_imp]
    constructor
    · rintro ⟨h1, h2, h3⟩
      exact ⟨⟨h1, fun c hc => Nat.lt_trans h1 (h2 c hc)⟩, h2, h3⟩
    · rintro ⟨⟨h1, _⟩, h2, h3⟩
      exact ⟨h1, h2, h3⟩

theorem above_mapSet {α : Type} {i j : Nat} {v : α} {m : List (Nat × α)} (h : Above j m) (hi : j < i) : Above j (mapSet m i v) := by
  induction m with
  | nil => intro c hc; simp [mapSet] at hc; subst hc; exact hi
  | cons d m ih =>
    have hm : Above j m := fun c hc => h c (List.mem_cons_of_mem _ hc)
    have hd := h d (List.mem_cons_self ..)
    intro c hc
    simp only [mapSet] at hc
    split at hc
    · rcases List.mem_cons.1 hc with rfl | hc
      · exact hd
      · exact ih hm c hc
    · split at hc
      · rcases List.mem_cons.1 hc with rfl | hc
        · exact hi
        · exact hm c hc
      · rcases List.mem_cons.1 hc with rfl | hc
        · exact hi
        · exact h c hc

theorem mem_mapDel {α : Type} {i : Nat} {c : Nat × α} {m : List (Nat × α)} (h : c ∈ mapDel m i) : c ∈ m := by
  induction m with
  | nil => simp [mapDel] at h
  | cons d m ih =>
    simp only [mapDel] at h
    split at h
    · rcases List.mem_cons.1 h with rfl | h
      · exact List.mem_cons_self ..
      · exact List.mem_cons_of_mem _ (ih h)
    · split at h
      · exact List.mem_cons_of_mem _ h
      · exact h

/-- A table with rising keys keeps them when a key is set. -/
theorem keysRise_mapSet {α : Type} (m : List (Nat × α)) (i : Nat) (v : α) (h : keysRise m = true) : keysRise (mapSet m i v) = true := by
  induction m with
  | nil => simp [mapSet, keysRise]
  | cons d m ih =>
    obtain ⟨ha, hr⟩ := (keysRise_cons d m).1 h
    simp only [mapSet]
    split
    · exact (keysRise_cons ..).2 ⟨above_mapSet ha (by assumption), ih hr⟩
    · split
      · rename_i h1
        exact (keysRise_cons ..).2 ⟨by subst h1; exact ha, hr⟩
      · refine (keysRise_cons ..).2 ⟨?_, h⟩
        intro c hc
        rcases List.mem_cons.1 hc with rfl | hc
        · show i < _; omega
        · have := ha c hc; show i < c.1; omega

/-- A table with rising keys keeps them when a key is removed. -/
theorem keysRise_mapDel {α : Type} (m : List (Nat × α)) (i : Nat) (h : keysRise m = true) : keysRise (mapDel m i) = true := by
  induction m with
  | nil => rfl
  | cons d m ih =>
    obtain ⟨ha, hr⟩ := (keysRise_cons d m).1 h
    simp only [mapDel]
    split
    · exact (keysRise_cons ..).2 ⟨fun c hc => ha c (mem_mapDel hc), ih hr⟩
    · split
      · exact hr
      · exact h

theorem mem_mapSet {α : Type} {i : Nat} {v : α} {c : Nat × α} {m : List (Nat × α)} (h : c ∈ mapSet m i v) : c = (i, v) ∨ c ∈ m := by
  induction m with
  | nil => simp [mapSet] at h; exact .inl h
  | cons d m ih =>
    simp only [mapSet] at h
    split at h
    · rcases List.mem_cons.1 h with rfl | h
      · exact .inr (List.mem_cons_self ..)
      · exact (ih h).imp id (List.mem_cons_of_mem _)
    · split at h
      · rcases List.mem_cons.1 h with rfl | h
        · exact .inl rfl
        · exact .inr (List.mem_cons_of_mem _ h)
      · rcases List.mem_cons.1 h with rfl | h
        · exact .inl rfl
        · exact .inr h

/-- A key set reads back; every other key reads as before. -/
theorem mapGet_mapSet {α : Type} (m : List (Nat × α)) (i j : Nat) (v : α) :
    mapGet (mapSet m i v) j = if i = j then some v else mapGet m j := by
  induction m with
  | nil => by_cases h : i = j <;> simp [mapSet, mapGet, h]
  | cons d m ih =>
    obtain ⟨k, w⟩ := d
    simp only [mapSet]
    split
    · rename_i h1
      simp only [mapGet, ih]
      by_cases h2 : k = j
      · have : i ≠ j := by omega
        simp [h2, this]
      · by_cases h3 : k < j <;> simp [h2, h3] <;> omega
    · split
      · rename_i h1 h2
        subst h2
        simp only [mapGet]
        by_cases h3 : k = j <;> simp [h3]
      · rename_i h1 h2
        simp only [mapGet]
        by_cases h3 : i = j
        · simp [h3]
        · by_cases h4 : i < j
          · simp [h3, h4]
          · have h5 : k ≠ j := by omega
            have h6 : ¬ k < j := by omega
            simp [h3, h4, h5, h6]

theorem mapGet_of_above {α : Type} {m : List (Nat × α)} {i : Nat} (h : Above i m) : mapGet m i = none := by
  cases m with
  | nil => rfl
  | cons d m =>
    obtain ⟨k, w⟩ := d
    have h1 : i < k := h (k, w) (List.mem_cons_self ..)
    simp only [mapGet]
    rw [if_neg (by omega), if_neg (by omega)]

/-- A key removed reads as absent; every other key reads as before. -/
theorem mapGet_mapDel {α : Type} (m : List (Nat × α)) (i j : Nat) (h : keysRise m = true) :
    mapGet (mapDel m i) j = if i = j then none else mapGet m j := by
  induction m with
  | nil => simp [mapDel, mapGet]
  | cons d m ih =>
    obtain ⟨k, w⟩ := d
    obtain ⟨ha, hr⟩ := (keysRise_cons _ m).1 h
    simp only [mapDel]
    split
    · rename_i h1
      simp only [mapGet, ih hr]
      by_cases h2 : k = j
      · have : i ≠ j := by omega
        simp [h2, this]
      · by_cases h3 : k < j
        · simp [h2, h3]
        · have : i ≠ j := by omega
          simp [h2, h3, this]
    · split
      · rename_i h1 h2
        subst h2
        by_cases h3 : k = j
        · subst h3; simp [mapGet_of_above ha]
        · simp only [mapGet, h3, if_false]
          by_cases h4 : k < j
          · simp [h4]
          · simp only [h4, if_false]
            refine mapGet_of_above (fun c hc => ?_)
            have : k < c.1 := ha c hc
            omega
      · rename_i h1 h2
        by_cases h3 : i = j
        · subst h3
          simp only [mapGet, if_true]
          rw [if_neg h2, if_neg h1]
        · simp [h3]

/-- A byte stored reads back; every other byte reads as before. -/
theorem read_write (m : List Host.Cell) (a b : Nat) (x : Byte) (h : Memory.wf m = true) :
    Memory.read (Memory.write m a x) b = if a = b then x else Memory.read m b := by
  have hr : keysRise m = true := by simp [Memory.wf] at h; exact h.1
  unfold Memory.read Memory.write
  split
  · rename_i hx
    rw [mapGet_mapDel m a b hr]
    by_cases hab : a = b <;> simp [hab, hx]
  · rw [mapGet_mapSet]
    by_cases hab : a = b <;> simp [hab]

/-- A store keeps the canonical form. -/
theorem write_wf (m : List Host.Cell) (a : Nat) (x : Byte) (h : Memory.wf m = true) : Memory.wf (Memory.write m a x) = true := by
  simp only [Memory.wf, Bool.and_eq_true, List.all_eq_true] at h ⊢
  obtain ⟨hr, hb⟩ := h
  unfold Memory.write
  split
  · exact ⟨keysRise_mapDel m a hr, fun c hc => hb c (mem_mapDel hc)⟩
  · rename_i hx
    refine ⟨keysRise_mapSet m a x hr, fun c hc => ?_⟩
    rcases mem_mapSet hc with rfl | hc
    · simpa using hx
    · exact hb c hc

/-- Stores of several bytes keep the canonical form. -/
theorem writeBytes_wf (bs : List Byte) : ∀ (m : List Host.Cell) (a : Nat), Memory.wf m = true → Memory.wf (Memory.writeBytes m a bs) = true := by
  induction bs with
  | nil => intro m a h; exact h
  | cons b bs ih => intro m a h; exact ih _ _ (write_wf m a b h)

/-- A byte outside those stored reads as before; the k-th byte stored reads back. -/
theorem read_writeBytes (bs : List Byte) : ∀ (m : List Host.Cell) (a b : Nat), Memory.wf m = true →
    Memory.read (Memory.writeBytes m a bs) b = if a ≤ b ∧ b < a + bs.length then (bs[b - a]?).getD 0 else Memory.read m b := by
  induction bs with
  | nil =>
    intro m a b h
    have : ¬ (a ≤ b ∧ b < a + ([] : List Byte).length) := by simp
    rw [if_neg this]; rfl
  | cons x bs ih =>
    intro m a b h
    simp only [Memory.writeBytes, ih _ _ _ (write_wf m a x h), read_write m a b x h, List.length_cons]
    by_cases h1 : a = b
    · subst h1; simp
    · by_cases h2 : a + 1 ≤ b ∧ b < a + 1 + bs.length
      · have h3 : a ≤ b ∧ b < a + (bs.length + 1) := by omega
        have h4 : b - a = (b - (a + 1)) + 1 := by omega
        simp [h2, h3, h4]
      · have h3 : ¬ (a ≤ b ∧ b < a + (bs.length + 1)) := by omega
        rw [if_neg h1, if_neg h2, if_neg h3]

/-- Clearing a span keeps the canonical form. -/
theorem clear_wf (m : List Host.Cell) (lo hi : Nat) (h : Memory.wf m = true) : Memory.wf (Memory.clear m lo hi) = true := by
  simp only [Memory.wf, Bool.and_eq_true, List.all_eq_true] at h ⊢
  obtain ⟨hr, hb⟩ := h
  unfold Memory.clear
  refine ⟨?_, fun c hc => hb c (List.mem_filter.1 hc).1⟩
  clear hb
  induction m with
  | nil => rfl
  | cons d m ih =>
    obtain ⟨ha, hr'⟩ := (keysRise_cons d m).1 hr
    simp only [List.filter_cons]
    split
    · exact (keysRise_cons ..).2 ⟨fun c hc => ha c (List.mem_filter.1 hc).1, ih hr'⟩
    · exact ih hr'

end Sys2Proof.Machine
end

