-- ==== Sys2Proof/Laws/PerInstr.lean ====
section
/-! SUPPORT. For every instruction: its encoding has the length its first word claims (R259), and that word is the one a trap reports (R260, R270). -/

namespace Sys2Proof.Laws.Decoding

open Sys2Proof Sys2Proof.Machine

/-- R259, R260: words that stand for the fields of an instruction: as many as its LEN says, the first one as TRAPVAL gives it. -/
def framed (v : View) (ws : List Word32) : Prop := ws.length = v.words ∧ wordCount (ws.headD 0) = v.words ∧ ws.headD 0 = v.word0

/-- R259, R374: an encoded core instruction is framed by its fields; a word of a bank command is one word, and an event none. -/
def Statement (i : Instr) : Prop :=
  match i.view with
  | some v => framed v (encode i)
  | none => (encode i).length ≤ 1

/-- R259: the words a first word claims, from its LEN. -/
theorem wordCount_append (hi : BitVec 20) (m len : Nat) (w : Hd) (hl : len < 4) :
    wordCount (hi ++ w.bits m len) = if len = 0 then 1 else if len = 3 then 5 else 3 := by
  have : fieldOf (hi ++ w.bits m len) 0 2 = BitVec.ofNat 2 len := by
    ext j hj
    simp only [fieldOf, Hd.bits, BitVec.getElem_extractLsb', BitVec.getLsbD_append]
    simp [hj, show j < 12 by omega]
  rw [wordCount, this]
  obtain rfl | rfl | rfl | rfl : len = 0 ∨ len = 1 ∨ len = 2 ∨ len = 3 := by omega
  all_goals rfl

/-- R-form, base length. -/
theorem ofRF (r : RF) (m n : Nat) (h : Check.isRForm m = true) : framed (r.view m n) (r.enc m n) := by
  refine ⟨rfl, ?_, ?_⟩
  · exact wordCount_append (r.b ++ r.a ++ r.d ++ BitVec.ofNat 5 n) m 0 r.hd (by decide)
  · simp [RF.enc, RF.word, RF.view, View.word0, h, Hd.bits, bit1]

/-- R-form with a literal. -/
theorem ofRLF (r : RLF) (m n : Nat) (h : Check.isRForm m = true) : framed (r.view m n) (r.enc m n) := by
  refine ⟨rfl, ?_, ?_⟩
  · exact wordCount_append (r.r.b ++ r.r.a ++ r.r.d ++ BitVec.ofNat 5 n) m 1 r.r.hd (by decide)
  · simp [RLF.enc, RF.word, RF.view, RLF.view, View.word0, h, Hd.bits, bit1]

/-- Extended length. -/
theorem ofXF (x : XF) (m n : Nat) (h : Check.isRForm m = true) : framed (x.view m n) (x.enc m n) := by
  refine ⟨rfl, ?_, ?_⟩
  · exact wordCount_append (x.r.b ++ x.r.a ++ x.r.d ++ BitVec.ofNat 5 n) m 2 x.r.hd (by decide)
  · simp [XF.enc, RF.word, RF.view, XF.view, View.word0, h, Hd.bits, bit1]

/-- Extended length with or without a literal. -/
theorem ofXLF (x : XLF) (m n : Nat) (h : Check.isRForm m = true) : framed (x.view m n) (x.enc m n) := by
  obtain ⟨x, _ | l⟩ := x
  · exact ofXF x m n h
  refine ⟨rfl, ?_, ?_⟩
  · exact wordCount_append (x.r.b ++ x.r.a ++ x.r.d ++ BitVec.ofNat 5 n) m 3 x.r.hd (by decide)
  · simp [XLF.enc, RF.word, RF.view, XF.view, XLF.view, View.word0, h, Hd.bits, bit1]

/-- The majors of I-form (R260). -/
def isIForm (m : Nat) : Bool :=
  !Check.isRForm m && m != 6 && m != 0x0A && m != 0x12 && !(decide (0x0C ≤ m) && decide (m ≤ 0x11)) && m != 0x16

/-- I-form. -/
theorem ofIF (i : IF) (m : Nat) (h : isIForm m = true) : framed (i.view m) (i.enc m) := by
  simp [isIForm] at h
  obtain ⟨⟨⟨⟨⟨h1, h2⟩, h3⟩, h4⟩, h5⟩, h6⟩ := h
  have h7 : ¬ (12 ≤ m ∧ m ≤ 17) := by omega
  refine ⟨rfl, ?_, ?_⟩
  · exact wordCount_append (i.imm ++ i.a ++ i.d) m 0 i.hd (by decide)
  · simp [IF.enc, IF.word, IF.view, View.word0, Hd.bits, bit1, h1, h2, h3, h4, h6, h7]

/-- I-form with a literal. -/
theorem ofILF (i : ILF) (m : Nat) (h : isIForm m = true) : framed (i.view m) (i.enc m) := by
  simp [isIForm] at h
  obtain ⟨⟨⟨⟨⟨h1, h2⟩, h3⟩, h4⟩, h5⟩, h6⟩ := h
  have h7 : ¬ (12 ≤ m ∧ m ≤ 17) := by omega
  refine ⟨rfl, ?_, ?_⟩
  · exact wordCount_append (i.i.imm ++ i.i.a ++ i.i.d) m 1 i.i.hd (by decide)
  · simp [ILF.enc, IF.word, ILF.view, IF.view, View.word0, Hd.bits, bit1, h1, h2, h3, h4, h6, h7]

/-- Shifts by an amount. -/
theorem ofSF (i : SF) (n : Nat) : framed (i.view n) (i.enc n) := by
  refine ⟨rfl, ?_, ?_⟩
  · exact wordCount_append ((0 : BitVec 2) ++ BitVec.ofNat 2 n ++ i.amt ++ i.a ++ i.d) 6 0 i.hd (by decide)
  · simp [SF.enc, SF.word, SF.view, View.word0, Hd.bits, bit1, Check.isRForm]

/-- B-form. -/
theorem ofBF (w : BF) (m : Nat) (h : (!Check.isRForm m && (decide (0x0C ≤ m) && decide (m ≤ 0x11) || m == 0x16)) = true) :
    framed (w.view m) (w.enc m) := by
  simp at h
  obtain ⟨h1, h2⟩ := h
  refine ⟨rfl, ?_, ?_⟩
  · exact wordCount_append (w.off ++ w.b ++ w.a) m 0 w.hd (by decide)
  · have h3 : m ≠ 6 := by omega
    have h4 : m ≠ 10 := by omega
    have h5 : m ≠ 18 := by omega
    simp [BF.enc, BF.word, BF.view, View.word0, Hd.bits, bit1, h1, h2, h3, h4, h5]

/-- J-form. -/
theorem ofJF (j : JF) (m : Nat) (h : m = 0x0A ∨ m = 0x12) : framed (j.view m) (j.enc m) := by
  refine ⟨rfl, ?_, ?_⟩
  · exact wordCount_append (j.off ++ j.d) m 0 j.hd (by decide)
  · rcases h with rfl | rfl <;> simp [JF.enc, JF.word, JF.view, View.word0, Hd.bits, bit1, Check.isRForm]

/-- J-form with a literal. -/
theorem ofJLF (j : JLF) (m : Nat) (h : m = 0x0A ∨ m = 0x12) : framed (j.view m) (j.enc m) := by
  refine ⟨rfl, ?_, ?_⟩
  · exact wordCount_append (j.j.off ++ j.j.d) m 1 j.j.hd (by decide)
  · rcases h with rfl | rfl <;> simp [JLF.enc, JF.word, JLF.view, JF.view, View.word0, Hd.bits, bit1, Check.isRForm]

theorem reset : Statement (.reset) := Nat.zero_le 1
theorem bootStageDone (ok : Bool) (cxl : Bool) : Statement (.bootStageDone ok cxl) := Nat.zero_le 1
theorem domainWrite (v : Word) (peers : List (Option PeerInfo)) : Statement (.domainWrite v peers) := Nat.zero_le 1
theorem domainWaitTimeout (peers : List (Option PeerInfo)) : Statement (.domainWaitTimeout peers) := Nat.zero_le 1
theorem lomuxPortDown (mod port : Nat) : Statement (.lomuxPortDown mod port) := Nat.zero_le 1
theorem routeError (u : SlotRef) (va : Word) : Statement (.routeError u va) := Nat.zero_le 1
theorem linkLevelRetry (port : Nat) : Statement (.linkLevelRetry port) := Nat.zero_le 1
theorem refresh (found : Patrol) : Statement (.refresh found) := Nat.zero_le 1
theorem thermalSample (tlogic tdram : Byte) : Statement (.thermalSample tlogic tdram) := Nat.zero_le 1
theorem fwAssert : Statement (.fwAssert) := Nat.zero_le 1
theorem internalUe : Statement (.internalUe) := Nat.zero_le 1
theorem dieLinkFailure : Statement (.dieLinkFailure) := Nat.zero_le 1
theorem enq (whole : Bool) (data : BitVec 128) : Statement (.enq whole data) := Nat.zero_le 1
theorem openWindow (v : Word) : Statement (.openWindow v) := Nat.zero_le 1
theorem reattach (v : Word) : Statement (.reattach v) := Nat.zero_le 1
theorem hostAckDseq (v : Word) : Statement (.hostAckDseq v) := Nat.zero_le 1
theorem msixModerationExpiry : Statement (.msixModerationExpiry) := Nat.zero_le 1
theorem registerWrite (off : Nat) (v : Word) : Statement (.registerWrite off v) := Nat.zero_le 1
theorem clearOnRead (off : Nat) : Statement (.clearOnRead off) := Nat.zero_le 1
theorem reconcileCount (slot : Nat) (cmd : Word) : Statement (.reconcileCount slot cmd) := Nat.zero_le 1
theorem reconcileBlend (slot : Nat) (cmd : Word) : Statement (.reconcileBlend slot cmd) := Nat.zero_le 1
theorem reconcileRead (slot : Nat) (cmd : Word) : Statement (.reconcileRead slot cmd) := Nat.zero_le 1
theorem layoutChange (peers : List (Option PeerInfo)) : Statement (.layoutChange peers) := Nat.zero_le 1
theorem fwBegin : Statement (.fwBegin) := Nat.zero_le 1
theorem fwChunk : Statement (.fwChunk) := Nat.zero_le 1
theorem fwCommit : Statement (.fwCommit) := Nat.zero_le 1
theorem attest : Statement (.attest) := Nat.zero_le 1
theorem attestRead : Statement (.attestRead) := Nat.zero_le 1
theorem certRead : Statement (.certRead) := Nat.zero_le 1
theorem dumpNow : Statement (.dumpNow) := Nat.zero_le 1
theorem dumpRead : Statement (.dumpRead) := Nat.zero_le 1
theorem cxlMemRead (pa n : Nat) : Statement (.cxlMemRead pa n) := Nat.zero_le 1
theorem memwr (pa : Nat) (data : List Byte) : Statement (.memwr pa data) := Nat.zero_le 1
theorem memwrptl (pa : Nat) (data : List (Option Byte)) : Statement (.memwrptl pa data) := Nat.zero_le 1
theorem bar4Read (pa n : Nat) : Statement (.bar4Read pa n) := Nat.zero_le 1
theorem bar4Write (pa : Nat) (data : List (Option Byte)) : Statement (.bar4Write pa data) := Nat.zero_le 1
theorem snpinv (ha : Nat) : Statement (.snpinv ha) := Nat.zero_le 1
theorem snpdata (ha : Nat) : Statement (.snpdata ha) := Nat.zero_le 1
theorem snpcur (ha : Nat) : Statement (.snpcur ha) := Nat.zero_le 1
theorem birsp (pa : Nat) (data : List Byte) : Statement (.birsp pa data) := Nat.zero_le 1
theorem hostLineResponse (ha : Nat) (exclusive : Bool) (data : List Byte) : Statement (.hostLineResponse ha exclusive data) := Nat.zero_le 1
theorem hostReadCompletion (ha : Nat) (data : List Byte) : Statement (.hostReadCompletion ha data) := Nat.zero_le 1
theorem atomicopCompletion (ha : Nat) (data : List Byte) : Statement (.atomicopCompletion ha data) := Nat.zero_le 1
theorem zeroLengthReadCompletion (u : SlotRef) : Statement (.zeroLengthReadCompletion u) := Nat.zero_le 1
theorem homeRead (core pa : Nat) : Statement (.homeRead core pa) := Nat.zero_le 1
theorem homeWrite (core pa : Nat) (data : List Byte) : Statement (.homeWrite core pa data) := Nat.zero_le 1
theorem writeAck (u : SlotRef) : Statement (.writeAck u) := Nat.zero_le 1
theorem leaseExpiry (obj : Nat) : Statement (.leaseExpiry obj) := Nat.zero_le 1
theorem homeAmo (u : Option SlotRef) (f : AmoFn) (pa n : Nat) (cmp y : BitVec 128) : Statement (.homeAmo u f pa n cmp y) := Nat.zero_le 1
theorem accordStore (u : SlotRef) (pa : Nat) (v : Word) : Statement (.accordStore u pa v) := Nat.zero_le 1
theorem accordBlend (u : SlotRef) (pa : Nat) (op : BitVec 4) (cond : Bool) (v : Word) : Statement (.accordBlend u pa op cond v) := Nat.zero_le 1
theorem scratchpadPortAccess (core off n : Nat) (store : Option Word) : Statement (.scratchpadPortAccess core off n store) := Nat.zero_le 1
theorem feDeadline (u : SlotRef) : Statement (.feDeadline u) := Nat.zero_le 1
theorem stashLineFill (core off : Nat) : Statement (.stashLineFill core off) := Nat.zero_le 1
theorem pageWalk (cluster ctx : Nat) (sup : Bool) (kind : AccessKind) (va : Word) : Statement (.pageWalk cluster ctx sup kind va) := Nat.zero_le 1
theorem streamPrefetch (u : SlotRef) (q n : Nat) : Statement (.streamPrefetch u q n) := Nat.zero_le 1
theorem jobPop : Statement (.jobPop) := Nat.zero_le 1
theorem gangPlace : Statement (.gangPlace) := Nat.zero_le 1
theorem placementBackoffExpiry (handle gang : Nat) : Statement (.placementBackoffExpiry handle gang) := Nat.zero_le 1
theorem strandHalt (u : SlotRef) (progress : Option Nat) : Statement (.strandHalt u progress) := Nat.zero_le 1
theorem writeOutComplete (u : SlotRef) : Statement (.writeOutComplete u) := Nat.zero_le 1
theorem contextRestore (sr : Nat) (u : SlotRef) : Statement (.contextRestore sr u) := Nat.zero_le 1
theorem tileWriteback (core tile : Nat) : Statement (.tileWriteback core tile) := Nat.zero_le 1
theorem jobComplete (job : Nat) : Statement (.jobComplete job) := Nat.zero_le 1
theorem contractRelease (id : Nat) : Statement (.contractRelease id) := Nat.zero_le 1
theorem budgetOverrun (id : Nat) : Statement (.budgetOverrun id) := Nat.zero_le 1
theorem watchdogExpiry (u : SlotRef) : Statement (.watchdogExpiry u) := Nat.zero_le 1
theorem ctadmitAdmit (va : Word) : Statement (.ctadmitAdmit va) := Nat.zero_le 1
theorem ctadmitWithdraw (va : Word) : Statement (.ctadmitWithdraw va) := Nat.zero_le 1
theorem bankCommandStart (grant : Nat) : Statement (.bankCommandStart grant) := Nat.zero_le 1
theorem tableBuildEnd (bank : Nat) : Statement (.tableBuildEnd bank) := Nat.zero_le 1
theorem rtreeRootWrite (grant n : Nat) : Statement (.rtreeRootWrite grant n) := Nat.zero_le 1
theorem bankCommandComplete (grant : Nat) : Statement (.bankCommandComplete grant) := Nat.zero_le 1
theorem copySectorTranslated (core copy : Nat) : Statement (.copySectorTranslated core copy) := Nat.zero_le 1
theorem copySectorComplete (core copy : Nat) : Statement (.copySectorComplete core copy) := Nat.zero_le 1
theorem collectiveArrival (p : Participant) (kind : Nat) (desc : Word) : Statement (.collectiveArrival p kind desc) := Nat.zero_le 1
theorem collectiveComplete (rend : Nat) : Statement (.collectiveComplete rend) := Nat.zero_le 1
theorem add (r : RF) : Statement (.add r) := ofRF r 0x00 0 rfl
theorem sub (r : RF) : Statement (.sub r) := ofRF r 0x00 1 rfl
theorem and (r : RF) : Statement (.and r) := ofRF r 0x00 2 rfl
theorem or (r : RF) : Statement (.or r) := ofRF r 0x00 3 rfl
theorem xor (r : RF) : Statement (.xor r) := ofRF r 0x00 4 rfl
theorem andn (r : RF) : Statement (.andn r) := ofRF r 0x00 5 rfl
theorem sll (r : RF) : Statement (.sll r) := ofRF r 0x00 6 rfl
theorem srl (r : RF) : Statement (.srl r) := ofRF r 0x00 7 rfl
theorem sra (r : RF) : Statement (.sra r) := ofRF r 0x00 8 rfl
theorem ror (r : RF) : Statement (.ror r) := ofRF r 0x00 9 rfl
theorem slt (r : RF) : Statement (.slt r) := ofRF r 0x00 10 rfl
theorem sltu (r : RF) : Statement (.sltu r) := ofRF r 0x00 11 rfl
theorem min (r : RF) : Statement (.min r) := ofRF r 0x00 12 rfl
theorem max (r : RF) : Statement (.max r) := ofRF r 0x00 13 rfl
theorem minu (r : RF) : Statement (.minu r) := ofRF r 0x00 14 rfl
theorem maxu (r : RF) : Statement (.maxu r) := ofRF r 0x00 15 rfl
theorem mul (r : RF) : Statement (.mul r) := ofRF r 0x00 16 rfl
theorem mulh (r : RF) : Statement (.mulh r) := ofRF r 0x00 17 rfl
theorem mulhu (r : RF) : Statement (.mulhu r) := ofRF r 0x00 18 rfl
theorem div (r : RF) : Statement (.div r) := ofRF r 0x00 19 rfl
theorem divu (r : RF) : Statement (.divu r) := ofRF r 0x00 20 rfl
theorem rem (r : RF) : Statement (.rem r) := ofRF r 0x00 21 rfl
theorem remu (r : RF) : Statement (.remu r) := ofRF r 0x00 22 rfl
theorem clz (r : RF) : Statement (.clz r) := ofRF r 0x00 23 rfl
theorem ctz (r : RF) : Statement (.ctz r) := ofRF r 0x00 24 rfl
theorem popc (r : RF) : Statement (.popc r) := ofRF r 0x00 25 rfl
theorem brev (r : RF) : Statement (.brev r) := ofRF r 0x00 26 rfl
theorem bswap (r : RF) : Statement (.bswap r) := ofRF r 0x00 27 rfl
theorem clmul (r : RF) : Statement (.clmul r) := ofRF r 0x00 28 rfl
theorem clmulh (r : RF) : Statement (.clmulh r) := ofRF r 0x00 29 rfl
theorem sextB (r : RF) : Statement (.sextB r) := ofRF r 0x01 0 rfl
theorem sextH (r : RF) : Statement (.sextH r) := ofRF r 0x01 1 rfl
theorem sextW (r : RF) : Statement (.sextW r) := ofRF r 0x01 2 rfl
theorem zextB (r : RF) : Statement (.zextB r) := ofRF r 0x01 3 rfl
theorem zextH (r : RF) : Statement (.zextH r) := ofRF r 0x01 4 rfl
theorem zextW (r : RF) : Statement (.zextW r) := ofRF r 0x01 5 rfl
theorem extr (r : RF) : Statement (.extr r) := ofRF r 0x01 6 rfl
theorem insr (r : RF) : Statement (.insr r) := ofRF r 0x01 7 rfl
theorem csel (r : RF) : Statement (.csel r) := ofRF r 0x01 8 rfl
theorem addi (i : IF) : Statement (.addi i) := ofIF i 0x02 rfl
theorem addiL (i : ILF) : Statement (.addiL i) := ofILF i 0x02 rfl
theorem andi (i : IF) : Statement (.andi i) := ofIF i 0x03 rfl
theorem andiL (i : ILF) : Statement (.andiL i) := ofILF i 0x03 rfl
theorem ori (i : IF) : Statement (.ori i) := ofIF i 0x04 rfl
theorem oriL (i : ILF) : Statement (.oriL i) := ofILF i 0x04 rfl
theorem xori (i : IF) : Statement (.xori i) := ofIF i 0x05 rfl
theorem xoriL (i : ILF) : Statement (.xoriL i) := ofILF i 0x05 rfl
theorem slli (i : SF) : Statement (.slli i) := ofSF i 0
theorem srli (i : SF) : Statement (.srli i) := ofSF i 1
theorem srai (i : SF) : Statement (.srai i) := ofSF i 2
theorem rori (i : SF) : Statement (.rori i) := ofSF i 3
theorem slti (i : IF) : Statement (.slti i) := ofIF i 0x07 rfl
theorem sltiL (i : ILF) : Statement (.sltiL i) := ofILF i 0x07 rfl
theorem sltiu (i : IF) : Statement (.sltiu i) := ofIF i 0x08 rfl
theorem sltiuL (i : ILF) : Statement (.sltiuL i) := ofILF i 0x08 rfl
theorem li (i : IF) : Statement (.li i) := ofIF i 0x09 rfl
theorem liL (i : ILF) : Statement (.liL i) := ofILF i 0x09 rfl
theorem lpc (j : JF) : Statement (.lpc j) := ofJF j 0x0a (by decide)
theorem lpcL (j : JLF) : Statement (.lpcL j) := ofJLF j 0x0a (by decide)
theorem beq (b : BF) : Statement (.beq b) := ofBF b 0x0c rfl
theorem bne (b : BF) : Statement (.bne b) := ofBF b 0x0d rfl
theorem blt (b : BF) : Statement (.blt b) := ofBF b 0x0e rfl
theorem bge (b : BF) : Statement (.bge b) := ofBF b 0x0f rfl
theorem bltu (b : BF) : Statement (.bltu b) := ofBF b 0x10 rfl
theorem bgeu (b : BF) : Statement (.bgeu b) := ofBF b 0x11 rfl
theorem jal (j : JF) : Statement (.jal j) := ofJF j 0x12 (by decide)
theorem jalr (i : IF) : Statement (.jalr i) := ofIF i 0x13 rfl
theorem ldB (r : RF) : Statement (.ldB r) := ofRF r 0x14 0 rfl
theorem ldBX (x : XF) : Statement (.ldBX x) := ofXF x 0x14 0 rfl
theorem ldH (r : RF) : Statement (.ldH r) := ofRF r 0x14 1 rfl
theorem ldHX (x : XF) : Statement (.ldHX x) := ofXF x 0x14 1 rfl
theorem ldW (r : RF) : Statement (.ldW r) := ofRF r 0x14 2 rfl
theorem ldWX (x : XF) : Statement (.ldWX x) := ofXF x 0x14 2 rfl
theorem ldD (r : RF) : Statement (.ldD r) := ofRF r 0x14 3 rfl
theorem ldDX (x : XF) : Statement (.ldDX x) := ofXF x 0x14 3 rfl
theorem lduB (r : RF) : Statement (.lduB r) := ofRF r 0x14 4 rfl
theorem lduBX (x : XF) : Statement (.lduBX x) := ofXF x 0x14 4 rfl
theorem lduH (r : RF) : Statement (.lduH r) := ofRF r 0x14 5 rfl
theorem lduHX (x : XF) : Statement (.lduHX x) := ofXF x 0x14 5 rfl
theorem lduW (r : RF) : Statement (.lduW r) := ofRF r 0x14 6 rfl
theorem lduWX (x : XF) : Statement (.lduWX x) := ofXF x 0x14 6 rfl
theorem stB (r : RF) : Statement (.stB r) := ofRF r 0x14 7 rfl
theorem stBX (x : XF) : Statement (.stBX x) := ofXF x 0x14 7 rfl
theorem stH (r : RF) : Statement (.stH r) := ofRF r 0x14 8 rfl
theorem stHX (x : XF) : Statement (.stHX x) := ofXF x 0x14 8 rfl
theorem stW (r : RF) : Statement (.stW r) := ofRF r 0x14 9 rfl
theorem stWX (x : XF) : Statement (.stWX x) := ofXF x 0x14 9 rfl
theorem stD (r : RF) : Statement (.stD r) := ofRF r 0x14 10 rfl
theorem stDX (x : XF) : Statement (.stDX x) := ofXF x 0x14 10 rfl
theorem lddI (i : IF) : Statement (.lddI i) := ofIF i 0x15 rfl
theorem stdI (b : BF) : Statement (.stdI b) := ofBF b 0x16 rfl
theorem amoadd (r : RF) : Statement (.amoadd r) := ofRF r 0x17 0 rfl
theorem amoaddX (x : XF) : Statement (.amoaddX x) := ofXF x 0x17 0 rfl
theorem amoand (r : RF) : Statement (.amoand r) := ofRF r 0x17 1 rfl
theorem amoandX (x : XF) : Statement (.amoandX x) := ofXF x 0x17 1 rfl
theorem amoor (r : RF) : Statement (.amoor r) := ofRF r 0x17 2 rfl
theorem amoorX (x : XF) : Statement (.amoorX x) := ofXF x 0x17 2 rfl
theorem amoxor (r : RF) : Statement (.amoxor r) := ofRF r 0x17 3 rfl
theorem amoxorX (x : XF) : Statement (.amoxorX x) := ofXF x 0x17 3 rfl
theorem amomin (r : RF) : Statement (.amomin r) := ofRF r 0x17 4 rfl
theorem amominX (x : XF) : Statement (.amominX x) := ofXF x 0x17 4 rfl
theorem amomax (r : RF) : Statement (.amomax r) := ofRF r 0x17 5 rfl
theorem amomaxX (x : XF) : Statement (.amomaxX x) := ofXF x 0x17 5 rfl
theorem amominu (r : RF) : Statement (.amominu r) := ofRF r 0x17 6 rfl
theorem amominuX (x : XF) : Statement (.amominuX x) := ofXF x 0x17 6 rfl
theorem amomaxu (r : RF) : Statement (.amomaxu r) := ofRF r 0x17 7 rfl
theorem amomaxuX (x : XF) : Statement (.amomaxuX x) := ofXF x 0x17 7 rfl
theorem amoswap (r : RF) : Statement (.amoswap r) := ofRF r 0x17 8 rfl
theorem amoswapX (x : XF) : Statement (.amoswapX x) := ofXF x 0x17 8 rfl
theorem cas (r : RF) : Statement (.cas r) := ofRF r 0x17 9 rfl
theorem casX (x : XF) : Statement (.casX x) := ofXF x 0x17 9 rfl
theorem casQ (r : RF) : Statement (.casQ r) := ofRF r 0x17 10 rfl
theorem casQX (x : XF) : Statement (.casQX x) := ofXF x 0x17 10 rfl
theorem ldF (r : RF) : Statement (.ldF r) := ofRF r 0x18 0 rfl
theorem ldFX (x : XF) : Statement (.ldFX x) := ofXF x 0x18 0 rfl
theorem ldFe (r : RF) : Statement (.ldFe r) := ofRF r 0x18 1 rfl
theorem ldFeX (x : XF) : Statement (.ldFeX x) := ofXF x 0x18 1 rfl
theorem stE (r : RF) : Statement (.stE r) := ofRF r 0x18 2 rfl
theorem stEX (x : XF) : Statement (.stEX x) := ofXF x 0x18 2 rfl
theorem stF (r : RF) : Statement (.stF r) := ofRF r 0x18 3 rfl
theorem stFX (x : XF) : Statement (.stFX x) := ofXF x 0x18 3 rfl
theorem feset (r : RF) : Statement (.feset r) := ofRF r 0x18 4 rfl
theorem fesetX (x : XF) : Statement (.fesetX x) := ofXF x 0x18 4 rfl
theorem feclr (r : RF) : Statement (.feclr r) := ofRF r 0x18 5 rfl
theorem feclrX (x : XF) : Statement (.feclrX x) := ofXF x 0x18 5 rfl
theorem fence (r : RF) : Statement (.fence r) := ofRF r 0x19 0 rfl
theorem fenceX (x : XF) : Statement (.fenceX x) := ofXF x 0x19 0 rfl
theorem waitg (r : RF) : Statement (.waitg r) := ofRF r 0x19 1 rfl
theorem waitgX (x : XF) : Statement (.waitgX x) := ofXF x 0x19 1 rfl
theorem syncw (r : RF) : Statement (.syncw r) := ofRF r 0x19 2 rfl
theorem syncwX (x : XF) : Statement (.syncwX x) := ofXF x 0x19 2 rfl
theorem blend (r : RF) : Statement (.blend r) := ofRF r 0x1a 0 rfl
theorem blendX (x : XF) : Statement (.blendX x) := ofXF x 0x1a 0 rfl
theorem blendC (r : RF) : Statement (.blendC r) := ofRF r 0x1a 1 rfl
theorem blendCX (x : XF) : Statement (.blendCX x) := ofXF x 0x1a 1 rfl
theorem ldcA (r : RF) : Statement (.ldcA r) := ofRF r 0x1a 2 rfl
theorem ldcAX (x : XF) : Statement (.ldcAX x) := ofXF x 0x1a 2 rfl
theorem obsclr (r : RF) : Statement (.obsclr r) := ofRF r 0x1a 3 rfl
theorem obsclrX (x : XF) : Statement (.obsclrX x) := ofXF x 0x1a 3 rfl
theorem vld (r : RF) : Statement (.vld r) := ofRF r 0x20 0 rfl
theorem vldX (x : XF) : Statement (.vldX x) := ofXF x 0x20 0 rfl
theorem vlds (r : RF) : Statement (.vlds r) := ofRF r 0x20 1 rfl
theorem vldsX (x : XF) : Statement (.vldsX x) := ofXF x 0x20 1 rfl
theorem vldx (r : RF) : Statement (.vldx r) := ofRF r 0x20 2 rfl
theorem vldxX (x : XF) : Statement (.vldxX x) := ofXF x 0x20 2 rfl
theorem vldFf (r : RF) : Statement (.vldFf r) := ofRF r 0x20 3 rfl
theorem vldFfX (x : XF) : Statement (.vldFfX x) := ofXF x 0x20 3 rfl
theorem vst (r : RF) : Statement (.vst r) := ofRF r 0x20 4 rfl
theorem vstX (x : XF) : Statement (.vstX x) := ofXF x 0x20 4 rfl
theorem vsts (r : RF) : Statement (.vsts r) := ofRF r 0x20 5 rfl
theorem vstsX (x : XF) : Statement (.vstsX x) := ofXF x 0x20 5 rfl
theorem vstx (r : RF) : Statement (.vstx r) := ofRF r 0x20 6 rfl
theorem vstxX (x : XF) : Statement (.vstxX x) := ofXF x 0x20 6 rfl
theorem vlda (r : RF) : Statement (.vlda r) := ofRF r 0x20 7 rfl
theorem vldaX (x : XF) : Statement (.vldaX x) := ofXF x 0x20 7 rfl
theorem vldsA (r : RF) : Statement (.vldsA r) := ofRF r 0x20 8 rfl
theorem vldsAX (x : XF) : Statement (.vldsAX x) := ofXF x 0x20 8 rfl
theorem vamoadd (r : RF) : Statement (.vamoadd r) := ofRF r 0x21 0 rfl
theorem vamoaddX (x : XF) : Statement (.vamoaddX x) := ofXF x 0x21 0 rfl
theorem vamoand (r : RF) : Statement (.vamoand r) := ofRF r 0x21 1 rfl
theorem vamoandX (x : XF) : Statement (.vamoandX x) := ofXF x 0x21 1 rfl
theorem vamoor (r : RF) : Statement (.vamoor r) := ofRF r 0x21 2 rfl
theorem vamoorX (x : XF) : Statement (.vamoorX x) := ofXF x 0x21 2 rfl
theorem vamoxor (r : RF) : Statement (.vamoxor r) := ofRF r 0x21 3 rfl
theorem vamoxorX (x : XF) : Statement (.vamoxorX x) := ofXF x 0x21 3 rfl
theorem vamomin (r : RF) : Statement (.vamomin r) := ofRF r 0x21 4 rfl
theorem vamominX (x : XF) : Statement (.vamominX x) := ofXF x 0x21 4 rfl
theorem vamomax (r : RF) : Statement (.vamomax r) := ofRF r 0x21 5 rfl
theorem vamomaxX (x : XF) : Statement (.vamomaxX x) := ofXF x 0x21 5 rfl
theorem vamoswap (r : RF) : Statement (.vamoswap r) := ofRF r 0x21 6 rfl
theorem vamoswapX (x : XF) : Statement (.vamoswapX x) := ofXF x 0x21 6 rfl
theorem strset (r : RF) : Statement (.strset r) := ofRF r 0x22 0 rfl
theorem strsetX (x : XF) : Statement (.strsetX x) := ofXF x 0x22 0 rfl
theorem strclr (r : RF) : Statement (.strclr r) := ofRF r 0x22 1 rfl
theorem strclrX (x : XF) : Statement (.strclrX x) := ofXF x 0x22 1 rfl
theorem strstat (r : RF) : Statement (.strstat r) := ofRF r 0x22 2 rfl
theorem strstatX (x : XF) : Statement (.strstatX x) := ofXF x 0x22 2 rfl
theorem cplvl (r : RF) : Statement (.cplvl r) := ofRF r 0x23 0 rfl
theorem cplvlX (x : XF) : Statement (.cplvlX x) := ofXF x 0x23 0 rfl
theorem cpgo (r : RF) : Statement (.cpgo r) := ofRF r 0x23 1 rfl
theorem cpgoX (x : XF) : Statement (.cpgoX x) := ofXF x 0x23 1 rfl
theorem cpstat (r : RF) : Statement (.cpstat r) := ofRF r 0x23 2 rfl
theorem cpstatX (x : XF) : Statement (.cpstatX x) := ofXF x 0x23 2 rfl
theorem cpcan (r : RF) : Statement (.cpcan r) := ofRF r 0x23 3 rfl
theorem cpcanX (x : XF) : Statement (.cpcanX x) := ofXF x 0x23 3 rfl
theorem flinit (r : RF) : Statement (.flinit r) := ofRF r 0x24 0 rfl
theorem flinitX (x : XF) : Statement (.flinitX x) := ofXF x 0x24 0 rfl
theorem awaitf (r : RF) : Statement (.awaitf r) := ofRF r 0x24 1 rfl
theorem awaitfX (x : XF) : Statement (.awaitfX x) := ofXF x 0x24 1 rfl
theorem rels (r : RF) : Statement (.rels r) := ofRF r 0x24 2 rfl
theorem relsX (x : XF) : Statement (.relsX x) := ofXF x 0x24 2 rfl
theorem flstat (r : RF) : Statement (.flstat r) := ofRF r 0x24 3 rfl
theorem flstatX (x : XF) : Statement (.flstatX x) := ofXF x 0x24 3 rfl
theorem stashmap (r : RF) : Statement (.stashmap r) := ofRF r 0x25 0 rfl
theorem stashmapX (x : XF) : Statement (.stashmapX x) := ofXF x 0x25 0 rfl
theorem stashunmap (r : RF) : Statement (.stashunmap r) := ofRF r 0x25 1 rfl
theorem stashunmapX (x : XF) : Statement (.stashunmapX x) := ofXF x 0x25 1 rfl
theorem stashwb (r : RF) : Statement (.stashwb r) := ofRF r 0x25 2 rfl
theorem stashwbX (x : XF) : Statement (.stashwbX x) := ofXF x 0x25 2 rfl
theorem cwb (r : RF) : Statement (.cwb r) := ofRF r 0x26 0 rfl
theorem cwbX (x : XF) : Statement (.cwbX x) := ofXF x 0x26 0 rfl
theorem cinv (r : RF) : Statement (.cinv r) := ofRF r 0x26 1 rfl
theorem cinvX (x : XF) : Statement (.cinvX x) := ofXF x 0x26 1 rfl
theorem cwbinv (r : RF) : Statement (.cwbinv r) := ofRF r 0x26 2 rfl
theorem cwbinvX (x : XF) : Statement (.cwbinvX x) := ofXF x 0x26 2 rfl
theorem collred (r : RF) : Statement (.collred r) := ofRF r 0x27 0 rfl
theorem collredX (x : XF) : Statement (.collredX x) := ofXF x 0x27 0 rfl
theorem collgat (r : RF) : Statement (.collgat r) := ofRF r 0x27 1 rfl
theorem collgatX (x : XF) : Statement (.collgatX x) := ofXF x 0x27 1 rfl
theorem collbar (r : RF) : Statement (.collbar r) := ofRF r 0x27 2 rfl
theorem collbarX (x : XF) : Statement (.collbarX x) := ofXF x 0x27 2 rfl
theorem vadd (r : RF) : Statement (.vadd r) := ofRF r 0x28 0 rfl
theorem vaddX (x : XLF) : Statement (.vaddX x) := ofXLF x 0x28 0 rfl
theorem vsub (r : RF) : Statement (.vsub r) := ofRF r 0x28 1 rfl
theorem vsubX (x : XLF) : Statement (.vsubX x) := ofXLF x 0x28 1 rfl
theorem vrsub (r : RF) : Statement (.vrsub r) := ofRF r 0x28 2 rfl
theorem vrsubX (x : XLF) : Statement (.vrsubX x) := ofXLF x 0x28 2 rfl
theorem vmul (r : RF) : Statement (.vmul r) := ofRF r 0x28 3 rfl
theorem vmulX (x : XLF) : Statement (.vmulX x) := ofXLF x 0x28 3 rfl
theorem vmulh (r : RF) : Statement (.vmulh r) := ofRF r 0x28 4 rfl
theorem vmulhX (x : XLF) : Statement (.vmulhX x) := ofXLF x 0x28 4 rfl
theorem vmacc (r : RF) : Statement (.vmacc r) := ofRF r 0x28 5 rfl
theorem vmaccX (x : XLF) : Statement (.vmaccX x) := ofXLF x 0x28 5 rfl
theorem vand (r : RF) : Statement (.vand r) := ofRF r 0x28 6 rfl
theorem vandX (x : XLF) : Statement (.vandX x) := ofXLF x 0x28 6 rfl
theorem vor (r : RF) : Statement (.vor r) := ofRF r 0x28 7 rfl
theorem vorX (x : XLF) : Statement (.vorX x) := ofXLF x 0x28 7 rfl
theorem vxor (r : RF) : Statement (.vxor r) := ofRF r 0x28 8 rfl
theorem vxorX (x : XLF) : Statement (.vxorX x) := ofXLF x 0x28 8 rfl
theorem vsll (r : RF) : Statement (.vsll r) := ofRF r 0x28 9 rfl
theorem vsllX (x : XLF) : Statement (.vsllX x) := ofXLF x 0x28 9 rfl
theorem vsrl (r : RF) : Statement (.vsrl r) := ofRF r 0x28 10 rfl
theorem vsrlX (x : XLF) : Statement (.vsrlX x) := ofXLF x 0x28 10 rfl
theorem vsra (r : RF) : Statement (.vsra r) := ofRF r 0x28 11 rfl
theorem vsraX (x : XLF) : Statement (.vsraX x) := ofXLF x 0x28 11 rfl
theorem vmin (r : RF) : Statement (.vmin r) := ofRF r 0x28 12 rfl
theorem vminX (x : XLF) : Statement (.vminX x) := ofXLF x 0x28 12 rfl
theorem vmax (r : RF) : Statement (.vmax r) := ofRF r 0x28 13 rfl
theorem vmaxX (x : XLF) : Statement (.vmaxX x) := ofXLF x 0x28 13 rfl
theorem vminu (r : RF) : Statement (.vminu r) := ofRF r 0x28 14 rfl
theorem vminuX (x : XLF) : Statement (.vminuX x) := ofXLF x 0x28 14 rfl
theorem vmaxu (r : RF) : Statement (.vmaxu r) := ofRF r 0x28 15 rfl
theorem vmaxuX (x : XLF) : Statement (.vmaxuX x) := ofXLF x 0x28 15 rfl
theorem vsadd (r : RF) : Statement (.vsadd r) := ofRF r 0x28 16 rfl
theorem vsaddX (x : XLF) : Statement (.vsaddX x) := ofXLF x 0x28 16 rfl
theorem vssub (r : RF) : Statement (.vssub r) := ofRF r 0x28 17 rfl
theorem vssubX (x : XLF) : Statement (.vssubX x) := ofXLF x 0x28 17 rfl
theorem vabs (r : RF) : Statement (.vabs r) := ofRF r 0x28 18 rfl
theorem vabsX (x : XLF) : Statement (.vabsX x) := ofXLF x 0x28 18 rfl
theorem vclmul (r : RF) : Statement (.vclmul r) := ofRF r 0x28 19 rfl
theorem vclmulX (x : XLF) : Statement (.vclmulX x) := ofXLF x 0x28 19 rfl
theorem vclmulh (r : RF) : Statement (.vclmulh r) := ofRF r 0x28 20 rfl
theorem vclmulhX (x : XLF) : Statement (.vclmulhX x) := ofXLF x 0x28 20 rfl
theorem vpsum (r : RF) : Statement (.vpsum r) := ofRF r 0x28 21 rfl
theorem vpsumX (x : XLF) : Statement (.vpsumX x) := ofXLF x 0x28 21 rfl
theorem vcmpEq (r : RF) : Statement (.vcmpEq r) := ofRF r 0x29 0 rfl
theorem vcmpEqX (x : XLF) : Statement (.vcmpEqX x) := ofXLF x 0x29 0 rfl
theorem vcmpNe (r : RF) : Statement (.vcmpNe r) := ofRF r 0x29 1 rfl
theorem vcmpNeX (x : XLF) : Statement (.vcmpNeX x) := ofXLF x 0x29 1 rfl
theorem vcmpLt (r : RF) : Statement (.vcmpLt r) := ofRF r 0x29 2 rfl
theorem vcmpLtX (x : XLF) : Statement (.vcmpLtX x) := ofXLF x 0x29 2 rfl
theorem vcmpLe (r : RF) : Statement (.vcmpLe r) := ofRF r 0x29 3 rfl
theorem vcmpLeX (x : XLF) : Statement (.vcmpLeX x) := ofXLF x 0x29 3 rfl
theorem vcmpLtu (r : RF) : Statement (.vcmpLtu r) := ofRF r 0x29 4 rfl
theorem vcmpLtuX (x : XLF) : Statement (.vcmpLtuX x) := ofXLF x 0x29 4 rfl
theorem vcmpLeu (r : RF) : Statement (.vcmpLeu r) := ofRF r 0x29 5 rfl
theorem vcmpLeuX (x : XLF) : Statement (.vcmpLeuX x) := ofXLF x 0x29 5 rfl
theorem vfcmpEq (r : RF) : Statement (.vfcmpEq r) := ofRF r 0x29 6 rfl
theorem vfcmpEqX (x : XLF) : Statement (.vfcmpEqX x) := ofXLF x 0x29 6 rfl
theorem vfcmpLt (r : RF) : Statement (.vfcmpLt r) := ofRF r 0x29 7 rfl
theorem vfcmpLtX (x : XLF) : Statement (.vfcmpLtX x) := ofXLF x 0x29 7 rfl
theorem vfcmpLe (r : RF) : Statement (.vfcmpLe r) := ofRF r 0x29 8 rfl
theorem vfcmpLeX (x : XLF) : Statement (.vfcmpLeX x) := ofXLF x 0x29 8 rfl
theorem vfcmpUn (r : RF) : Statement (.vfcmpUn r) := ofRF r 0x29 9 rfl
theorem vfcmpUnX (x : XLF) : Statement (.vfcmpUnX x) := ofXLF x 0x29 9 rfl
theorem vfadd (r : RF) : Statement (.vfadd r) := ofRF r 0x2a 0 rfl
theorem vfaddX (x : XLF) : Statement (.vfaddX x) := ofXLF x 0x2a 0 rfl
theorem vfsub (r : RF) : Statement (.vfsub r) := ofRF r 0x2a 1 rfl
theorem vfsubX (x : XLF) : Statement (.vfsubX x) := ofXLF x 0x2a 1 rfl
theorem vfmul (r : RF) : Statement (.vfmul r) := ofRF r 0x2a 2 rfl
theorem vfmulX (x : XLF) : Statement (.vfmulX x) := ofXLF x 0x2a 2 rfl
theorem vfma (r : RF) : Statement (.vfma r) := ofRF r 0x2a 3 rfl
theorem vfmaX (x : XLF) : Statement (.vfmaX x) := ofXLF x 0x2a 3 rfl
theorem vfnma (r : RF) : Statement (.vfnma r) := ofRF r 0x2a 4 rfl
theorem vfnmaX (x : XLF) : Statement (.vfnmaX x) := ofXLF x 0x2a 4 rfl
theorem vfdiv (r : RF) : Statement (.vfdiv r) := ofRF r 0x2a 5 rfl
theorem vfdivX (x : XLF) : Statement (.vfdivX x) := ofXLF x 0x2a 5 rfl
theorem vfsqrt (r : RF) : Statement (.vfsqrt r) := ofRF r 0x2a 6 rfl
theorem vfsqrtX (x : XLF) : Statement (.vfsqrtX x) := ofXLF x 0x2a 6 rfl
theorem vfmin (r : RF) : Statement (.vfmin r) := ofRF r 0x2a 7 rfl
theorem vfminX (x : XLF) : Statement (.vfminX x) := ofXLF x 0x2a 7 rfl
theorem vfmax (r : RF) : Statement (.vfmax r) := ofRF r 0x2a 8 rfl
theorem vfmaxX (x : XLF) : Statement (.vfmaxX x) := ofXLF x 0x2a 8 rfl
theorem vfsign (r : RF) : Statement (.vfsign r) := ofRF r 0x2a 9 rfl
theorem vfsignX (x : XLF) : Statement (.vfsignX x) := ofXLF x 0x2a 9 rfl
theorem vfclass (r : RF) : Statement (.vfclass r) := ofRF r 0x2a 10 rfl
theorem vfclassX (x : XLF) : Statement (.vfclassX x) := ofXLF x 0x2a 10 rfl
theorem vfrcp (r : RF) : Statement (.vfrcp r) := ofRF r 0x2a 11 rfl
theorem vfrcpX (x : XLF) : Statement (.vfrcpX x) := ofXLF x 0x2a 11 rfl
theorem vfrsq (r : RF) : Statement (.vfrsq r) := ofRF r 0x2a 12 rfl
theorem vfrsqX (x : XLF) : Statement (.vfrsqX x) := ofXLF x 0x2a 12 rfl
theorem vfexp2 (r : RF) : Statement (.vfexp2 r) := ofRF r 0x2a 13 rfl
theorem vfexp2X (x : XLF) : Statement (.vfexp2X x) := ofXLF x 0x2a 13 rfl
theorem vflog2 (r : RF) : Statement (.vflog2 r) := ofRF r 0x2a 14 rfl
theorem vflog2X (x : XLF) : Statement (.vflog2X x) := ofXLF x 0x2a 14 rfl
theorem vftanh (r : RF) : Statement (.vftanh r) := ofRF r 0x2a 15 rfl
theorem vftanhX (x : XLF) : Statement (.vftanhX x) := ofXLF x 0x2a 15 rfl
theorem vcvt (r : RF) : Statement (.vcvt r) := ofRF r 0x2b 0 rfl
theorem vcvtX (x : XF) : Statement (.vcvtX x) := ofXF x 0x2b 0 rfl
theorem vqnt (x : XF) : Statement (.vqnt x) := ofXF x 0x2b 1 rfl
theorem vpack (x : XF) : Statement (.vpack x) := ofXF x 0x2b 2 rfl
theorem vunpk (x : XF) : Statement (.vunpk x) := ofXF x 0x2b 3 rfl
theorem kand (r : RF) : Statement (.kand r) := ofRF r 0x2c 0 rfl
theorem kandX (x : XF) : Statement (.kandX x) := ofXF x 0x2c 0 rfl
theorem kor (r : RF) : Statement (.kor r) := ofRF r 0x2c 1 rfl
theorem korX (x : XF) : Statement (.korX x) := ofXF x 0x2c 1 rfl
theorem kxor (r : RF) : Statement (.kxor r) := ofRF r 0x2c 2 rfl
theorem kxorX (x : XF) : Statement (.kxorX x) := ofXF x 0x2c 2 rfl
theorem knot (r : RF) : Statement (.knot r) := ofRF r 0x2c 3 rfl
theorem knotX (x : XF) : Statement (.knotX x) := ofXF x 0x2c 3 rfl
theorem kmov (r : RF) : Statement (.kmov r) := ofRF r 0x2c 4 rfl
theorem kmovX (x : XF) : Statement (.kmovX x) := ofXF x 0x2c 4 rfl
theorem kpop (r : RF) : Statement (.kpop r) := ofRF r 0x2c 5 rfl
theorem kpopX (x : XF) : Statement (.kpopX x) := ofXF x 0x2c 5 rfl
theorem kfirst (r : RF) : Statement (.kfirst r) := ofRF r 0x2c 6 rfl
theorem kfirstX (x : XF) : Statement (.kfirstX x) := ofXF x 0x2c 6 rfl
theorem ksbf (r : RF) : Statement (.ksbf r) := ofRF r 0x2c 7 rfl
theorem ksbfX (x : XF) : Statement (.ksbfX x) := ofXF x 0x2c 7 rfl
theorem ksif (r : RF) : Statement (.ksif r) := ofRF r 0x2c 8 rfl
theorem ksifX (x : XF) : Statement (.ksifX x) := ofXF x 0x2c 8 rfl
theorem ksof (r : RF) : Statement (.ksof r) := ofRF r 0x2c 9 rfl
theorem ksofX (x : XF) : Statement (.ksofX x) := ofXF x 0x2c 9 rfl
theorem vperm (r : RF) : Statement (.vperm r) := ofRF r 0x2d 0 rfl
theorem vpermX (x : XF) : Statement (.vpermX x) := ofXF x 0x2d 0 rfl
theorem vslideup (r : RF) : Statement (.vslideup r) := ofRF r 0x2d 1 rfl
theorem vslideupX (x : XF) : Statement (.vslideupX x) := ofXF x 0x2d 1 rfl
theorem vslidedn (r : RF) : Statement (.vslidedn r) := ofRF r 0x2d 2 rfl
theorem vslidednX (x : XF) : Statement (.vslidednX x) := ofXF x 0x2d 2 rfl
theorem vbcast (r : RF) : Statement (.vbcast r) := ofRF r 0x2d 3 rfl
theorem vbcastX (x : XF) : Statement (.vbcastX x) := ofXF x 0x2d 3 rfl
theorem vcompr (r : RF) : Statement (.vcompr r) := ofRF r 0x2d 4 rfl
theorem vcomprX (x : XF) : Statement (.vcomprX x) := ofXF x 0x2d 4 rfl
theorem vexpd (r : RF) : Statement (.vexpd r) := ofRF r 0x2d 5 rfl
theorem vexpdX (x : XF) : Statement (.vexpdX x) := ofXF x 0x2d 5 rfl
theorem vmerge (r : RF) : Statement (.vmerge r) := ofRF r 0x2d 6 rfl
theorem vmergeX (x : XF) : Statement (.vmergeX x) := ofXF x 0x2d 6 rfl
theorem vmvsv (r : RF) : Statement (.vmvsv r) := ofRF r 0x2d 7 rfl
theorem vmvsvX (x : XF) : Statement (.vmvsvX x) := ofXF x 0x2d 7 rfl
theorem vmvvs (r : RF) : Statement (.vmvvs r) := ofRF r 0x2d 8 rfl
theorem vmvvsX (x : XF) : Statement (.vmvvsX x) := ofXF x 0x2d 8 rfl
theorem viota (r : RF) : Statement (.viota r) := ofRF r 0x2d 9 rfl
theorem viotaX (x : XF) : Statement (.viotaX x) := ofXF x 0x2d 9 rfl
theorem vid (r : RF) : Statement (.vid r) := ofRF r 0x2d 10 rfl
theorem vidX (x : XF) : Statement (.vidX x) := ofXF x 0x2d 10 rfl
theorem vredsum (r : RF) : Statement (.vredsum r) := ofRF r 0x2e 0 rfl
theorem vredsumX (x : XF) : Statement (.vredsumX x) := ofXF x 0x2e 0 rfl
theorem vredmax (r : RF) : Statement (.vredmax r) := ofRF r 0x2e 1 rfl
theorem vredmaxX (x : XF) : Statement (.vredmaxX x) := ofXF x 0x2e 1 rfl
theorem vredmin (r : RF) : Statement (.vredmin r) := ofRF r 0x2e 2 rfl
theorem vredminX (x : XF) : Statement (.vredminX x) := ofXF x 0x2e 2 rfl
theorem vfredusum (r : RF) : Statement (.vfredusum r) := ofRF r 0x2e 3 rfl
theorem vfredusumX (x : XF) : Statement (.vfredusumX x) := ofXF x 0x2e 3 rfl
theorem vfredosum (r : RF) : Statement (.vfredosum r) := ofRF r 0x2e 4 rfl
theorem vfredosumX (x : XF) : Statement (.vfredosumX x) := ofXF x 0x2e 4 rfl
theorem vfredmax (r : RF) : Statement (.vfredmax r) := ofRF r 0x2e 5 rfl
theorem vfredmaxX (x : XF) : Statement (.vfredmaxX x) := ofXF x 0x2e 5 rfl
theorem vfredmin (r : RF) : Statement (.vfredmin r) := ofRF r 0x2e 6 rfl
theorem vfredminX (x : XF) : Statement (.vfredminX x) := ofXF x 0x2e 6 rfl
theorem vredmaxsum (r : RF) : Statement (.vredmaxsum r) := ofRF r 0x2e 7 rfl
theorem vredmaxsumX (x : XF) : Statement (.vredmaxsumX x) := ofXF x 0x2e 7 rfl
theorem vsetvl (r : RF) : Statement (.vsetvl r) := ofRF r 0x2f 0 rfl
theorem vsetvli (r : RLF) : Statement (.vsetvli r) := ofRLF r 0x2f 1 rfl
theorem opacc (r : RF) : Statement (.opacc r) := ofRF r 0x30 0 rfl
theorem opaccX (x : XF) : Statement (.opaccX x) := ofXF x 0x30 0 rfl
theorem opaccn (r : RF) : Statement (.opaccn r) := ofRF r 0x30 1 rfl
theorem opaccnX (x : XF) : Statement (.opaccnX x) := ofXF x 0x30 1 rfl
theorem accz (r : RF) : Statement (.accz r) := ofRF r 0x30 2 rfl
theorem acczX (x : XF) : Statement (.acczX x) := ofXF x 0x30 2 rfl
theorem accld (r : RF) : Statement (.accld r) := ofRF r 0x30 3 rfl
theorem accldX (x : XF) : Statement (.accldX x) := ofXF x 0x30 3 rfl
theorem accrd (r : RF) : Statement (.accrd r) := ofRF r 0x30 4 rfl
theorem accrdX (x : XF) : Statement (.accrdX x) := ofXF x 0x30 4 rfl
theorem accwr (r : RF) : Statement (.accwr r) := ofRF r 0x30 5 rfl
theorem accwrX (x : XF) : Statement (.accwrX x) := ofXF x 0x30 5 rfl
theorem accscale (r : RF) : Statement (.accscale r) := ofRF r 0x30 6 rfl
theorem accscaleX (x : XF) : Statement (.accscaleX x) := ofXF x 0x30 6 rfl
theorem drain (r : RF) : Statement (.drain r) := ofRF r 0x31 0 rfl
theorem drainX (x : XF) : Statement (.drainX x) := ofXF x 0x31 0 rfl
theorem histo (r : RF) : Statement (.histo r) := ofRF r 0x31 1 rfl
theorem histoX (x : XF) : Statement (.histoX x) := ofXF x 0x31 1 rfl
theorem scalepick (x : XF) : Statement (.scalepick x) := ofXF x 0x31 2 rfl
theorem pwlset (r : RF) : Statement (.pwlset r) := ofRF r 0x31 3 rfl
theorem pwlsetX (x : XF) : Statement (.pwlsetX x) := ofXF x 0x31 3 rfl
theorem cbld (r : RF) : Statement (.cbld r) := ofRF r 0x32 0 rfl
theorem cbldX (x : XF) : Statement (.cbldX x) := ofXF x 0x32 0 rfl
theorem cbset (r : RF) : Statement (.cbset r) := ofRF r 0x32 1 rfl
theorem cbsetX (x : XF) : Statement (.cbsetX x) := ofXF x 0x32 1 rfl
theorem cbinv (r : RF) : Statement (.cbinv r) := ofRF r 0x32 2 rfl
theorem cbinvX (x : XF) : Statement (.cbinvX x) := ofXF x 0x32 2 rfl
theorem cbuse (r : RF) : Statement (.cbuse r) := ofRF r 0x32 3 rfl
theorem cbuseX (x : XF) : Statement (.cbuseX x) := ofXF x 0x32 3 rfl
theorem cbstat (r : RF) : Statement (.cbstat r) := ofRF r 0x32 4 rfl
theorem cbstatX (x : XF) : Statement (.cbstatX x) := ofXF x 0x32 4 rfl
theorem bscope (r : RF) : Statement (.bscope r) := ofRF r 0x34 0 rfl
theorem bscopeX (x : XF) : Statement (.bscopeX x) := ofXF x 0x34 0 rfl
theorem bnest (r : RF) : Statement (.bnest r) := ofRF r 0x34 1 rfl
theorem bnestX (x : XF) : Statement (.bnestX x) := ofXF x 0x34 1 rfl
theorem bbody (r : RF) : Statement (.bbody r) := ofRF r 0x34 2 rfl
theorem bbodyX (x : XF) : Statement (.bbodyX x) := ofXF x 0x34 2 rfl
theorem bcmd (r : RF) : Statement (.bcmd r) := ofRF r 0x34 3 rfl
theorem bcmdX (x : XF) : Statement (.bcmdX x) := ofXF x 0x34 3 rfl
theorem bwait (r : RF) : Statement (.bwait r) := ofRF r 0x34 4 rfl
theorem bwaitX (x : XF) : Statement (.bwaitX x) := ofXF x 0x34 4 rfl
theorem bfence (r : RF) : Statement (.bfence r) := ofRF r 0x34 5 rfl
theorem bfenceX (x : XF) : Statement (.bfenceX x) := ofXF x 0x34 5 rfl
theorem bstat (r : RF) : Statement (.bstat r) := ofRF r 0x34 6 rfl
theorem bstatX (x : XF) : Statement (.bstatX x) := ofXF x 0x34 6 rfl
theorem trap (r : RF) : Statement (.trap r) := ofRF r 0x3c 0 rfl
theorem trapX (x : XF) : Statement (.trapX x) := ofXF x 0x3c 0 rfl
theorem eret (r : RF) : Statement (.eret r) := ofRF r 0x3c 1 rfl
theorem eretX (x : XF) : Statement (.eretX x) := ofXF x 0x3c 1 rfl
theorem halt (r : RF) : Statement (.halt r) := ofRF r 0x3c 2 rfl
theorem haltX (x : XF) : Statement (.haltX x) := ofXF x 0x3c 2 rfl
theorem yield (r : RF) : Statement (.yield r) := ofRF r 0x3c 3 rfl
theorem yieldX (x : XF) : Statement (.yieldX x) := ofXF x 0x3c 3 rfl
theorem csrrd (x : XF) : Statement (.csrrd x) := ofXF x 0x3c 4 rfl
theorem csrwr (x : XF) : Statement (.csrwr x) := ofXF x 0x3c 5 rfl
theorem csrswp (x : XF) : Statement (.csrswp x) := ofXF x 0x3c 6 rfl
theorem tlbinv (r : RF) : Statement (.tlbinv r) := ofRF r 0x3c 7 rfl
theorem tlbinvX (x : XF) : Statement (.tlbinvX x) := ofXF x 0x3c 7 rfl
theorem objdecl (r : RF) : Statement (.objdecl r) := ofRF r 0x3c 8 rfl
theorem objdeclX (x : XF) : Statement (.objdeclX x) := ofXF x 0x3c 8 rfl
theorem objdrop (r : RF) : Statement (.objdrop r) := ofRF r 0x3c 9 rfl
theorem objdropX (x : XF) : Statement (.objdropX x) := ofXF x 0x3c 9 rfl
theorem ncwset (r : RF) : Statement (.ncwset r) := ofRF r 0x3c 10 rfl
theorem ncwsetX (x : XF) : Statement (.ncwsetX x) := ofXF x 0x3c 10 rfl
theorem launch (r : RF) : Statement (.launch r) := ofRF r 0x3d 0 rfl
theorem launchX (x : XF) : Statement (.launchX x) := ofXF x 0x3d 0 rfl
theorem trigger (r : RF) : Statement (.trigger r) := ofRF r 0x3d 1 rfl
theorem triggerX (x : XF) : Statement (.triggerX x) := ofXF x 0x3d 1 rfl
theorem cancel (r : RF) : Statement (.cancel r) := ofRF r 0x3d 2 rfl
theorem cancelX (x : XF) : Statement (.cancelX x) := ofXF x 0x3d 2 rfl
theorem pqpush (r : RF) : Statement (.pqpush r) := ofRF r 0x3d 3 rfl
theorem pqpushX (x : XF) : Statement (.pqpushX x) := ofXF x 0x3d 3 rfl
theorem pqpop (r : RF) : Statement (.pqpop r) := ofRF r 0x3d 4 rfl
theorem pqpopX (x : XF) : Statement (.pqpopX x) := ofXF x 0x3d 4 rfl
theorem heart (r : RF) : Statement (.heart r) := ofRF r 0x3d 5 rfl
theorem heartX (x : XF) : Statement (.heartX x) := ofXF x 0x3d 5 rfl
theorem bnop (w : NoF) : Statement (.bnop w) := Nat.le_refl 1
theorem tbuildR (w : TbF) : Statement (.tbuildR w) := Nat.le_refl 1
theorem tbuildT (w : TbF) : Statement (.tbuildT w) := Nat.le_refl 1
theorem tswap (w : NoF) : Statement (.tswap w) := Nat.le_refl 1
theorem cbldb (w : WaF) : Statement (.cbldb w) := Nat.le_refl 1
theorem luacc (w : OutF) : Statement (.luacc w) := Nat.le_refl 1
theorem luaccS (w : OutF) : Statement (.luaccS w) := Nat.le_refl 1
theorem accclr (w : NoF) : Statement (.accclr w) := Nat.le_refl 1
theorem accput (w : OutF) : Statement (.accput w) := Nat.le_refl 1
theorem bldw (w : MoveF) : Statement (.bldw w) := Nat.le_refl 1
theorem bstw (w : MoveF) : Statement (.bstw w) := Nat.le_refl 1
theorem badd (w : LaneF) : Statement (.badd w) := Nat.le_refl 1
theorem bsub (w : LaneF) : Statement (.bsub w) := Nat.le_refl 1
theorem bmax (w : LaneF) : Statement (.bmax w) := Nat.le_refl 1
theorem bmin (w : LaneF) : Statement (.bmin w) := Nat.le_refl 1
theorem band (w : LaneF) : Statement (.band w) := Nat.le_refl 1
theorem bor (w : LaneF) : Statement (.bor w) := Nat.le_refl 1
theorem bxor (w : LaneF) : Statement (.bxor w) := Nat.le_refl 1
theorem bshl (w : LaneF) : Statement (.bshl w) := Nat.le_refl 1
theorem bshr (w : LaneF) : Statement (.bshr w) := Nat.le_refl 1
theorem bcmp (w : LaneF) : Statement (.bcmp w) := Nat.le_refl 1
theorem bsel (w : LaneF) : Statement (.bsel w) := Nat.le_refl 1
theorem bcvt (w : CvtF) : Statement (.bcvt w) := Nat.le_refl 1
theorem mand (w : MaskF) : Statement (.mand w) := Nat.le_refl 1
theorem mnot (w : MaskF) : Statement (.mnot w) := Nat.le_refl 1
theorem skipz (w : WaF) : Statement (.skipz w) := Nat.le_refl 1
theorem rtree (w : OutF) : Statement (.rtree w) := Nat.le_refl 1
theorem illegalEncoding (reason member : Nat) (word : Word32) : Statement (.illegalEncoding reason member word) := Nat.zero_le 1
theorem ncPageAccess (pa n : Nat) (store : Option Word) : Statement (.ncPageAccess pa n store) := Nat.zero_le 1

end Sys2Proof.Laws.Decoding
end

