-- ==== Sys2Proof/Laws/State.lean ====
section
/-! SUPPORT. What each named update of the state leaves of each field. -/

namespace Sys2Proof.Machine

open Sys2Proof

/-! #### Strand.setReg -/

@[simp] theorem Strand.setReg_st (t : Strand) (i : Nat) (x : Word) : (t.setReg i x).st = t.st := by unfold Strand.setReg; split <;> rfl
@[simp] theorem Strand.setReg_v (t : Strand) (i : Nat) (x : Word) : (t.setReg i x).v = t.v := by unfold Strand.setReg; split <;> rfl
@[simp] theorem Strand.setReg_k (t : Strand) (i : Nat) (x : Word) : (t.setReg i x).k = t.k := by unfold Strand.setReg; split <;> rfl
@[simp] theorem Strand.setReg_pc (t : Strand) (i : Nat) (x : Word) : (t.setReg i x).pc = t.pc := by unfold Strand.setReg; split <;> rfl
@[simp] theorem Strand.setReg_vl (t : Strand) (i : Nat) (x : Word) : (t.setReg i x).vl = t.vl := by unfold Strand.setReg; split <;> rfl
@[simp] theorem Strand.setReg_vtype (t : Strand) (i : Nat) (x : Word) : (t.setReg i x).vtype = t.vtype := by unfold Strand.setReg; split <;> rfl
@[simp] theorem Strand.setReg_vstart (t : Strand) (i : Nat) (x : Word) : (t.setReg i x).vstart = t.vstart := by unfold Strand.setReg; split <;> rfl
@[simp] theorem Strand.setReg_rstate (t : Strand) (i : Nat) (x : Word) : (t.setReg i x).rstate = t.rstate := by unfold Strand.setReg; split <;> rfl
@[simp] theorem Strand.setReg_rsidx (t : Strand) (i : Nat) (x : Word) : (t.setReg i x).rsidx = t.rsidx := by unfold Strand.setReg; split <;> rfl
@[simp] theorem Strand.setReg_seed (t : Strand) (i : Nat) (x : Word) : (t.setReg i x).seed = t.seed := by unfold Strand.setReg; split <;> rfl
@[simp] theorem Strand.setReg_sbase (t : Strand) (i : Nat) (x : Word) : (t.setReg i x).sbase = t.sbase := by unfold Strand.setReg; split <;> rfl
@[simp] theorem Strand.setReg_rmode (t : Strand) (i : Nat) (x : Word) : (t.setReg i x).rmode = t.rmode := by unfold Strand.setReg; split <;> rfl
@[simp] theorem Strand.setReg_fflags (t : Strand) (i : Nat) (x : Word) : (t.setReg i x).fflags = t.fflags := by unfold Strand.setReg; split <;> rfl
@[simp] theorem Strand.setReg_acnt (t : Strand) (i : Nat) (x : Word) : (t.setReg i x).acnt = t.acnt := by unfold Strand.setReg; split <;> rfl
@[simp] theorem Strand.setReg_astat (t : Strand) (i : Nat) (x : Word) : (t.setReg i x).astat = t.astat := by unfold Strand.setReg; split <;> rfl
@[simp] theorem Strand.setReg_schk (t : Strand) (i : Nat) (x : Word) : (t.setReg i x).schk = t.schk := by unfold Strand.setReg; split <;> rfl
@[simp] theorem Strand.setReg_strandId (t : Strand) (i : Nat) (x : Word) : (t.setReg i x).strandId = t.strandId := by unfold Strand.setReg; split <;> rfl
@[simp] theorem Strand.setReg_gang (t : Strand) (i : Nat) (x : Word) : (t.setReg i x).gang = t.gang := by unfold Strand.setReg; split <;> rfl
@[simp] theorem Strand.setReg_launch (t : Strand) (i : Nat) (x : Word) : (t.setReg i x).launch = t.launch := by unfold Strand.setReg; split <;> rfl
@[simp] theorem Strand.setReg_wdog (t : Strand) (i : Nat) (x : Word) : (t.setReg i x).wdog = t.wdog := by unfold Strand.setReg; split <;> rfl
@[simp] theorem Strand.setReg_status (t : Strand) (i : Nat) (x : Word) : (t.setReg i x).status = t.status := by unfold Strand.setReg; split <;> rfl
@[simp] theorem Strand.setReg_cbgen (t : Strand) (i : Nat) (x : Word) : (t.setReg i x).cbgen = t.cbgen := by unfold Strand.setReg; split <;> rfl
@[simp] theorem Strand.setReg_cbuse (t : Strand) (i : Nat) (x : Word) : (t.setReg i x).cbuse = t.cbuse := by unfold Strand.setReg; split <;> rfl
@[simp] theorem Strand.setReg_trapcause (t : Strand) (i : Nat) (x : Word) : (t.setReg i x).trapcause = t.trapcause := by unfold Strand.setReg; split <;> rfl
@[simp] theorem Strand.setReg_trappc (t : Strand) (i : Nat) (x : Word) : (t.setReg i x).trappc = t.trappc := by unfold Strand.setReg; split <;> rfl
@[simp] theorem Strand.setReg_trapval (t : Strand) (i : Nat) (x : Word) : (t.setReg i x).trapval = t.trapval := by unfold Strand.setReg; split <;> rfl
@[simp] theorem Strand.setReg_tvec (t : Strand) (i : Nat) (x : Word) : (t.setReg i x).tvec = t.tvec := by unfold Strand.setReg; split <;> rfl
@[simp] theorem Strand.setReg_pending (t : Strand) (i : Nat) (x : Word) : (t.setReg i x).pending = t.pending := by unfold Strand.setReg; split <;> rfl
@[simp] theorem Strand.setReg_latestAck (t : Strand) (i : Nat) (x : Word) : (t.setReg i x).latestAck = t.latestAck := by unfold Strand.setReg; split <;> rfl
@[simp] theorem Strand.setReg_ctx (t : Strand) (i : Nat) (x : Word) : (t.setReg i x).ctx = t.ctx := by unfold Strand.setReg; split <;> rfl
@[simp] theorem Strand.setReg_record (t : Strand) (i : Nat) (x : Word) : (t.setReg i x).record = t.record := by unfold Strand.setReg; split <;> rfl
@[simp] theorem Strand.setReg_scratchBase (t : Strand) (i : Nat) (x : Word) : (t.setReg i x).scratchBase = t.scratchBase := by unfold Strand.setReg; split <;> rfl
@[simp] theorem Strand.setReg_scratchSize (t : Strand) (i : Nat) (x : Word) : (t.setReg i x).scratchSize = t.scratchSize := by unfold Strand.setReg; split <;> rfl
@[simp] theorem Strand.setReg_obs (t : Strand) (i : Nat) (x : Word) : (t.setReg i x).obs = t.obs := by unfold Strand.setReg; split <;> rfl
@[simp] theorem Strand.setReg_streams (t : Strand) (i : Nat) (x : Word) : (t.setReg i x).streams = t.streams := by unfold Strand.setReg; split <;> rfl
@[simp] theorem Strand.setReg_flacons (t : Strand) (i : Nat) (x : Word) : (t.setReg i x).flacons = t.flacons := by unfold Strand.setReg; split <;> rfl
@[simp] theorem Strand.setReg_stash (t : Strand) (i : Nat) (x : Word) : (t.setReg i x).stash = t.stash := by unfold Strand.setReg; split <;> rfl
@[simp] theorem Strand.setReg_acks (t : Strand) (i : Nat) (x : Word) : (t.setReg i x).acks = t.acks := by unfold Strand.setReg; split <;> rfl
@[simp] theorem Strand.setReg_storeErrs (t : Strand) (i : Nat) (x : Word) : (t.setReg i x).storeErrs = t.storeErrs := by unfold Strand.setReg; split <;> rfl
@[simp] theorem Strand.setReg_hostStores (t : Strand) (i : Nat) (x : Word) : (t.setReg i x).hostStores = t.hostStores := by unfold Strand.setReg; split <;> rfl
@[simp] theorem Strand.setReg_zeroRead (t : Strand) (i : Nat) (x : Word) : (t.setReg i x).zeroRead = t.zeroRead := by unfold Strand.setReg; split <;> rfl
@[simp] theorem Strand.setReg_copyEnds (t : Strand) (i : Nat) (x : Word) : (t.setReg i x).copyEnds = t.copyEnds := by unfold Strand.setReg; split <;> rfl
@[simp] theorem Strand.setReg_bankSlots (t : Strand) (i : Nat) (x : Word) : (t.setReg i x).bankSlots = t.bankSlots := by unfold Strand.setReg; split <;> rfl
@[simp] theorem Strand.setReg_prods (t : Strand) (i : Nat) (x : Word) : (t.setReg i x).prods = t.prods := by unfold Strand.setReg; split <;> rfl
@[simp] theorem Strand.setReg_wait (t : Strand) (i : Nat) (x : Word) : (t.setReg i x).wait = t.wait := by unfold Strand.setReg; split <;> rfl
@[simp] theorem Strand.setReg_cv (t : Strand) (i : Nat) (x : Word) : (t.setReg i x).cv = t.cv := by unfold Strand.setReg; split <;> rfl
@[simp] theorem Strand.setReg_cancel (t : Strand) (i : Nat) (x : Word) : (t.setReg i x).cancel = t.cancel := by unfold Strand.setReg; split <;> rfl
@[simp] theorem Strand.setReg_cancelTrapTaken (t : Strand) (i : Nat) (x : Word) : (t.setReg i x).cancelTrapTaken = t.cancelTrapTaken := by unfold Strand.setReg; split <;> rfl
@[simp] theorem Strand.setReg_wdCount (t : Strand) (i : Nat) (x : Word) : (t.setReg i x).wdCount = t.wdCount := by unfold Strand.setReg; split <;> rfl
@[simp] theorem Strand.setReg_halted (t : Strand) (i : Nat) (x : Word) : (t.setReg i x).halted = t.halted := by unfold Strand.setReg; split <;> rfl
@[simp] theorem Strand.setReg_captured (t : Strand) (i : Nat) (x : Word) : (t.setReg i x).captured = t.captured := by unfold Strand.setReg; split <;> rfl
@[simp] theorem Strand.setReg_asks (t : Strand) (i : Nat) (x : Word) : (t.setReg i x).asks = t.asks := by unfold Strand.setReg; split <;> rfl
@[simp] theorem Strand.setReg_waitCopies (t : Strand) (i : Nat) (x : Word) : (t.setReg i x).waitCopies = t.waitCopies := by unfold Strand.setReg; split <;> rfl

/-! #### Strand.setK -/

@[simp] theorem Strand.setK_st (t : Strand) (i : Nat) (x : KReg) : (t.setK i x).st = t.st := by unfold Strand.setK; split <;> rfl
@[simp] theorem Strand.setK_s (t : Strand) (i : Nat) (x : KReg) : (t.setK i x).s = t.s := by unfold Strand.setK; split <;> rfl
@[simp] theorem Strand.setK_v (t : Strand) (i : Nat) (x : KReg) : (t.setK i x).v = t.v := by unfold Strand.setK; split <;> rfl
@[simp] theorem Strand.setK_pc (t : Strand) (i : Nat) (x : KReg) : (t.setK i x).pc = t.pc := by unfold Strand.setK; split <;> rfl
@[simp] theorem Strand.setK_vl (t : Strand) (i : Nat) (x : KReg) : (t.setK i x).vl = t.vl := by unfold Strand.setK; split <;> rfl
@[simp] theorem Strand.setK_vtype (t : Strand) (i : Nat) (x : KReg) : (t.setK i x).vtype = t.vtype := by unfold Strand.setK; split <;> rfl
@[simp] theorem Strand.setK_vstart (t : Strand) (i : Nat) (x : KReg) : (t.setK i x).vstart = t.vstart := by unfold Strand.setK; split <;> rfl
@[simp] theorem Strand.setK_rstate (t : Strand) (i : Nat) (x : KReg) : (t.setK i x).rstate = t.rstate := by unfold Strand.setK; split <;> rfl
@[simp] theorem Strand.setK_rsidx (t : Strand) (i : Nat) (x : KReg) : (t.setK i x).rsidx = t.rsidx := by unfold Strand.setK; split <;> rfl
@[simp] theorem Strand.setK_seed (t : Strand) (i : Nat) (x : KReg) : (t.setK i x).seed = t.seed := by unfold Strand.setK; split <;> rfl
@[simp] theorem Strand.setK_sbase (t : Strand) (i : Nat) (x : KReg) : (t.setK i x).sbase = t.sbase := by unfold Strand.setK; split <;> rfl
@[simp] theorem Strand.setK_rmode (t : Strand) (i : Nat) (x : KReg) : (t.setK i x).rmode = t.rmode := by unfold Strand.setK; split <;> rfl
@[simp] theorem Strand.setK_fflags (t : Strand) (i : Nat) (x : KReg) : (t.setK i x).fflags = t.fflags := by unfold Strand.setK; split <;> rfl
@[simp] theorem Strand.setK_acnt (t : Strand) (i : Nat) (x : KReg) : (t.setK i x).acnt = t.acnt := by unfold Strand.setK; split <;> rfl
@[simp] theorem Strand.setK_astat (t : Strand) (i : Nat) (x : KReg) : (t.setK i x).astat = t.astat := by unfold Strand.setK; split <;> rfl
@[simp] theorem Strand.setK_schk (t : Strand) (i : Nat) (x : KReg) : (t.setK i x).schk = t.schk := by unfold Strand.setK; split <;> rfl
@[simp] theorem Strand.setK_strandId (t : Strand) (i : Nat) (x : KReg) : (t.setK i x).strandId = t.strandId := by unfold Strand.setK; split <;> rfl
@[simp] theorem Strand.setK_gang (t : Strand) (i : Nat) (x : KReg) : (t.setK i x).gang = t.gang := by unfold Strand.setK; split <;> rfl
@[simp] theorem Strand.setK_launch (t : Strand) (i : Nat) (x : KReg) : (t.setK i x).launch = t.launch := by unfold Strand.setK; split <;> rfl
@[simp] theorem Strand.setK_wdog (t : Strand) (i : Nat) (x : KReg) : (t.setK i x).wdog = t.wdog := by unfold Strand.setK; split <;> rfl
@[simp] theorem Strand.setK_status (t : Strand) (i : Nat) (x : KReg) : (t.setK i x).status = t.status := by unfold Strand.setK; split <;> rfl
@[simp] theorem Strand.setK_cbgen (t : Strand) (i : Nat) (x : KReg) : (t.setK i x).cbgen = t.cbgen := by unfold Strand.setK; split <;> rfl
@[simp] theorem Strand.setK_cbuse (t : Strand) (i : Nat) (x : KReg) : (t.setK i x).cbuse = t.cbuse := by unfold Strand.setK; split <;> rfl
@[simp] theorem Strand.setK_trapcause (t : Strand) (i : Nat) (x : KReg) : (t.setK i x).trapcause = t.trapcause := by unfold Strand.setK; split <;> rfl
@[simp] theorem Strand.setK_trappc (t : Strand) (i : Nat) (x : KReg) : (t.setK i x).trappc = t.trappc := by unfold Strand.setK; split <;> rfl
@[simp] theorem Strand.setK_trapval (t : Strand) (i : Nat) (x : KReg) : (t.setK i x).trapval = t.trapval := by unfold Strand.setK; split <;> rfl
@[simp] theorem Strand.setK_tvec (t : Strand) (i : Nat) (x : KReg) : (t.setK i x).tvec = t.tvec := by unfold Strand.setK; split <;> rfl
@[simp] theorem Strand.setK_pending (t : Strand) (i : Nat) (x : KReg) : (t.setK i x).pending = t.pending := by unfold Strand.setK; split <;> rfl
@[simp] theorem Strand.setK_latestAck (t : Strand) (i : Nat) (x : KReg) : (t.setK i x).latestAck = t.latestAck := by unfold Strand.setK; split <;> rfl
@[simp] theorem Strand.setK_ctx (t : Strand) (i : Nat) (x : KReg) : (t.setK i x).ctx = t.ctx := by unfold Strand.setK; split <;> rfl
@[simp] theorem Strand.setK_record (t : Strand) (i : Nat) (x : KReg) : (t.setK i x).record = t.record := by unfold Strand.setK; split <;> rfl
@[simp] theorem Strand.setK_scratchBase (t : Strand) (i : Nat) (x : KReg) : (t.setK i x).scratchBase = t.scratchBase := by unfold Strand.setK; split <;> rfl
@[simp] theorem Strand.setK_scratchSize (t : Strand) (i : Nat) (x : KReg) : (t.setK i x).scratchSize = t.scratchSize := by unfold Strand.setK; split <;> rfl
@[simp] theorem Strand.setK_obs (t : Strand) (i : Nat) (x : KReg) : (t.setK i x).obs = t.obs := by unfold Strand.setK; split <;> rfl
@[simp] theorem Strand.setK_streams (t : Strand) (i : Nat) (x : KReg) : (t.setK i x).streams = t.streams := by unfold Strand.setK; split <;> rfl
@[simp] theorem Strand.setK_flacons (t : Strand) (i : Nat) (x : KReg) : (t.setK i x).flacons = t.flacons := by unfold Strand.setK; split <;> rfl
@[simp] theorem Strand.setK_stash (t : Strand) (i : Nat) (x : KReg) : (t.setK i x).stash = t.stash := by unfold Strand.setK; split <;> rfl
@[simp] theorem Strand.setK_acks (t : Strand) (i : Nat) (x : KReg) : (t.setK i x).acks = t.acks := by unfold Strand.setK; split <;> rfl
@[simp] theorem Strand.setK_storeErrs (t : Strand) (i : Nat) (x : KReg) : (t.setK i x).storeErrs = t.storeErrs := by unfold Strand.setK; split <;> rfl
@[simp] theorem Strand.setK_hostStores (t : Strand) (i : Nat) (x : KReg) : (t.setK i x).hostStores = t.hostStores := by unfold Strand.setK; split <;> rfl
@[simp] theorem Strand.setK_zeroRead (t : Strand) (i : Nat) (x : KReg) : (t.setK i x).zeroRead = t.zeroRead := by unfold Strand.setK; split <;> rfl
@[simp] theorem Strand.setK_copyEnds (t : Strand) (i : Nat) (x : KReg) : (t.setK i x).copyEnds = t.copyEnds := by unfold Strand.setK; split <;> rfl
@[simp] theorem Strand.setK_bankSlots (t : Strand) (i : Nat) (x : KReg) : (t.setK i x).bankSlots = t.bankSlots := by unfold Strand.setK; split <;> rfl
@[simp] theorem Strand.setK_prods (t : Strand) (i : Nat) (x : KReg) : (t.setK i x).prods = t.prods := by unfold Strand.setK; split <;> rfl
@[simp] theorem Strand.setK_wait (t : Strand) (i : Nat) (x : KReg) : (t.setK i x).wait = t.wait := by unfold Strand.setK; split <;> rfl
@[simp] theorem Strand.setK_cv (t : Strand) (i : Nat) (x : KReg) : (t.setK i x).cv = t.cv := by unfold Strand.setK; split <;> rfl
@[simp] theorem Strand.setK_cancel (t : Strand) (i : Nat) (x : KReg) : (t.setK i x).cancel = t.cancel := by unfold Strand.setK; split <;> rfl
@[simp] theorem Strand.setK_cancelTrapTaken (t : Strand) (i : Nat) (x : KReg) : (t.setK i x).cancelTrapTaken = t.cancelTrapTaken := by unfold Strand.setK; split <;> rfl
@[simp] theorem Strand.setK_wdCount (t : Strand) (i : Nat) (x : KReg) : (t.setK i x).wdCount = t.wdCount := by unfold Strand.setK; split <;> rfl
@[simp] theorem Strand.setK_halted (t : Strand) (i : Nat) (x : KReg) : (t.setK i x).halted = t.halted := by unfold Strand.setK; split <;> rfl
@[simp] theorem Strand.setK_captured (t : Strand) (i : Nat) (x : KReg) : (t.setK i x).captured = t.captured := by unfold Strand.setK; split <;> rfl
@[simp] theorem Strand.setK_asks (t : Strand) (i : Nat) (x : KReg) : (t.setK i x).asks = t.asks := by unfold Strand.setK; split <;> rfl
@[simp] theorem Strand.setK_waitCopies (t : Strand) (i : Nat) (x : KReg) : (t.setK i x).waitCopies = t.waitCopies := by unfold Strand.setK; split <;> rfl

/-! #### Strand.raise -/

@[simp] theorem Strand.raise_st (t : Strand) (f : Flags) : (t.raise f).st = t.st := rfl
@[simp] theorem Strand.raise_s (t : Strand) (f : Flags) : (t.raise f).s = t.s := rfl
@[simp] theorem Strand.raise_v (t : Strand) (f : Flags) : (t.raise f).v = t.v := rfl
@[simp] theorem Strand.raise_k (t : Strand) (f : Flags) : (t.raise f).k = t.k := rfl
@[simp] theorem Strand.raise_pc (t : Strand) (f : Flags) : (t.raise f).pc = t.pc := rfl
@[simp] theorem Strand.raise_vl (t : Strand) (f : Flags) : (t.raise f).vl = t.vl := rfl
@[simp] theorem Strand.raise_vtype (t : Strand) (f : Flags) : (t.raise f).vtype = t.vtype := rfl
@[simp] theorem Strand.raise_vstart (t : Strand) (f : Flags) : (t.raise f).vstart = t.vstart := rfl
@[simp] theorem Strand.raise_rstate (t : Strand) (f : Flags) : (t.raise f).rstate = t.rstate := rfl
@[simp] theorem Strand.raise_rsidx (t : Strand) (f : Flags) : (t.raise f).rsidx = t.rsidx := rfl
@[simp] theorem Strand.raise_seed (t : Strand) (f : Flags) : (t.raise f).seed = t.seed := rfl
@[simp] theorem Strand.raise_sbase (t : Strand) (f : Flags) : (t.raise f).sbase = t.sbase := rfl
@[simp] theorem Strand.raise_rmode (t : Strand) (f : Flags) : (t.raise f).rmode = t.rmode := rfl
@[simp] theorem Strand.raise_fflags (t : Strand) (f : Flags) : (t.raise f).fflags = t.fflags ||| f.setWidth 64 := rfl
@[simp] theorem Strand.raise_acnt (t : Strand) (f : Flags) : (t.raise f).acnt = t.acnt := rfl
@[simp] theorem Strand.raise_astat (t : Strand) (f : Flags) : (t.raise f).astat = t.astat := rfl
@[simp] theorem Strand.raise_schk (t : Strand) (f : Flags) : (t.raise f).schk = t.schk := rfl
@[simp] theorem Strand.raise_strandId (t : Strand) (f : Flags) : (t.raise f).strandId = t.strandId := rfl
@[simp] theorem Strand.raise_gang (t : Strand) (f : Flags) : (t.raise f).gang = t.gang := rfl
@[simp] theorem Strand.raise_launch (t : Strand) (f : Flags) : (t.raise f).launch = t.launch := rfl
@[simp] theorem Strand.raise_wdog (t : Strand) (f : Flags) : (t.raise f).wdog = t.wdog := rfl
@[simp] theorem Strand.raise_status (t : Strand) (f : Flags) : (t.raise f).status = t.status := rfl
@[simp] theorem Strand.raise_cbgen (t : Strand) (f : Flags) : (t.raise f).cbgen = t.cbgen := rfl
@[simp] theorem Strand.raise_cbuse (t : Strand) (f : Flags) : (t.raise f).cbuse = t.cbuse := rfl
@[simp] theorem Strand.raise_trapcause (t : Strand) (f : Flags) : (t.raise f).trapcause = t.trapcause := rfl
@[simp] theorem Strand.raise_trappc (t : Strand) (f : Flags) : (t.raise f).trappc = t.trappc := rfl
@[simp] theorem Strand.raise_trapval (t : Strand) (f : Flags) : (t.raise f).trapval = t.trapval := rfl
@[simp] theorem Strand.raise_tvec (t : Strand) (f : Flags) : (t.raise f).tvec = t.tvec := rfl
@[simp] theorem Strand.raise_pending (t : Strand) (f : Flags) : (t.raise f).pending = t.pending := rfl
@[simp] theorem Strand.raise_latestAck (t : Strand) (f : Flags) : (t.raise f).latestAck = t.latestAck := rfl
@[simp] theorem Strand.raise_ctx (t : Strand) (f : Flags) : (t.raise f).ctx = t.ctx := rfl
@[simp] theorem Strand.raise_record (t : Strand) (f : Flags) : (t.raise f).record = t.record := rfl
@[simp] theorem Strand.raise_scratchBase (t : Strand) (f : Flags) : (t.raise f).scratchBase = t.scratchBase := rfl
@[simp] theorem Strand.raise_scratchSize (t : Strand) (f : Flags) : (t.raise f).scratchSize = t.scratchSize := rfl
@[simp] theorem Strand.raise_obs (t : Strand) (f : Flags) : (t.raise f).obs = t.obs := rfl
@[simp] theorem Strand.raise_streams (t : Strand) (f : Flags) : (t.raise f).streams = t.streams := rfl
@[simp] theorem Strand.raise_flacons (t : Strand) (f : Flags) : (t.raise f).flacons = t.flacons := rfl
@[simp] theorem Strand.raise_stash (t : Strand) (f : Flags) : (t.raise f).stash = t.stash := rfl
@[simp] theorem Strand.raise_acks (t : Strand) (f : Flags) : (t.raise f).acks = t.acks := rfl
@[simp] theorem Strand.raise_storeErrs (t : Strand) (f : Flags) : (t.raise f).storeErrs = t.storeErrs := rfl
@[simp] theorem Strand.raise_hostStores (t : Strand) (f : Flags) : (t.raise f).hostStores = t.hostStores := rfl
@[simp] theorem Strand.raise_zeroRead (t : Strand) (f : Flags) : (t.raise f).zeroRead = t.zeroRead := rfl
@[simp] theorem Strand.raise_copyEnds (t : Strand) (f : Flags) : (t.raise f).copyEnds = t.copyEnds := rfl
@[simp] theorem Strand.raise_bankSlots (t : Strand) (f : Flags) : (t.raise f).bankSlots = t.bankSlots := rfl
@[simp] theorem Strand.raise_prods (t : Strand) (f : Flags) : (t.raise f).prods = t.prods := rfl
@[simp] theorem Strand.raise_wait (t : Strand) (f : Flags) : (t.raise f).wait = t.wait := rfl
@[simp] theorem Strand.raise_cv (t : Strand) (f : Flags) : (t.raise f).cv = t.cv := rfl
@[simp] theorem Strand.raise_cancel (t : Strand) (f : Flags) : (t.raise f).cancel = t.cancel := rfl
@[simp] theorem Strand.raise_cancelTrapTaken (t : Strand) (f : Flags) : (t.raise f).cancelTrapTaken = t.cancelTrapTaken := rfl
@[simp] theorem Strand.raise_wdCount (t : Strand) (f : Flags) : (t.raise f).wdCount = t.wdCount := rfl
@[simp] theorem Strand.raise_halted (t : Strand) (f : Flags) : (t.raise f).halted = t.halted := rfl
@[simp] theorem Strand.raise_captured (t : Strand) (f : Flags) : (t.raise f).captured = t.captured := rfl
@[simp] theorem Strand.raise_asks (t : Strand) (f : Flags) : (t.raise f).asks = t.asks := rfl
@[simp] theorem Strand.raise_waitCopies (t : Strand) (f : Flags) : (t.raise f).waitCopies = t.waitCopies := rfl

/-! #### State.setReg -/

@[simp] theorem State.setReg_gtime (s : State) (i : Nat) (x : Word) : (s.setReg i x).gtime = s.gtime := rfl
@[simp] theorem State.setReg_cur (s : State) (i : Nat) (x : Word) : (s.setReg i x).cur = s.cur.setReg i x := rfl
@[simp] theorem State.setReg_curRef (s : State) (i : Nat) (x : Word) : (s.setReg i x).curRef = s.curRef := rfl
@[simp] theorem State.setReg_others (s : State) (i : Nat) (x : Word) : (s.setReg i x).others = s.others := rfl
@[simp] theorem State.setReg_ghosts (s : State) (i : Nat) (x : Word) : (s.setReg i x).ghosts = s.ghosts := rfl
@[simp] theorem State.setReg_mem (s : State) (i : Nat) (x : Word) : (s.setReg i x).mem = s.mem := rfl
@[simp] theorem State.setReg_full (s : State) (i : Nat) (x : Word) : (s.setReg i x).full = s.full := rfl
@[simp] theorem State.setReg_pkg (s : State) (i : Nat) (x : Word) : (s.setReg i x).pkg = s.pkg := rfl
@[simp] theorem State.setReg_host (s : State) (i : Nat) (x : Word) : (s.setReg i x).host = s.host := rfl
@[simp] theorem State.setReg_sched (s : State) (i : Nat) (x : Word) : (s.setReg i x).sched = s.sched := rfl
@[simp] theorem State.setReg_cores (s : State) (i : Nat) (x : Word) : (s.setReg i x).cores = s.cores := rfl
@[simp] theorem State.setReg_incs (s : State) (i : Nat) (x : Word) : (s.setReg i x).incs = s.incs := rfl
@[simp] theorem State.setReg_peers (s : State) (i : Nat) (x : Word) : (s.setReg i x).peers = s.peers := rfl
@[simp] theorem State.setReg_news (s : State) (i : Nat) (x : Word) : (s.setReg i x).news = s.news := rfl
@[simp] theorem State.setReg_tlb (s : State) (i : Nat) (x : Word) : (s.setReg i x).tlb = s.tlb := rfl
@[simp] theorem State.setReg_micro (s : State) (i : Nat) (x : Word) : (s.setReg i x).micro = s.micro := rfl
@[simp] theorem State.setReg_objs (s : State) (i : Nat) (x : Word) : (s.setReg i x).objs = s.objs := rfl
@[simp] theorem State.setReg_objCache (s : State) (i : Nat) (x : Word) : (s.setReg i x).objCache = s.objCache := rfl
@[simp] theorem State.setReg_expiry (s : State) (i : Nat) (x : Word) : (s.setReg i x).expiry = s.expiry := rfl
@[simp] theorem State.setReg_cells (s : State) (i : Nat) (x : Word) : (s.setReg i x).cells = s.cells := rfl
@[simp] theorem State.setReg_l2 (s : State) (i : Nat) (x : Word) : (s.setReg i x).l2 = s.l2 := rfl
@[simp] theorem State.setReg_stale (s : State) (i : Nat) (x : Word) : (s.setReg i x).stale = s.stale := rfl
@[simp] theorem State.setReg_dirty (s : State) (i : Nat) (x : Word) : (s.setReg i x).dirty = s.dirty := rfl
@[simp] theorem State.setReg_snoop (s : State) (i : Nat) (x : Word) : (s.setReg i x).snoop = s.snoop := rfl
@[simp] theorem State.setReg_snoopInv (s : State) (i : Nat) (x : Word) : (s.setReg i x).snoopInv = s.snoopInv := rfl
@[simp] theorem State.setReg_heldReads (s : State) (i : Nat) (x : Word) : (s.setReg i x).heldReads = s.heldReads := rfl
@[simp] theorem State.setReg_homeWrites (s : State) (i : Nat) (x : Word) : (s.setReg i x).homeWrites = s.homeWrites := rfl
@[simp] theorem State.setReg_hostLines (s : State) (i : Nat) (x : Word) : (s.setReg i x).hostLines = s.hostLines := rfl
@[simp] theorem State.setReg_poison (s : State) (i : Nat) (x : Word) : (s.setReg i x).poison = s.poison := rfl
@[simp] theorem State.setReg_latent (s : State) (i : Nat) (x : Word) : (s.setReg i x).latent = s.latent := rfl
@[simp] theorem State.setReg_correctable (s : State) (i : Nat) (x : Word) : (s.setReg i x).correctable = s.correctable := rfl
@[simp] theorem State.setReg_corrected (s : State) (i : Nat) (x : Word) : (s.setReg i x).corrected = s.corrected := rfl
@[simp] theorem State.setReg_rowClear (s : State) (i : Nat) (x : Word) : (s.setReg i x).rowClear = s.rowClear := rfl
@[simp] theorem State.setReg_portQueue (s : State) (i : Nat) (x : Word) : (s.setReg i x).portQueue = s.portQueue := rfl
@[simp] theorem State.setReg_popQueue (s : State) (i : Nat) (x : Word) : (s.setReg i x).popQueue = s.popQueue := rfl
@[simp] theorem State.setReg_syncs (s : State) (i : Nat) (x : Word) : (s.setReg i x).syncs = s.syncs := rfl
@[simp] theorem State.setReg_lateSyncs (s : State) (i : Nat) (x : Word) : (s.setReg i x).lateSyncs = s.lateSyncs := rfl
@[simp] theorem State.setReg_blus (s : State) (i : Nat) (x : Word) : (s.setReg i x).blus = s.blus := rfl
@[simp] theorem State.setReg_blu (s : State) (i : Nat) (x : Word) : (s.setReg i x).blu = s.blu := rfl
@[simp] theorem State.setReg_cmds (s : State) (i : Nat) (x : Word) : (s.setReg i x).cmds = s.cmds := rfl
@[simp] theorem State.setReg_nextGrant (s : State) (i : Nat) (x : Word) : (s.setReg i x).nextGrant = s.nextGrant := rfl
@[simp] theorem State.setReg_closed (s : State) (i : Nat) (x : Word) : (s.setReg i x).closed = s.closed := rfl
@[simp] theorem State.setReg_epochs (s : State) (i : Nat) (x : Word) : (s.setReg i x).epochs = s.epochs := rfl
@[simp] theorem State.setReg_free (s : State) (i : Nat) (x : Word) : (s.setReg i x).free = s.free := rfl
@[simp] theorem State.setReg_agenda (s : State) (i : Nat) (x : Word) : (s.setReg i x).agenda = s.agenda := rfl

/-! #### State.setCore -/

@[simp] theorem State.setCore_gtime (s : State) (c : Nat) (k : CoreSt) : (s.setCore c k).gtime = s.gtime := rfl
@[simp] theorem State.setCore_cur (s : State) (c : Nat) (k : CoreSt) : (s.setCore c k).cur = s.cur := rfl
@[simp] theorem State.setCore_curRef (s : State) (c : Nat) (k : CoreSt) : (s.setCore c k).curRef = s.curRef := rfl
@[simp] theorem State.setCore_others (s : State) (c : Nat) (k : CoreSt) : (s.setCore c k).others = s.others := rfl
@[simp] theorem State.setCore_ghosts (s : State) (c : Nat) (k : CoreSt) : (s.setCore c k).ghosts = s.ghosts := rfl
@[simp] theorem State.setCore_mem (s : State) (c : Nat) (k : CoreSt) : (s.setCore c k).mem = s.mem := rfl
@[simp] theorem State.setCore_full (s : State) (c : Nat) (k : CoreSt) : (s.setCore c k).full = s.full := rfl
@[simp] theorem State.setCore_pkg (s : State) (c : Nat) (k : CoreSt) : (s.setCore c k).pkg = s.pkg := rfl
@[simp] theorem State.setCore_host (s : State) (c : Nat) (k : CoreSt) : (s.setCore c k).host = s.host := rfl
@[simp] theorem State.setCore_sched (s : State) (c : Nat) (k : CoreSt) : (s.setCore c k).sched = s.sched := rfl
@[simp] theorem State.setCore_cores (s : State) (c : Nat) (k : CoreSt) : (s.setCore c k).cores = mapSet s.cores c k := rfl
@[simp] theorem State.setCore_incs (s : State) (c : Nat) (k : CoreSt) : (s.setCore c k).incs = s.incs := rfl
@[simp] theorem State.setCore_peers (s : State) (c : Nat) (k : CoreSt) : (s.setCore c k).peers = s.peers := rfl
@[simp] theorem State.setCore_news (s : State) (c : Nat) (k : CoreSt) : (s.setCore c k).news = s.news := rfl
@[simp] theorem State.setCore_tlb (s : State) (c : Nat) (k : CoreSt) : (s.setCore c k).tlb = s.tlb := rfl
@[simp] theorem State.setCore_micro (s : State) (c : Nat) (k : CoreSt) : (s.setCore c k).micro = s.micro := rfl
@[simp] theorem State.setCore_objs (s : State) (c : Nat) (k : CoreSt) : (s.setCore c k).objs = s.objs := rfl
@[simp] theorem State.setCore_objCache (s : State) (c : Nat) (k : CoreSt) : (s.setCore c k).objCache = s.objCache := rfl
@[simp] theorem State.setCore_expiry (s : State) (c : Nat) (k : CoreSt) : (s.setCore c k).expiry = s.expiry := rfl
@[simp] theorem State.setCore_cells (s : State) (c : Nat) (k : CoreSt) : (s.setCore c k).cells = s.cells := rfl
@[simp] theorem State.setCore_l2 (s : State) (c : Nat) (k : CoreSt) : (s.setCore c k).l2 = s.l2 := rfl
@[simp] theorem State.setCore_stale (s : State) (c : Nat) (k : CoreSt) : (s.setCore c k).stale = s.stale := rfl
@[simp] theorem State.setCore_dirty (s : State) (c : Nat) (k : CoreSt) : (s.setCore c k).dirty = s.dirty := rfl
@[simp] theorem State.setCore_snoop (s : State) (c : Nat) (k : CoreSt) : (s.setCore c k).snoop = s.snoop := rfl
@[simp] theorem State.setCore_snoopInv (s : State) (c : Nat) (k : CoreSt) : (s.setCore c k).snoopInv = s.snoopInv := rfl
@[simp] theorem State.setCore_heldReads (s : State) (c : Nat) (k : CoreSt) : (s.setCore c k).heldReads = s.heldReads := rfl
@[simp] theorem State.setCore_homeWrites (s : State) (c : Nat) (k : CoreSt) : (s.setCore c k).homeWrites = s.homeWrites := rfl
@[simp] theorem State.setCore_hostLines (s : State) (c : Nat) (k : CoreSt) : (s.setCore c k).hostLines = s.hostLines := rfl
@[simp] theorem State.setCore_poison (s : State) (c : Nat) (k : CoreSt) : (s.setCore c k).poison = s.poison := rfl
@[simp] theorem State.setCore_latent (s : State) (c : Nat) (k : CoreSt) : (s.setCore c k).latent = s.latent := rfl
@[simp] theorem State.setCore_correctable (s : State) (c : Nat) (k : CoreSt) : (s.setCore c k).correctable = s.correctable := rfl
@[simp] theorem State.setCore_corrected (s : State) (c : Nat) (k : CoreSt) : (s.setCore c k).corrected = s.corrected := rfl
@[simp] theorem State.setCore_rowClear (s : State) (c : Nat) (k : CoreSt) : (s.setCore c k).rowClear = s.rowClear := rfl
@[simp] theorem State.setCore_portQueue (s : State) (c : Nat) (k : CoreSt) : (s.setCore c k).portQueue = s.portQueue := rfl
@[simp] theorem State.setCore_popQueue (s : State) (c : Nat) (k : CoreSt) : (s.setCore c k).popQueue = s.popQueue := rfl
@[simp] theorem State.setCore_syncs (s : State) (c : Nat) (k : CoreSt) : (s.setCore c k).syncs = s.syncs := rfl
@[simp] theorem State.setCore_lateSyncs (s : State) (c : Nat) (k : CoreSt) : (s.setCore c k).lateSyncs = s.lateSyncs := rfl
@[simp] theorem State.setCore_blus (s : State) (c : Nat) (k : CoreSt) : (s.setCore c k).blus = s.blus := rfl
@[simp] theorem State.setCore_blu (s : State) (c : Nat) (k : CoreSt) : (s.setCore c k).blu = s.blu := rfl
@[simp] theorem State.setCore_cmds (s : State) (c : Nat) (k : CoreSt) : (s.setCore c k).cmds = s.cmds := rfl
@[simp] theorem State.setCore_nextGrant (s : State) (c : Nat) (k : CoreSt) : (s.setCore c k).nextGrant = s.nextGrant := rfl
@[simp] theorem State.setCore_closed (s : State) (c : Nat) (k : CoreSt) : (s.setCore c k).closed = s.closed := rfl
@[simp] theorem State.setCore_epochs (s : State) (c : Nat) (k : CoreSt) : (s.setCore c k).epochs = s.epochs := rfl
@[simp] theorem State.setCore_free (s : State) (c : Nat) (k : CoreSt) : (s.setCore c k).free = s.free := rfl
@[simp] theorem State.setCore_agenda (s : State) (c : Nat) (k : CoreSt) : (s.setCore c k).agenda = s.agenda := rfl

/-! #### State.setBlu -/

@[simp] theorem State.setBlu_gtime (s : State) (b : Nat) (x : Blu) : (s.setBlu b x).gtime = s.gtime := rfl
@[simp] theorem State.setBlu_cur (s : State) (b : Nat) (x : Blu) : (s.setBlu b x).cur = s.cur := rfl
@[simp] theorem State.setBlu_curRef (s : State) (b : Nat) (x : Blu) : (s.setBlu b x).curRef = s.curRef := rfl
@[simp] theorem State.setBlu_others (s : State) (b : Nat) (x : Blu) : (s.setBlu b x).others = s.others := rfl
@[simp] theorem State.setBlu_ghosts (s : State) (b : Nat) (x : Blu) : (s.setBlu b x).ghosts = s.ghosts := rfl
@[simp] theorem State.setBlu_mem (s : State) (b : Nat) (x : Blu) : (s.setBlu b x).mem = s.mem := rfl
@[simp] theorem State.setBlu_full (s : State) (b : Nat) (x : Blu) : (s.setBlu b x).full = s.full := rfl
@[simp] theorem State.setBlu_pkg (s : State) (b : Nat) (x : Blu) : (s.setBlu b x).pkg = s.pkg := rfl
@[simp] theorem State.setBlu_host (s : State) (b : Nat) (x : Blu) : (s.setBlu b x).host = s.host := rfl
@[simp] theorem State.setBlu_sched (s : State) (b : Nat) (x : Blu) : (s.setBlu b x).sched = s.sched := rfl
@[simp] theorem State.setBlu_cores (s : State) (b : Nat) (x : Blu) : (s.setBlu b x).cores = s.cores := rfl
@[simp] theorem State.setBlu_incs (s : State) (b : Nat) (x : Blu) : (s.setBlu b x).incs = s.incs := rfl
@[simp] theorem State.setBlu_peers (s : State) (b : Nat) (x : Blu) : (s.setBlu b x).peers = s.peers := rfl
@[simp] theorem State.setBlu_news (s : State) (b : Nat) (x : Blu) : (s.setBlu b x).news = s.news := rfl
@[simp] theorem State.setBlu_tlb (s : State) (b : Nat) (x : Blu) : (s.setBlu b x).tlb = s.tlb := rfl
@[simp] theorem State.setBlu_micro (s : State) (b : Nat) (x : Blu) : (s.setBlu b x).micro = s.micro := rfl
@[simp] theorem State.setBlu_objs (s : State) (b : Nat) (x : Blu) : (s.setBlu b x).objs = s.objs := rfl
@[simp] theorem State.setBlu_objCache (s : State) (b : Nat) (x : Blu) : (s.setBlu b x).objCache = s.objCache := rfl
@[simp] theorem State.setBlu_expiry (s : State) (b : Nat) (x : Blu) : (s.setBlu b x).expiry = s.expiry := rfl
@[simp] theorem State.setBlu_cells (s : State) (b : Nat) (x : Blu) : (s.setBlu b x).cells = s.cells := rfl
@[simp] theorem State.setBlu_l2 (s : State) (b : Nat) (x : Blu) : (s.setBlu b x).l2 = s.l2 := rfl
@[simp] theorem State.setBlu_stale (s : State) (b : Nat) (x : Blu) : (s.setBlu b x).stale = s.stale := rfl
@[simp] theorem State.setBlu_dirty (s : State) (b : Nat) (x : Blu) : (s.setBlu b x).dirty = s.dirty := rfl
@[simp] theorem State.setBlu_snoop (s : State) (b : Nat) (x : Blu) : (s.setBlu b x).snoop = s.snoop := rfl
@[simp] theorem State.setBlu_snoopInv (s : State) (b : Nat) (x : Blu) : (s.setBlu b x).snoopInv = s.snoopInv := rfl
@[simp] theorem State.setBlu_heldReads (s : State) (b : Nat) (x : Blu) : (s.setBlu b x).heldReads = s.heldReads := rfl
@[simp] theorem State.setBlu_homeWrites (s : State) (b : Nat) (x : Blu) : (s.setBlu b x).homeWrites = s.homeWrites := rfl
@[simp] theorem State.setBlu_hostLines (s : State) (b : Nat) (x : Blu) : (s.setBlu b x).hostLines = s.hostLines := rfl
@[simp] theorem State.setBlu_poison (s : State) (b : Nat) (x : Blu) : (s.setBlu b x).poison = s.poison := rfl
@[simp] theorem State.setBlu_latent (s : State) (b : Nat) (x : Blu) : (s.setBlu b x).latent = s.latent := rfl
@[simp] theorem State.setBlu_correctable (s : State) (b : Nat) (x : Blu) : (s.setBlu b x).correctable = s.correctable := rfl
@[simp] theorem State.setBlu_corrected (s : State) (b : Nat) (x : Blu) : (s.setBlu b x).corrected = s.corrected := rfl
@[simp] theorem State.setBlu_rowClear (s : State) (b : Nat) (x : Blu) : (s.setBlu b x).rowClear = s.rowClear := rfl
@[simp] theorem State.setBlu_portQueue (s : State) (b : Nat) (x : Blu) : (s.setBlu b x).portQueue = s.portQueue := rfl
@[simp] theorem State.setBlu_popQueue (s : State) (b : Nat) (x : Blu) : (s.setBlu b x).popQueue = s.popQueue := rfl
@[simp] theorem State.setBlu_syncs (s : State) (b : Nat) (x : Blu) : (s.setBlu b x).syncs = s.syncs := rfl
@[simp] theorem State.setBlu_lateSyncs (s : State) (b : Nat) (x : Blu) : (s.setBlu b x).lateSyncs = s.lateSyncs := rfl
@[simp] theorem State.setBlu_blus (s : State) (b : Nat) (x : Blu) : (s.setBlu b x).blus = mapSet s.blus b x := rfl
@[simp] theorem State.setBlu_blu (s : State) (b : Nat) (x : Blu) : (s.setBlu b x).blu = s.blu := rfl
@[simp] theorem State.setBlu_cmds (s : State) (b : Nat) (x : Blu) : (s.setBlu b x).cmds = s.cmds := rfl
@[simp] theorem State.setBlu_nextGrant (s : State) (b : Nat) (x : Blu) : (s.setBlu b x).nextGrant = s.nextGrant := rfl
@[simp] theorem State.setBlu_closed (s : State) (b : Nat) (x : Blu) : (s.setBlu b x).closed = s.closed := rfl
@[simp] theorem State.setBlu_epochs (s : State) (b : Nat) (x : Blu) : (s.setBlu b x).epochs = s.epochs := rfl
@[simp] theorem State.setBlu_free (s : State) (b : Nat) (x : Blu) : (s.setBlu b x).free = s.free := rfl
@[simp] theorem State.setBlu_agenda (s : State) (b : Nat) (x : Blu) : (s.setBlu b x).agenda = s.agenda := rfl

/-! #### State.post -/

@[simp] theorem State.post_gtime (s : State) (d : Nat) (i : Instr) : (s.post d i).gtime = s.gtime := rfl
@[simp] theorem State.post_cur (s : State) (d : Nat) (i : Instr) : (s.post d i).cur = s.cur := rfl
@[simp] theorem State.post_curRef (s : State) (d : Nat) (i : Instr) : (s.post d i).curRef = s.curRef := rfl
@[simp] theorem State.post_others (s : State) (d : Nat) (i : Instr) : (s.post d i).others = s.others := rfl
@[simp] theorem State.post_ghosts (s : State) (d : Nat) (i : Instr) : (s.post d i).ghosts = s.ghosts := rfl
@[simp] theorem State.post_mem (s : State) (d : Nat) (i : Instr) : (s.post d i).mem = s.mem := rfl
@[simp] theorem State.post_full (s : State) (d : Nat) (i : Instr) : (s.post d i).full = s.full := rfl
@[simp] theorem State.post_pkg (s : State) (d : Nat) (i : Instr) : (s.post d i).pkg = s.pkg := rfl
@[simp] theorem State.post_host (s : State) (d : Nat) (i : Instr) : (s.post d i).host = s.host := rfl
@[simp] theorem State.post_sched (s : State) (d : Nat) (i : Instr) : (s.post d i).sched = s.sched := rfl
@[simp] theorem State.post_cores (s : State) (d : Nat) (i : Instr) : (s.post d i).cores = s.cores := rfl
@[simp] theorem State.post_incs (s : State) (d : Nat) (i : Instr) : (s.post d i).incs = s.incs := rfl
@[simp] theorem State.post_peers (s : State) (d : Nat) (i : Instr) : (s.post d i).peers = s.peers := rfl
@[simp] theorem State.post_news (s : State) (d : Nat) (i : Instr) : (s.post d i).news = s.news := rfl
@[simp] theorem State.post_tlb (s : State) (d : Nat) (i : Instr) : (s.post d i).tlb = s.tlb := rfl
@[simp] theorem State.post_micro (s : State) (d : Nat) (i : Instr) : (s.post d i).micro = s.micro := rfl
@[simp] theorem State.post_objs (s : State) (d : Nat) (i : Instr) : (s.post d i).objs = s.objs := rfl
@[simp] theorem State.post_objCache (s : State) (d : Nat) (i : Instr) : (s.post d i).objCache = s.objCache := rfl
@[simp] theorem State.post_expiry (s : State) (d : Nat) (i : Instr) : (s.post d i).expiry = s.expiry := rfl
@[simp] theorem State.post_cells (s : State) (d : Nat) (i : Instr) : (s.post d i).cells = s.cells := rfl
@[simp] theorem State.post_l2 (s : State) (d : Nat) (i : Instr) : (s.post d i).l2 = s.l2 := rfl
@[simp] theorem State.post_stale (s : State) (d : Nat) (i : Instr) : (s.post d i).stale = s.stale := rfl
@[simp] theorem State.post_dirty (s : State) (d : Nat) (i : Instr) : (s.post d i).dirty = s.dirty := rfl
@[simp] theorem State.post_snoop (s : State) (d : Nat) (i : Instr) : (s.post d i).snoop = s.snoop := rfl
@[simp] theorem State.post_snoopInv (s : State) (d : Nat) (i : Instr) : (s.post d i).snoopInv = s.snoopInv := rfl
@[simp] theorem State.post_heldReads (s : State) (d : Nat) (i : Instr) : (s.post d i).heldReads = s.heldReads := rfl
@[simp] theorem State.post_homeWrites (s : State) (d : Nat) (i : Instr) : (s.post d i).homeWrites = s.homeWrites := rfl
@[simp] theorem State.post_hostLines (s : State) (d : Nat) (i : Instr) : (s.post d i).hostLines = s.hostLines := rfl
@[simp] theorem State.post_poison (s : State) (d : Nat) (i : Instr) : (s.post d i).poison = s.poison := rfl
@[simp] theorem State.post_latent (s : State) (d : Nat) (i : Instr) : (s.post d i).latent = s.latent := rfl
@[simp] theorem State.post_correctable (s : State) (d : Nat) (i : Instr) : (s.post d i).correctable = s.correctable := rfl
@[simp] theorem State.post_corrected (s : State) (d : Nat) (i : Instr) : (s.post d i).corrected = s.corrected := rfl
@[simp] theorem State.post_rowClear (s : State) (d : Nat) (i : Instr) : (s.post d i).rowClear = s.rowClear := rfl
@[simp] theorem State.post_portQueue (s : State) (d : Nat) (i : Instr) : (s.post d i).portQueue = s.portQueue := rfl
@[simp] theorem State.post_popQueue (s : State) (d : Nat) (i : Instr) : (s.post d i).popQueue = s.popQueue := rfl
@[simp] theorem State.post_syncs (s : State) (d : Nat) (i : Instr) : (s.post d i).syncs = s.syncs := rfl
@[simp] theorem State.post_lateSyncs (s : State) (d : Nat) (i : Instr) : (s.post d i).lateSyncs = s.lateSyncs := rfl
@[simp] theorem State.post_blus (s : State) (d : Nat) (i : Instr) : (s.post d i).blus = s.blus := rfl
@[simp] theorem State.post_blu (s : State) (d : Nat) (i : Instr) : (s.post d i).blu = s.blu := rfl
@[simp] theorem State.post_cmds (s : State) (d : Nat) (i : Instr) : (s.post d i).cmds = s.cmds := rfl
@[simp] theorem State.post_nextGrant (s : State) (d : Nat) (i : Instr) : (s.post d i).nextGrant = s.nextGrant := rfl
@[simp] theorem State.post_closed (s : State) (d : Nat) (i : Instr) : (s.post d i).closed = s.closed := rfl
@[simp] theorem State.post_epochs (s : State) (d : Nat) (i : Instr) : (s.post d i).epochs = s.epochs := rfl
@[simp] theorem State.post_free (s : State) (d : Nat) (i : Instr) : (s.post d i).free = s.free := rfl
@[simp] theorem State.post_agenda (s : State) (d : Nat) (i : Instr) : (s.post d i).agenda = insertDated s.agenda (s.now + d) i := rfl

/-! #### State.setLaunch -/

@[simp] theorem State.setLaunch_gtime (s : State) (l : Launch) : (s.setLaunch l).gtime = s.gtime := rfl
@[simp] theorem State.setLaunch_cur (s : State) (l : Launch) : (s.setLaunch l).cur = s.cur := rfl
@[simp] theorem State.setLaunch_curRef (s : State) (l : Launch) : (s.setLaunch l).curRef = s.curRef := rfl
@[simp] theorem State.setLaunch_others (s : State) (l : Launch) : (s.setLaunch l).others = s.others := rfl
@[simp] theorem State.setLaunch_ghosts (s : State) (l : Launch) : (s.setLaunch l).ghosts = s.ghosts := rfl
@[simp] theorem State.setLaunch_mem (s : State) (l : Launch) : (s.setLaunch l).mem = s.mem := rfl
@[simp] theorem State.setLaunch_full (s : State) (l : Launch) : (s.setLaunch l).full = s.full := rfl
@[simp] theorem State.setLaunch_pkg (s : State) (l : Launch) : (s.setLaunch l).pkg = s.pkg := rfl
@[simp] theorem State.setLaunch_host (s : State) (l : Launch) : (s.setLaunch l).host = s.host := rfl
@[simp] theorem State.setLaunch_cores (s : State) (l : Launch) : (s.setLaunch l).cores = s.cores := rfl
@[simp] theorem State.setLaunch_incs (s : State) (l : Launch) : (s.setLaunch l).incs = s.incs := rfl
@[simp] theorem State.setLaunch_peers (s : State) (l : Launch) : (s.setLaunch l).peers = s.peers := rfl
@[simp] theorem State.setLaunch_news (s : State) (l : Launch) : (s.setLaunch l).news = s.news := rfl
@[simp] theorem State.setLaunch_tlb (s : State) (l : Launch) : (s.setLaunch l).tlb = s.tlb := rfl
@[simp] theorem State.setLaunch_micro (s : State) (l : Launch) : (s.setLaunch l).micro = s.micro := rfl
@[simp] theorem State.setLaunch_objs (s : State) (l : Launch) : (s.setLaunch l).objs = s.objs := rfl
@[simp] theorem State.setLaunch_objCache (s : State) (l : Launch) : (s.setLaunch l).objCache = s.objCache := rfl
@[simp] theorem State.setLaunch_expiry (s : State) (l : Launch) : (s.setLaunch l).expiry = s.expiry := rfl
@[simp] theorem State.setLaunch_cells (s : State) (l : Launch) : (s.setLaunch l).cells = s.cells := rfl
@[simp] theorem State.setLaunch_l2 (s : State) (l : Launch) : (s.setLaunch l).l2 = s.l2 := rfl
@[simp] theorem State.setLaunch_stale (s : State) (l : Launch) : (s.setLaunch l).stale = s.stale := rfl
@[simp] theorem State.setLaunch_dirty (s : State) (l : Launch) : (s.setLaunch l).dirty = s.dirty := rfl
@[simp] theorem State.setLaunch_snoop (s : State) (l : Launch) : (s.setLaunch l).snoop = s.snoop := rfl
@[simp] theorem State.setLaunch_snoopInv (s : State) (l : Launch) : (s.setLaunch l).snoopInv = s.snoopInv := rfl
@[simp] theorem State.setLaunch_heldReads (s : State) (l : Launch) : (s.setLaunch l).heldReads = s.heldReads := rfl
@[simp] theorem State.setLaunch_homeWrites (s : State) (l : Launch) : (s.setLaunch l).homeWrites = s.homeWrites := rfl
@[simp] theorem State.setLaunch_hostLines (s : State) (l : Launch) : (s.setLaunch l).hostLines = s.hostLines := rfl
@[simp] theorem State.setLaunch_poison (s : State) (l : Launch) : (s.setLaunch l).poison = s.poison := rfl
@[simp] theorem State.setLaunch_latent (s : State) (l : Launch) : (s.setLaunch l).latent = s.latent := rfl
@[simp] theorem State.setLaunch_correctable (s : State) (l : Launch) : (s.setLaunch l).correctable = s.correctable := rfl
@[simp] theorem State.setLaunch_corrected (s : State) (l : Launch) : (s.setLaunch l).corrected = s.corrected := rfl
@[simp] theorem State.setLaunch_rowClear (s : State) (l : Launch) : (s.setLaunch l).rowClear = s.rowClear := rfl
@[simp] theorem State.setLaunch_portQueue (s : State) (l : Launch) : (s.setLaunch l).portQueue = s.portQueue := rfl
@[simp] theorem State.setLaunch_popQueue (s : State) (l : Launch) : (s.setLaunch l).popQueue = s.popQueue := rfl
@[simp] theorem State.setLaunch_syncs (s : State) (l : Launch) : (s.setLaunch l).syncs = s.syncs := rfl
@[simp] theorem State.setLaunch_lateSyncs (s : State) (l : Launch) : (s.setLaunch l).lateSyncs = s.lateSyncs := rfl
@[simp] theorem State.setLaunch_blus (s : State) (l : Launch) : (s.setLaunch l).blus = s.blus := rfl
@[simp] theorem State.setLaunch_blu (s : State) (l : Launch) : (s.setLaunch l).blu = s.blu := rfl
@[simp] theorem State.setLaunch_cmds (s : State) (l : Launch) : (s.setLaunch l).cmds = s.cmds := rfl
@[simp] theorem State.setLaunch_nextGrant (s : State) (l : Launch) : (s.setLaunch l).nextGrant = s.nextGrant := rfl
@[simp] theorem State.setLaunch_closed (s : State) (l : Launch) : (s.setLaunch l).closed = s.closed := rfl
@[simp] theorem State.setLaunch_epochs (s : State) (l : Launch) : (s.setLaunch l).epochs = s.epochs := rfl
@[simp] theorem State.setLaunch_free (s : State) (l : Launch) : (s.setLaunch l).free = s.free := rfl
@[simp] theorem State.setLaunch_agenda (s : State) (l : Launch) : (s.setLaunch l).agenda = s.agenda := rfl

/-! #### State.setStream -/

@[simp] theorem State.setStream_gtime (s : State) (q : Nat) (x : Stream) : (s.setStream q x).gtime = s.gtime := rfl
@[simp] theorem State.setStream_cur (s : State) (q : Nat) (x : Stream) : (s.setStream q x).cur = { s.cur with streams := s.cur.streams.setIfInBounds q x } := rfl
@[simp] theorem State.setStream_curRef (s : State) (q : Nat) (x : Stream) : (s.setStream q x).curRef = s.curRef := rfl
@[simp] theorem State.setStream_others (s : State) (q : Nat) (x : Stream) : (s.setStream q x).others = s.others := rfl
@[simp] theorem State.setStream_ghosts (s : State) (q : Nat) (x : Stream) : (s.setStream q x).ghosts = s.ghosts := rfl
@[simp] theorem State.setStream_mem (s : State) (q : Nat) (x : Stream) : (s.setStream q x).mem = s.mem := rfl
@[simp] theorem State.setStream_full (s : State) (q : Nat) (x : Stream) : (s.setStream q x).full = s.full := rfl
@[simp] theorem State.setStream_pkg (s : State) (q : Nat) (x : Stream) : (s.setStream q x).pkg = s.pkg := rfl
@[simp] theorem State.setStream_host (s : State) (q : Nat) (x : Stream) : (s.setStream q x).host = s.host := rfl
@[simp] theorem State.setStream_sched (s : State) (q : Nat) (x : Stream) : (s.setStream q x).sched = s.sched := rfl
@[simp] theorem State.setStream_cores (s : State) (q : Nat) (x : Stream) : (s.setStream q x).cores = s.cores := rfl
@[simp] theorem State.setStream_incs (s : State) (q : Nat) (x : Stream) : (s.setStream q x).incs = s.incs := rfl
@[simp] theorem State.setStream_peers (s : State) (q : Nat) (x : Stream) : (s.setStream q x).peers = s.peers := rfl
@[simp] theorem State.setStream_news (s : State) (q : Nat) (x : Stream) : (s.setStream q x).news = s.news := rfl
@[simp] theorem State.setStream_tlb (s : State) (q : Nat) (x : Stream) : (s.setStream q x).tlb = s.tlb := rfl
@[simp] theorem State.setStream_micro (s : State) (q : Nat) (x : Stream) : (s.setStream q x).micro = s.micro := rfl
@[simp] theorem State.setStream_objs (s : State) (q : Nat) (x : Stream) : (s.setStream q x).objs = s.objs := rfl
@[simp] theorem State.setStream_objCache (s : State) (q : Nat) (x : Stream) : (s.setStream q x).objCache = s.objCache := rfl
@[simp] theorem State.setStream_expiry (s : State) (q : Nat) (x : Stream) : (s.setStream q x).expiry = s.expiry := rfl
@[simp] theorem State.setStream_cells (s : State) (q : Nat) (x : Stream) : (s.setStream q x).cells = s.cells := rfl
@[simp] theorem State.setStream_l2 (s : State) (q : Nat) (x : Stream) : (s.setStream q x).l2 = s.l2 := rfl
@[simp] theorem State.setStream_stale (s : State) (q : Nat) (x : Stream) : (s.setStream q x).stale = s.stale := rfl
@[simp] theorem State.setStream_dirty (s : State) (q : Nat) (x : Stream) : (s.setStream q x).dirty = s.dirty := rfl
@[simp] theorem State.setStream_snoop (s : State) (q : Nat) (x : Stream) : (s.setStream q x).snoop = s.snoop := rfl
@[simp] theorem State.setStream_snoopInv (s : State) (q : Nat) (x : Stream) : (s.setStream q x).snoopInv = s.snoopInv := rfl
@[simp] theorem State.setStream_heldReads (s : State) (q : Nat) (x : Stream) : (s.setStream q x).heldReads = s.heldReads := rfl
@[simp] theorem State.setStream_homeWrites (s : State) (q : Nat) (x : Stream) : (s.setStream q x).homeWrites = s.homeWrites := rfl
@[simp] theorem State.setStream_hostLines (s : State) (q : Nat) (x : Stream) : (s.setStream q x).hostLines = s.hostLines := rfl
@[simp] theorem State.setStream_poison (s : State) (q : Nat) (x : Stream) : (s.setStream q x).poison = s.poison := rfl
@[simp] theorem State.setStream_latent (s : State) (q : Nat) (x : Stream) : (s.setStream q x).latent = s.latent := rfl
@[simp] theorem State.setStream_correctable (s : State) (q : Nat) (x : Stream) : (s.setStream q x).correctable = s.correctable := rfl
@[simp] theorem State.setStream_corrected (s : State) (q : Nat) (x : Stream) : (s.setStream q x).corrected = s.corrected := rfl
@[simp] theorem State.setStream_rowClear (s : State) (q : Nat) (x : Stream) : (s.setStream q x).rowClear = s.rowClear := rfl
@[simp] theorem State.setStream_portQueue (s : State) (q : Nat) (x : Stream) : (s.setStream q x).portQueue = s.portQueue := rfl
@[simp] theorem State.setStream_popQueue (s : State) (q : Nat) (x : Stream) : (s.setStream q x).popQueue = s.popQueue := rfl
@[simp] theorem State.setStream_syncs (s : State) (q : Nat) (x : Stream) : (s.setStream q x).syncs = s.syncs := rfl
@[simp] theorem State.setStream_lateSyncs (s : State) (q : Nat) (x : Stream) : (s.setStream q x).lateSyncs = s.lateSyncs := rfl
@[simp] theorem State.setStream_blus (s : State) (q : Nat) (x : Stream) : (s.setStream q x).blus = s.blus := rfl
@[simp] theorem State.setStream_blu (s : State) (q : Nat) (x : Stream) : (s.setStream q x).blu = s.blu := rfl
@[simp] theorem State.setStream_cmds (s : State) (q : Nat) (x : Stream) : (s.setStream q x).cmds = s.cmds := rfl
@[simp] theorem State.setStream_nextGrant (s : State) (q : Nat) (x : Stream) : (s.setStream q x).nextGrant = s.nextGrant := rfl
@[simp] theorem State.setStream_closed (s : State) (q : Nat) (x : Stream) : (s.setStream q x).closed = s.closed := rfl
@[simp] theorem State.setStream_epochs (s : State) (q : Nat) (x : Stream) : (s.setStream q x).epochs = s.epochs := rfl
@[simp] theorem State.setStream_free (s : State) (q : Nat) (x : Stream) : (s.setStream q x).free = s.free := rfl
@[simp] theorem State.setStream_agenda (s : State) (q : Nat) (x : Stream) : (s.setStream q x).agenda = s.agenda := rfl

/-! #### Mask registers -/

theorem Strand.kreg_setK_other (t : Strand) {i j : Nat} (x : KReg) (h : j ≠ i) : (t.setK i x).kreg j = t.kreg j := by
  unfold Strand.setK Strand.kreg
  split
  · rfl
  · split
    · rfl
    · simp [Ne.symm h]

end Sys2Proof.Machine
end

