-- ==== Sys2Proof/Tests/Slice0.lean ====
section
/-! SUPPORT. Tests of the model: words written from the encodings of the spec, states that meet the hypotheses of the statements, words and terms out of rule, and results worked out by hand. -/

namespace Sys2Proof.Tests

set_option Elab.async false
open Sys2Proof Sys2Proof.Machine Sys2Proof.Claims
/-- STALL 3, C 0. -/
def hd : Hd := { stall := 3, c := false }
/-- R-form fields. -/
def r (d a b : BitVec 5) : RF := { hd, d, a, b }
/-- I-form fields. -/
def im (d a : BitVec 5) (x : BitVec 10) : IF := { hd, d, a, imm := x }
/-- Fields of a shift by an amount. -/
def sh (d a : BitVec 5) (x : BitVec 6) : SF := { hd, d, a, amt := x }
/-- B-form fields. -/
def br (a b : BitVec 5) (x : BitVec 10) : BF := { hd, a, b, off := x }
/-- J-form fields. -/
def jm (d : BitVec 5) (x : BitVec 15) : JF := { hd, d, off := x }
/-- A literal. -/
def lit : Word := 0x0123456789ABCDEF
/-- Extended word 1 with types and a grouping. -/
def e1 (d a b : BitVec 4) (l : BitVec 2) : Ext1 := { Ext1.zero with etd := d, eta := a, etb := b, lmul := l }
/-- Extended word 2 with an immediate. -/
def e2 (x : BitVec 16) : Ext2 := { Ext2.zero with imm16 := x }
/-- A guard two loops deep, on the last turn. -/
def gd : Guard := { g := 2, gk := true }

/-! #### Decoding (R259 to R264 and the encoding tables of each family) -/

/-- Words written from the encodings of alu. -/
noncomputable def aluWords : List (List Word32 × Instr) :=
  [([0x31040018], .add (r 2 4 6)),
   ([0x31041018], .sub (r 2 4 6)),
   ([0x31042018], .and (r 2 4 6)),
   ([0x31043018], .or (r 2 4 6)),
   ([0x31044018], .xor (r 2 4 6)),
   ([0x31045018], .andn (r 2 4 6)),
   ([0x31046018], .sll (r 2 4 6)),
   ([0x31047018], .srl (r 2 4 6)),
   ([0x31048018], .sra (r 2 4 6)),
   ([0x31049018], .ror (r 2 4 6)),
   ([0x3104A018], .slt (r 2 4 6)),
   ([0x3104B018], .sltu (r 2 4 6)),
   ([0x3104C018], .min (r 2 4 6)),
   ([0x3104D018], .max (r 2 4 6)),
   ([0x3104E018], .minu (r 2 4 6)),
   ([0x3104F018], .maxu (r 2 4 6)),
   ([0x31050018], .mul (r 2 4 6)),
   ([0x31051018], .mulh (r 2 4 6)),
   ([0x31052018], .mulhu (r 2 4 6)),
   ([0x31053018], .div (r 2 4 6)),
   ([0x31054018], .divu (r 2 4 6)),
   ([0x31055018], .rem (r 2 4 6)),
   ([0x31056018], .remu (r 2 4 6)),
   ([0x01057018], .clz (r 2 4 0)),
   ([0x01058018], .ctz (r 2 4 0)),
   ([0x01059018], .popc (r 2 4 0)),
   ([0x0105A018], .brev (r 2 4 0)),
   ([0x0105B018], .bswap (r 2 4 0)),
   ([0x3105C018], .clmul (r 2 4 6)),
   ([0x3105D018], .clmulh (r 2 4 6))]

theorem test_decode_alu : aluWords.map (fun p => decodeWords p.1) = aluWords.map (fun p => .ok p.2) := rfl

/-- Words written from the encodings of alx. -/
noncomputable def alxWords : List (List Word32 × Instr) :=
  [([0x01040058], .sextB (r 2 4 0)),
   ([0x01041058], .sextH (r 2 4 0)),
   ([0x01042058], .sextW (r 2 4 0)),
   ([0x01043058], .zextB (r 2 4 0)),
   ([0x01044058], .zextH (r 2 4 0)),
   ([0x01045058], .zextW (r 2 4 0)),
   ([0x31046058], .extr (r 2 4 6)),
   ([0x31047058], .insr (r 2 4 6)),
   ([0x31048058], .csel (r 2 4 6))]

theorem test_decode_alx : alxWords.map (fun p => decodeWords p.1) = alxWords.map (fun p => .ok p.2) := rfl

/-- Words written from the encodings of immediates. -/
noncomputable def immediatesWords : List (List Word32 × Instr) :=
  [([0xFC082098], .addi (im 2 4 0x3F0)),
   ([0x00082099, 0x89ABCDEF, 0x01234567], .addiL ⟨im 2 4 0, lit⟩),
   ([0xFC0820D8], .andi (im 2 4 0x3F0)),
   ([0x000820D9, 0x89ABCDEF, 0x01234567], .andiL ⟨im 2 4 0, lit⟩),
   ([0xFC082118], .ori (im 2 4 0x3F0)),
   ([0x00082119, 0x89ABCDEF, 0x01234567], .oriL ⟨im 2 4 0, lit⟩),
   ([0xFC082158], .xori (im 2 4 0x3F0)),
   ([0x00082159, 0x89ABCDEF, 0x01234567], .xoriL ⟨im 2 4 0, lit⟩),
   ([0x09482198], .slli (sh 2 4 0x25)),
   ([0x19482198], .srli (sh 2 4 0x25)),
   ([0x29482198], .srai (sh 2 4 0x25)),
   ([0x39482198], .rori (sh 2 4 0x25)),
   ([0xFC0821D8], .slti (im 2 4 0x3F0)),
   ([0x000821D9, 0x89ABCDEF, 0x01234567], .sltiL ⟨im 2 4 0, lit⟩),
   ([0xFC082218], .sltiu (im 2 4 0x3F0)),
   ([0x00082219, 0x89ABCDEF, 0x01234567], .sltiuL ⟨im 2 4 0, lit⟩),
   ([0xFC002258], .li (im 2 0 0x3F0)),
   ([0x00002259, 0x89ABCDEF, 0x01234567], .liL ⟨im 2 0 0, lit⟩),
   ([0xFC0824D8], .jalr (im 2 4 0x3F0)),
   ([0xFC082558], .lddI (im 2 4 0x3F0))]

theorem test_decode_immediates : immediatesWords.map (fun p => decodeWords p.1) = immediatesWords.map (fun p => .ok p.2) := rfl

/-- Words written from the encodings of jumps and branches. -/
noncomputable def jumpsBranchesWords : List (List Word32 × Instr) :=
  [([0xFFE02298], .lpc (jm 2 0x7FF0)),
   ([0x00002299, 0x89ABCDEF, 0x01234567], .lpcL ⟨jm 2 0, lit⟩),
   ([0xFC0C4318], .beq (br 4 6 0x3F0)),
   ([0xFC0C4358], .bne (br 4 6 0x3F0)),
   ([0xFC0C4398], .blt (br 4 6 0x3F0)),
   ([0xFC0C43D8], .bge (br 4 6 0x3F0)),
   ([0xFC0C4418], .bltu (br 4 6 0x3F0)),
   ([0xFC0C4458], .bgeu (br 4 6 0x3F0)),
   ([0xFFE02498], .jal (jm 2 0x7FF0)),
   ([0xFC0C4598], .stdI (br 4 6 0x3F0))]

theorem test_decode_jumpsBranches : jumpsBranchesWords.map (fun p => decodeWords p.1) = jumpsBranchesWords.map (fun p => .ok p.2) := rfl

/-- Words written from the encodings of scalar memory. -/
noncomputable def scalarMemoryWords : List (List Word32 × Instr) :=
  [([0x31040518], .ldB (r 2 4 6)),
   ([0x3104051A, 0x00000000, 0x00120000], .ldBX ⟨r 2 4 6, e1 0 0 0 0, e2 18⟩),
   ([0x31041518], .ldH (r 2 4 6)),
   ([0x3104151A, 0x00000000, 0x00120000], .ldHX ⟨r 2 4 6, e1 0 0 0 0, e2 18⟩),
   ([0x31042518], .ldW (r 2 4 6)),
   ([0x3104251A, 0x00000000, 0x00120000], .ldWX ⟨r 2 4 6, e1 0 0 0 0, e2 18⟩),
   ([0x31043518], .ldD (r 2 4 6)),
   ([0x3104351A, 0x00000000, 0x00120000], .ldDX ⟨r 2 4 6, e1 0 0 0 0, e2 18⟩),
   ([0x31044518], .lduB (r 2 4 6)),
   ([0x3104451A, 0x00000000, 0x00120000], .lduBX ⟨r 2 4 6, e1 0 0 0 0, e2 18⟩),
   ([0x31045518], .lduH (r 2 4 6)),
   ([0x3104551A, 0x00000000, 0x00120000], .lduHX ⟨r 2 4 6, e1 0 0 0 0, e2 18⟩),
   ([0x31046518], .lduW (r 2 4 6)),
   ([0x3104651A, 0x00000000, 0x00120000], .lduWX ⟨r 2 4 6, e1 0 0 0 0, e2 18⟩),
   ([0x31047518], .stB (r 2 4 6)),
   ([0x3104751A, 0x00000000, 0x00120000], .stBX ⟨r 2 4 6, e1 0 0 0 0, e2 18⟩),
   ([0x31048518], .stH (r 2 4 6)),
   ([0x3104851A, 0x00000000, 0x00120000], .stHX ⟨r 2 4 6, e1 0 0 0 0, e2 18⟩),
   ([0x31049518], .stW (r 2 4 6)),
   ([0x3104951A, 0x00000000, 0x00120000], .stWX ⟨r 2 4 6, e1 0 0 0 0, e2 18⟩),
   ([0x3104A518], .stD (r 2 4 6)),
   ([0x3104A51A, 0x00000000, 0x00120000], .stDX ⟨r 2 4 6, e1 0 0 0 0, e2 18⟩)]

theorem test_decode_scalarMemory : scalarMemoryWords.map (fun p => decodeWords p.1) = scalarMemoryWords.map (fun p => .ok p.2) := rfl

/-- Words written from the encodings of atomics. -/
noncomputable def atomicsWords : List (List Word32 × Instr) :=
  [([0x310405D8], .amoadd (r 2 4 6)),
   ([0x310405DA, 0x00000000, 0x00010000], .amoaddX ⟨r 2 4 6, e1 0 0 0 0, e2 1⟩),
   ([0x310415D8], .amoand (r 2 4 6)),
   ([0x310415DA, 0x00000000, 0x00010000], .amoandX ⟨r 2 4 6, e1 0 0 0 0, e2 1⟩),
   ([0x310425D8], .amoor (r 2 4 6)),
   ([0x310425DA, 0x00000000, 0x00010000], .amoorX ⟨r 2 4 6, e1 0 0 0 0, e2 1⟩),
   ([0x310435D8], .amoxor (r 2 4 6)),
   ([0x310435DA, 0x00000000, 0x00010000], .amoxorX ⟨r 2 4 6, e1 0 0 0 0, e2 1⟩),
   ([0x310445D8], .amomin (r 2 4 6)),
   ([0x310445DA, 0x00000000, 0x00010000], .amominX ⟨r 2 4 6, e1 0 0 0 0, e2 1⟩),
   ([0x310455D8], .amomax (r 2 4 6)),
   ([0x310455DA, 0x00000000, 0x00010000], .amomaxX ⟨r 2 4 6, e1 0 0 0 0, e2 1⟩),
   ([0x310465D8], .amominu (r 2 4 6)),
   ([0x310465DA, 0x00000000, 0x00010000], .amominuX ⟨r 2 4 6, e1 0 0 0 0, e2 1⟩),
   ([0x310475D8], .amomaxu (r 2 4 6)),
   ([0x310475DA, 0x00000000, 0x00010000], .amomaxuX ⟨r 2 4 6, e1 0 0 0 0, e2 1⟩),
   ([0x310485D8], .amoswap (r 2 4 6)),
   ([0x310485DA, 0x00000000, 0x00010000], .amoswapX ⟨r 2 4 6, e1 0 0 0 0, e2 1⟩),
   ([0x310495D8], .cas (r 2 4 6)),
   ([0x310495DA, 0x00000000, 0x00010000], .casX ⟨r 2 4 6, e1 0 0 0 0, e2 1⟩),
   ([0x3104A5D8], .casQ (r 2 4 6)),
   ([0x3104A5DA, 0x00000000, 0x00000000], .casQX ⟨r 2 4 6, e1 0 0 0 0, e2 0⟩)]

theorem test_decode_atomics : atomicsWords.map (fun p => decodeWords p.1) = atomicsWords.map (fun p => .ok p.2) := rfl

/-- Words written from the encodings of full/empty. -/
noncomputable def fullEmptyWords : List (List Word32 × Instr) :=
  [([0x31040618], .ldF (r 2 4 6)),
   ([0x3104061A, 0x00000000, 0x00240000], .ldFX ⟨r 2 4 6, e1 0 0 0 0, e2 36⟩),
   ([0x31041618], .ldFe (r 2 4 6)),
   ([0x3104161A, 0x00000000, 0x00240000], .ldFeX ⟨r 2 4 6, e1 0 0 0 0, e2 36⟩),
   ([0x01042618], .stE (r 2 4 0)),
   ([0x0104261A, 0x00000000, 0x00240000], .stEX ⟨r 2 4 0, e1 0 0 0 0, e2 36⟩),
   ([0x01043618], .stF (r 2 4 0)),
   ([0x0104361A, 0x00000000, 0x00240000], .stFX ⟨r 2 4 0, e1 0 0 0 0, e2 36⟩),
   ([0x01004618], .feset (r 0 4 0)),
   ([0x0100461A, 0x00000000, 0x00240000], .fesetX ⟨r 0 4 0, e1 0 0 0 0, e2 36⟩),
   ([0x01005618], .feclr (r 0 4 0)),
   ([0x0100561A, 0x00000000, 0x00240000], .feclrX ⟨r 0 4 0, e1 0 0 0 0, e2 36⟩)]

theorem test_decode_fullEmpty : fullEmptyWords.map (fun p => decodeWords p.1) = fullEmptyWords.map (fun p => .ok p.2) := rfl

/-- Words written from the encodings of fences and sync words. -/
noncomputable def fencesSyncWordsWords : List (List Word32 × Instr) :=
  [([0x00000658], .fence (r 0 0 0)),
   ([0x0000065A, 0x00000000, 0x000F0000], .fenceX ⟨r 0 0 0, e1 0 0 0 0, e2 15⟩),
   ([0x31041658], .waitg (r 2 4 6)),
   ([0x3104165A, 0x00000000, 0x00100000], .waitgX ⟨r 2 4 6, e1 0 0 0 0, e2 16⟩),
   ([0x01042658], .syncw (r 2 4 0)),
   ([0x0104265A, 0x00000000, 0x00100000], .syncwX ⟨r 2 4 0, e1 0 0 0 0, e2 16⟩)]

theorem test_decode_fencesSyncWords : fencesSyncWordsWords.map (fun p => decodeWords p.1) = fencesSyncWordsWords.map (fun p => .ok p.2) := rfl

/-- Words written from the encodings of accord. -/
noncomputable def accordWords : List (List Word32 × Instr) :=
  [([0x31040698], .blend (r 2 4 6)),
   ([0x3104069A, 0x00000000, 0x00030000], .blendX ⟨r 2 4 6, e1 0 0 0 0, e2 3⟩),
   ([0x31041698], .blendC (r 2 4 6)),
   ([0x3104169A, 0x00000000, 0x00030000], .blendCX ⟨r 2 4 6, e1 0 0 0 0, e2 3⟩),
   ([0x01042698], .ldcA (r 2 4 0)),
   ([0x0104269A, 0x00000000, 0x00000000], .ldcAX ⟨r 2 4 0, e1 0 0 0 0, e2 0⟩),
   ([0x01003698], .obsclr (r 0 4 0)),
   ([0x0100369A, 0x00000000, 0x00000000], .obsclrX ⟨r 0 4 0, e1 0 0 0 0, e2 0⟩)]

theorem test_decode_accord : accordWords.map (fun p => decodeWords p.1) = accordWords.map (fun p => .ok p.2) := rfl

/-- Words written from the encodings of vector memory. -/
noncomputable def vectorMemoryWords : List (List Word32 × Instr) :=
  [([0x01040818], .vld (r 2 4 0)),
   ([0x0104081A, 0x00000220, 0x00400000], .vldX ⟨r 2 4 0, e1 2 2 0 0, e2 64⟩),
   ([0x31041818], .vlds (r 2 4 6)),
   ([0x3104181A, 0x00000220, 0x00400000], .vldsX ⟨r 2 4 6, e1 2 2 0 0, e2 64⟩),
   ([0x31042818], .vldx (r 2 4 6)),
   ([0x3104281A, 0x00000220, 0x00400000], .vldxX ⟨r 2 4 6, e1 2 2 0 0, e2 64⟩),
   ([0x01043818], .vldFf (r 2 4 0)),
   ([0x0104381A, 0x00000220, 0x00400000], .vldFfX ⟨r 2 4 0, e1 2 2 0 0, e2 64⟩),
   ([0x01044818], .vst (r 2 4 0)),
   ([0x0104481A, 0x00000220, 0x00400000], .vstX ⟨r 2 4 0, e1 2 2 0 0, e2 64⟩),
   ([0x31045818], .vsts (r 2 4 6)),
   ([0x3104581A, 0x00000220, 0x00400000], .vstsX ⟨r 2 4 6, e1 2 2 0 0, e2 64⟩),
   ([0x31046818], .vstx (r 2 4 6)),
   ([0x3104681A, 0x00000220, 0x00400000], .vstxX ⟨r 2 4 6, e1 2 2 0 0, e2 64⟩),
   ([0x31047818], .vlda (r 2 4 6)),
   ([0x3104781A, 0x00000330, 0x00400000], .vldaX ⟨r 2 4 6, e1 3 3 0 0, e2 64⟩),
   ([0x01048818], .vldsA (r 2 4 0)),
   ([0x0104881A, 0x00000330, 0x00400000], .vldsAX ⟨r 2 4 0, e1 3 3 0 0, e2 64⟩)]

theorem test_decode_vectorMemory : vectorMemoryWords.map (fun p => decodeWords p.1) = vectorMemoryWords.map (fun p => .ok p.2) := rfl

/-- Words written from the encodings of vector atomics. -/
noncomputable def vectorAtomicsWords : List (List Word32 × Instr) :=
  [([0x31040858], .vamoadd (r 2 4 6)),
   ([0x3104085A, 0x00000220, 0x00400000], .vamoaddX ⟨r 2 4 6, e1 2 2 0 0, e2 64⟩),
   ([0x31041858], .vamoand (r 2 4 6)),
   ([0x3104185A, 0x00000220, 0x00400000], .vamoandX ⟨r 2 4 6, e1 2 2 0 0, e2 64⟩),
   ([0x31042858], .vamoor (r 2 4 6)),
   ([0x3104285A, 0x00000220, 0x00400000], .vamoorX ⟨r 2 4 6, e1 2 2 0 0, e2 64⟩),
   ([0x31043858], .vamoxor (r 2 4 6)),
   ([0x3104385A, 0x00000220, 0x00400000], .vamoxorX ⟨r 2 4 6, e1 2 2 0 0, e2 64⟩),
   ([0x31044858], .vamomin (r 2 4 6)),
   ([0x3104485A, 0x00000220, 0x00400000], .vamominX ⟨r 2 4 6, e1 2 2 0 0, e2 64⟩),
   ([0x31045858], .vamomax (r 2 4 6)),
   ([0x3104585A, 0x00000220, 0x00400000], .vamomaxX ⟨r 2 4 6, e1 2 2 0 0, e2 64⟩),
   ([0x31046858], .vamoswap (r 2 4 6)),
   ([0x3104685A, 0x00000220, 0x00400000], .vamoswapX ⟨r 2 4 6, e1 2 2 0 0, e2 64⟩)]

theorem test_decode_vectorAtomics : vectorAtomicsWords.map (fun p => decodeWords p.1) = vectorAtomicsWords.map (fun p => .ok p.2) := rfl

/-- Words written from the encodings of streams. -/
noncomputable def streamsWords : List (List Word32 × Instr) :=
  [([0x01040898], .strset (r 2 4 0)),
   ([0x0104089A, 0x00000000, 0x00200000], .strsetX ⟨r 2 4 0, e1 0 0 0 0, e2 32⟩),
   ([0x00041898], .strclr (r 2 0 0)),
   ([0x0004189A, 0x00000000, 0x00000000], .strclrX ⟨r 2 0 0, e1 0 0 0 0, e2 0⟩),
   ([0x01042898], .strstat (r 2 4 0)),
   ([0x0104289A, 0x00000000, 0x00000000], .strstatX ⟨r 2 4 0, e1 0 0 0 0, e2 0⟩)]

theorem test_decode_streams : streamsWords.map (fun p => decodeWords p.1) = streamsWords.map (fun p => .ok p.2) := rfl

/-- Words written from the encodings of copies. -/
noncomputable def copiesWords : List (List Word32 × Instr) :=
  [([0x310408D8], .cplvl (r 2 4 6)),
   ([0x310408DA, 0x00000000, 0x00030000], .cplvlX ⟨r 2 4 6, e1 0 0 0 0, e2 3⟩),
   ([0x010018D8], .cpgo (r 0 4 0)),
   ([0x010018DA, 0x00000000, 0x00030000], .cpgoX ⟨r 0 4 0, e1 0 0 0 0, e2 3⟩),
   ([0x000428D8], .cpstat (r 2 0 0)),
   ([0x000428DA, 0x00000000, 0x00030000], .cpstatX ⟨r 2 0 0, e1 0 0 0 0, e2 3⟩),
   ([0x000038D8], .cpcan (r 0 0 0)),
   ([0x000038DA, 0x00000000, 0x00030000], .cpcanX ⟨r 0 0 0, e1 0 0 0 0, e2 3⟩)]

theorem test_decode_copies : copiesWords.map (fun p => decodeWords p.1) = copiesWords.map (fun p => .ok p.2) := rfl

/-- Words written from the encodings of flacons. -/
noncomputable def flaconsWords : List (List Word32 × Instr) :=
  [([0x31040918], .flinit (r 2 4 6)),
   ([0x3104091A, 0x00000000, 0x00050000], .flinitX ⟨r 2 4 6, e1 0 0 0 0, e2 5⟩),
   ([0x00041918], .awaitf (r 2 0 0)),
   ([0x0004191A, 0x00000000, 0x00050000], .awaitfX ⟨r 2 0 0, e1 0 0 0 0, e2 5⟩),
   ([0x00042918], .rels (r 2 0 0)),
   ([0x0004291A, 0x00000000, 0x00050000], .relsX ⟨r 2 0 0, e1 0 0 0 0, e2 5⟩),
   ([0x00043918], .flstat (r 2 0 0)),
   ([0x0004391A, 0x00000000, 0x00050000], .flstatX ⟨r 2 0 0, e1 0 0 0 0, e2 5⟩)]

theorem test_decode_flacons : flaconsWords.map (fun p => decodeWords p.1) = flaconsWords.map (fun p => .ok p.2) := rfl

/-- Words written from the encodings of stashes. -/
noncomputable def stashesWords : List (List Word32 × Instr) :=
  [([0x31040958], .stashmap (r 2 4 6)),
   ([0x3104095A, 0x00000000, 0x00000000], .stashmapX ⟨r 2 4 6, e1 0 0 0 0, e2 0⟩),
   ([0x01041958], .stashunmap (r 2 4 0)),
   ([0x0104195A, 0x00000000, 0x00000000], .stashunmapX ⟨r 2 4 0, e1 0 0 0 0, e2 0⟩),
   ([0x31002958], .stashwb (r 0 4 6)),
   ([0x3100295A, 0x00000000, 0x00000000], .stashwbX ⟨r 0 4 6, e1 0 0 0 0, e2 0⟩)]

theorem test_decode_stashes : stashesWords.map (fun p => decodeWords p.1) = stashesWords.map (fun p => .ok p.2) := rfl

/-- Words written from the encodings of cache maintenance. -/
noncomputable def cacheMaintenanceWords : List (List Word32 × Instr) :=
  [([0x31000998], .cwb (r 0 4 6)),
   ([0x3100099A, 0x00000000, 0x00000000], .cwbX ⟨r 0 4 6, e1 0 0 0 0, e2 0⟩),
   ([0x31001998], .cinv (r 0 4 6)),
   ([0x3100199A, 0x00000000, 0x00000000], .cinvX ⟨r 0 4 6, e1 0 0 0 0, e2 0⟩),
   ([0x31002998], .cwbinv (r 0 4 6)),
   ([0x3100299A, 0x00000000, 0x00000000], .cwbinvX ⟨r 0 4 6, e1 0 0 0 0, e2 0⟩)]

theorem test_decode_cacheMaintenance : cacheMaintenanceWords.map (fun p => decodeWords p.1) = cacheMaintenanceWords.map (fun p => .ok p.2) := rfl

/-- Words written from the encodings of collectives. -/
noncomputable def collectivesWords : List (List Word32 × Instr) :=
  [([0x010009D8], .collred (r 0 4 0)),
   ([0x010009DA, 0x00000000, 0x00000000], .collredX ⟨r 0 4 0, e1 0 0 0 0, e2 0⟩),
   ([0x010019D8], .collgat (r 0 4 0)),
   ([0x010019DA, 0x00000000, 0x00000000], .collgatX ⟨r 0 4 0, e1 0 0 0 0, e2 0⟩),
   ([0x010029D8], .collbar (r 0 4 0)),
   ([0x010029DA, 0x00000000, 0x00000000], .collbarX ⟨r 0 4 0, e1 0 0 0 0, e2 0⟩)]

theorem test_decode_collectives : collectivesWords.map (fun p => decodeWords p.1) = collectivesWords.map (fun p => .ok p.2) := rfl

/-- Words written from the encodings of vector integer. -/
noncomputable def vectorIntegerWords : List (List Word32 × Instr) :=
  [([0x31040A18], .vadd (r 2 4 6)),
   ([0x31040A1A, 0x00002220, 0x00000000], .vaddX ⟨⟨r 2 4 6, e1 2 2 2 0, e2 0⟩, none⟩),
   ([0x31041A18], .vsub (r 2 4 6)),
   ([0x31041A1A, 0x00002220, 0x00000000], .vsubX ⟨⟨r 2 4 6, e1 2 2 2 0, e2 0⟩, none⟩),
   ([0x31042A18], .vrsub (r 2 4 6)),
   ([0x31042A1A, 0x00002220, 0x00000000], .vrsubX ⟨⟨r 2 4 6, e1 2 2 2 0, e2 0⟩, none⟩),
   ([0x31043A18], .vmul (r 2 4 6)),
   ([0x31043A1A, 0x00002220, 0x00000000], .vmulX ⟨⟨r 2 4 6, e1 2 2 2 0, e2 0⟩, none⟩),
   ([0x31044A18], .vmulh (r 2 4 6)),
   ([0x31044A1A, 0x00002220, 0x00000000], .vmulhX ⟨⟨r 2 4 6, e1 2 2 2 0, e2 0⟩, none⟩),
   ([0x31045A18], .vmacc (r 2 4 6)),
   ([0x31045A1A, 0x00002220, 0x00000000], .vmaccX ⟨⟨r 2 4 6, e1 2 2 2 0, e2 0⟩, none⟩),
   ([0x31046A18], .vand (r 2 4 6)),
   ([0x31046A1A, 0x00002220, 0x00000000], .vandX ⟨⟨r 2 4 6, e1 2 2 2 0, e2 0⟩, none⟩),
   ([0x31047A18], .vor (r 2 4 6)),
   ([0x31047A1A, 0x00002220, 0x00000000], .vorX ⟨⟨r 2 4 6, e1 2 2 2 0, e2 0⟩, none⟩),
   ([0x31048A18], .vxor (r 2 4 6)),
   ([0x31048A1A, 0x00002220, 0x00000000], .vxorX ⟨⟨r 2 4 6, e1 2 2 2 0, e2 0⟩, none⟩),
   ([0x31049A18], .vsll (r 2 4 6)),
   ([0x31049A1A, 0x00002220, 0x00000000], .vsllX ⟨⟨r 2 4 6, e1 2 2 2 0, e2 0⟩, none⟩),
   ([0x3104AA18], .vsrl (r 2 4 6)),
   ([0x3104AA1A, 0x00002220, 0x00000000], .vsrlX ⟨⟨r 2 4 6, e1 2 2 2 0, e2 0⟩, none⟩),
   ([0x3104BA18], .vsra (r 2 4 6)),
   ([0x3104BA1A, 0x00002220, 0x00000000], .vsraX ⟨⟨r 2 4 6, e1 2 2 2 0, e2 0⟩, none⟩),
   ([0x3104CA18], .vmin (r 2 4 6)),
   ([0x3104CA1A, 0x00002220, 0x00000000], .vminX ⟨⟨r 2 4 6, e1 2 2 2 0, e2 0⟩, none⟩),
   ([0x3104DA18], .vmax (r 2 4 6)),
   ([0x3104DA1A, 0x00002220, 0x00000000], .vmaxX ⟨⟨r 2 4 6, e1 2 2 2 0, e2 0⟩, none⟩),
   ([0x3104EA18], .vminu (r 2 4 6)),
   ([0x3104EA1A, 0x00002220, 0x00000000], .vminuX ⟨⟨r 2 4 6, e1 2 2 2 0, e2 0⟩, none⟩),
   ([0x3104FA18], .vmaxu (r 2 4 6)),
   ([0x3104FA1A, 0x00002220, 0x00000000], .vmaxuX ⟨⟨r 2 4 6, e1 2 2 2 0, e2 0⟩, none⟩),
   ([0x31050A18], .vsadd (r 2 4 6)),
   ([0x31050A1A, 0x00002220, 0x00000000], .vsaddX ⟨⟨r 2 4 6, e1 2 2 2 0, e2 0⟩, none⟩),
   ([0x31051A18], .vssub (r 2 4 6)),
   ([0x31051A1A, 0x00002220, 0x00000000], .vssubX ⟨⟨r 2 4 6, e1 2 2 2 0, e2 0⟩, none⟩),
   ([0x01052A18], .vabs (r 2 4 0)),
   ([0x01052A1A, 0x00002220, 0x00000000], .vabsX ⟨⟨r 2 4 0, e1 2 2 2 0, e2 0⟩, none⟩),
   ([0x31053A18], .vclmul (r 2 4 6)),
   ([0x31053A1A, 0x00002220, 0x00000000], .vclmulX ⟨⟨r 2 4 6, e1 2 2 2 0, e2 0⟩, none⟩),
   ([0x31054A18], .vclmulh (r 2 4 6)),
   ([0x31054A1A, 0x00002220, 0x00000000], .vclmulhX ⟨⟨r 2 4 6, e1 2 2 2 0, e2 0⟩, none⟩),
   ([0x01055A18], .vpsum (r 2 4 0)),
   ([0x01055A1A, 0x00002220, 0x00000000], .vpsumX ⟨⟨r 2 4 0, e1 2 2 2 0, e2 0⟩, none⟩)]

theorem test_decode_vectorInteger : vectorIntegerWords.map (fun p => decodeWords p.1) = vectorIntegerWords.map (fun p => .ok p.2) := rfl

/-- Words written from the encodings of compares. -/
noncomputable def comparesWords : List (List Word32 × Instr) :=
  [([0x31040A58], .vcmpEq (r 2 4 6)),
   ([0x31040A5A, 0x00001110, 0x00000000], .vcmpEqX ⟨⟨r 2 4 6, e1 1 1 1 0, e2 0⟩, none⟩),
   ([0x31041A58], .vcmpNe (r 2 4 6)),
   ([0x31041A5A, 0x00001110, 0x00000000], .vcmpNeX ⟨⟨r 2 4 6, e1 1 1 1 0, e2 0⟩, none⟩),
   ([0x31042A58], .vcmpLt (r 2 4 6)),
   ([0x31042A5A, 0x00001110, 0x00000000], .vcmpLtX ⟨⟨r 2 4 6, e1 1 1 1 0, e2 0⟩, none⟩),
   ([0x31043A58], .vcmpLe (r 2 4 6)),
   ([0x31043A5A, 0x00001110, 0x00000000], .vcmpLeX ⟨⟨r 2 4 6, e1 1 1 1 0, e2 0⟩, none⟩),
   ([0x31044A58], .vcmpLtu (r 2 4 6)),
   ([0x31044A5A, 0x00001110, 0x00000000], .vcmpLtuX ⟨⟨r 2 4 6, e1 1 1 1 0, e2 0⟩, none⟩),
   ([0x31045A58], .vcmpLeu (r 2 4 6)),
   ([0x31045A5A, 0x00001110, 0x00000000], .vcmpLeuX ⟨⟨r 2 4 6, e1 1 1 1 0, e2 0⟩, none⟩),
   ([0x31046A58], .vfcmpEq (r 2 4 6)),
   ([0x31046A5A, 0x00006660, 0x00000000], .vfcmpEqX ⟨⟨r 2 4 6, e1 6 6 6 0, e2 0⟩, none⟩),
   ([0x31047A58], .vfcmpLt (r 2 4 6)),
   ([0x31047A5A, 0x00006660, 0x00000000], .vfcmpLtX ⟨⟨r 2 4 6, e1 6 6 6 0, e2 0⟩, none⟩),
   ([0x31048A58], .vfcmpLe (r 2 4 6)),
   ([0x31048A5A, 0x00006660, 0x00000000], .vfcmpLeX ⟨⟨r 2 4 6, e1 6 6 6 0, e2 0⟩, none⟩),
   ([0x31049A58], .vfcmpUn (r 2 4 6)),
   ([0x31049A5A, 0x00006660, 0x00000000], .vfcmpUnX ⟨⟨r 2 4 6, e1 6 6 6 0, e2 0⟩, none⟩)]

theorem test_decode_compares : comparesWords.map (fun p => decodeWords p.1) = comparesWords.map (fun p => .ok p.2) := rfl

/-- Words written from the encodings of vector float. -/
noncomputable def vectorFloatWords : List (List Word32 × Instr) :=
  [([0x31040A98], .vfadd (r 2 4 6)),
   ([0x31040A9A, 0x00006660, 0x00000000], .vfaddX ⟨⟨r 2 4 6, e1 6 6 6 0, e2 0⟩, none⟩),
   ([0x31041A98], .vfsub (r 2 4 6)),
   ([0x31041A9A, 0x00006660, 0x00000000], .vfsubX ⟨⟨r 2 4 6, e1 6 6 6 0, e2 0⟩, none⟩),
   ([0x31042A98], .vfmul (r 2 4 6)),
   ([0x31042A9A, 0x00006660, 0x00000000], .vfmulX ⟨⟨r 2 4 6, e1 6 6 6 0, e2 0⟩, none⟩),
   ([0x31043A98], .vfma (r 2 4 6)),
   ([0x31043A9A, 0x00006660, 0x00000000], .vfmaX ⟨⟨r 2 4 6, e1 6 6 6 0, e2 0⟩, none⟩),
   ([0x31044A98], .vfnma (r 2 4 6)),
   ([0x31044A9A, 0x00006660, 0x00000000], .vfnmaX ⟨⟨r 2 4 6, e1 6 6 6 0, e2 0⟩, none⟩),
   ([0x31045A98], .vfdiv (r 2 4 6)),
   ([0x31045A9A, 0x00006660, 0x00000000], .vfdivX ⟨⟨r 2 4 6, e1 6 6 6 0, e2 0⟩, none⟩),
   ([0x01046A98], .vfsqrt (r 2 4 0)),
   ([0x01046A9A, 0x00006660, 0x00000000], .vfsqrtX ⟨⟨r 2 4 0, e1 6 6 6 0, e2 0⟩, none⟩),
   ([0x31047A98], .vfmin (r 2 4 6)),
   ([0x31047A9A, 0x00006660, 0x00000000], .vfminX ⟨⟨r 2 4 6, e1 6 6 6 0, e2 0⟩, none⟩),
   ([0x31048A98], .vfmax (r 2 4 6)),
   ([0x31048A9A, 0x00006660, 0x00000000], .vfmaxX ⟨⟨r 2 4 6, e1 6 6 6 0, e2 0⟩, none⟩),
   ([0x31049A98], .vfsign (r 2 4 6)),
   ([0x31049A9A, 0x00006660, 0x00000000], .vfsignX ⟨⟨r 2 4 6, e1 6 6 6 0, e2 0⟩, none⟩),
   ([0x0104AA98], .vfclass (r 2 4 0)),
   ([0x0104AA9A, 0x00006620, 0x00000000], .vfclassX ⟨⟨r 2 4 0, e1 2 6 6 0, e2 0⟩, none⟩),
   ([0x0104BA98], .vfrcp (r 2 4 0)),
   ([0x0104BA9A, 0x00006660, 0x00000000], .vfrcpX ⟨⟨r 2 4 0, e1 6 6 6 0, e2 0⟩, none⟩),
   ([0x0104CA98], .vfrsq (r 2 4 0)),
   ([0x0104CA9A, 0x00006660, 0x00000000], .vfrsqX ⟨⟨r 2 4 0, e1 6 6 6 0, e2 0⟩, none⟩),
   ([0x0104DA98], .vfexp2 (r 2 4 0)),
   ([0x0104DA9A, 0x00006660, 0x00000000], .vfexp2X ⟨⟨r 2 4 0, e1 6 6 6 0, e2 0⟩, none⟩),
   ([0x0104EA98], .vflog2 (r 2 4 0)),
   ([0x0104EA9A, 0x00006660, 0x00000000], .vflog2X ⟨⟨r 2 4 0, e1 6 6 6 0, e2 0⟩, none⟩),
   ([0x0104FA98], .vftanh (r 2 4 0)),
   ([0x0104FA9A, 0x00006660, 0x00000000], .vftanhX ⟨⟨r 2 4 0, e1 6 6 6 0, e2 0⟩, none⟩)]

theorem test_decode_vectorFloat : vectorFloatWords.map (fun p => decodeWords p.1) = vectorFloatWords.map (fun p => .ok p.2) := rfl

/-- Words written from the encodings of conversions. -/
noncomputable def conversionsWords : List (List Word32 × Instr) :=
  [([0x01040AD8], .vcvt (r 2 4 0)),
   ([0x01040ADA, 0x00006640, 0x00000000], .vcvtX ⟨r 2 4 0, e1 4 6 6 0, e2 0⟩),
   ([0x31041ADA, 0x00000600, 0x00000000], .vqnt ⟨r 2 4 6, e1 0 6 0 0, e2 0⟩),
   ([0x01042ADA, 0x000000F0, 0x00000000], .vpack ⟨r 2 4 0, e1 15 0 0 0, e2 0⟩),
   ([0x01043ADA, 0x0000FF00, 0x00000000], .vunpk ⟨r 2 4 0, e1 0 15 15 0, e2 0⟩)]

theorem test_decode_conversions : conversionsWords.map (fun p => decodeWords p.1) = conversionsWords.map (fun p => .ok p.2) := rfl

/-- Words written from the encodings of masks. -/
noncomputable def masksWords : List (List Word32 × Instr) :=
  [([0x18440B18], .kand (r 2 1 3)),
   ([0x18440B1A, 0x00000000, 0x00000000], .kandX ⟨r 2 1 3, e1 0 0 0 0, e2 0⟩),
   ([0x18441B18], .kor (r 2 1 3)),
   ([0x18441B1A, 0x00000000, 0x00000000], .korX ⟨r 2 1 3, e1 0 0 0 0, e2 0⟩),
   ([0x18442B18], .kxor (r 2 1 3)),
   ([0x18442B1A, 0x00000000, 0x00000000], .kxorX ⟨r 2 1 3, e1 0 0 0 0, e2 0⟩),
   ([0x00443B18], .knot (r 2 1 0)),
   ([0x00443B1A, 0x00000000, 0x00000000], .knotX ⟨r 2 1 0, e1 0 0 0 0, e2 0⟩),
   ([0x00444B18], .kmov (r 2 1 0)),
   ([0x00444B1A, 0x00000000, 0x00000000], .kmovX ⟨r 2 1 0, e1 0 0 0 0, e2 0⟩),
   ([0x00445B18], .kpop (r 2 1 0)),
   ([0x00445B1A, 0x00000000, 0x00000000], .kpopX ⟨r 2 1 0, e1 0 0 0 0, e2 0⟩),
   ([0x00446B18], .kfirst (r 2 1 0)),
   ([0x00446B1A, 0x00000000, 0x00000000], .kfirstX ⟨r 2 1 0, e1 0 0 0 0, e2 0⟩),
   ([0x00447B18], .ksbf (r 2 1 0)),
   ([0x00447B1A, 0x00000000, 0x00000000], .ksbfX ⟨r 2 1 0, e1 0 0 0 0, e2 0⟩),
   ([0x00448B18], .ksif (r 2 1 0)),
   ([0x00448B1A, 0x00000000, 0x00000000], .ksifX ⟨r 2 1 0, e1 0 0 0 0, e2 0⟩),
   ([0x00449B18], .ksof (r 2 1 0)),
   ([0x00449B1A, 0x00000000, 0x00000000], .ksofX ⟨r 2 1 0, e1 0 0 0 0, e2 0⟩)]

theorem test_decode_masks : masksWords.map (fun p => decodeWords p.1) = masksWords.map (fun p => .ok p.2) := rfl

/-- Words written from the encodings of permutations. -/
noncomputable def permutationsWords : List (List Word32 × Instr) :=
  [([0x31040B58], .vperm (r 2 4 6)),
   ([0x31040B5A, 0x00002220, 0x00000000], .vpermX ⟨r 2 4 6, e1 2 2 2 0, e2 0⟩),
   ([0x31041B58], .vslideup (r 2 4 6)),
   ([0x31041B5A, 0x00002220, 0x00000000], .vslideupX ⟨r 2 4 6, e1 2 2 2 0, e2 0⟩),
   ([0x31042B58], .vslidedn (r 2 4 6)),
   ([0x31042B5A, 0x00002220, 0x00000000], .vslidednX ⟨r 2 4 6, e1 2 2 2 0, e2 0⟩),
   ([0x31043B58], .vbcast (r 2 4 6)),
   ([0x31043B5A, 0x00002220, 0x00000000], .vbcastX ⟨r 2 4 6, e1 2 2 2 0, e2 0⟩),
   ([0x01044B58], .vcompr (r 2 4 0)),
   ([0x01044B5A, 0x00002220, 0x00000000], .vcomprX ⟨r 2 4 0, e1 2 2 2 0, e2 0⟩),
   ([0x01045B58], .vexpd (r 2 4 0)),
   ([0x01045B5A, 0x00002220, 0x00000000], .vexpdX ⟨r 2 4 0, e1 2 2 2 0, e2 0⟩),
   ([0x31046B58], .vmerge (r 2 4 6)),
   ([0x31046B5A, 0x00002220, 0x00000000], .vmergeX ⟨r 2 4 6, e1 2 2 2 0, e2 0⟩),
   ([0x01047B58], .vmvsv (r 2 4 0)),
   ([0x01047B5A, 0x00002220, 0x00000000], .vmvsvX ⟨r 2 4 0, e1 2 2 2 0, e2 0⟩),
   ([0x31048B58], .vmvvs (r 2 4 6)),
   ([0x31048B5A, 0x00002220, 0x00000000], .vmvvsX ⟨r 2 4 6, e1 2 2 2 0, e2 0⟩),
   ([0x00049B58], .viota (r 2 0 0)),
   ([0x00049B5A, 0x00002220, 0x00000000], .viotaX ⟨r 2 0 0, e1 2 2 2 0, e2 0⟩),
   ([0x0004AB58], .vid (r 2 0 0)),
   ([0x0004AB5A, 0x00002220, 0x00000000], .vidX ⟨r 2 0 0, e1 2 2 2 0, e2 0⟩)]

theorem test_decode_permutations : permutationsWords.map (fun p => decodeWords p.1) = permutationsWords.map (fun p => .ok p.2) := rfl

/-- Words written from the encodings of reductions. -/
noncomputable def reductionsWords : List (List Word32 × Instr) :=
  [([0x31040B98], .vredsum (r 2 4 6)),
   ([0x31040B9A, 0x00002220, 0x00000000], .vredsumX ⟨r 2 4 6, e1 2 2 2 0, e2 0⟩),
   ([0x31041B98], .vredmax (r 2 4 6)),
   ([0x31041B9A, 0x00002220, 0x00000000], .vredmaxX ⟨r 2 4 6, e1 2 2 2 0, e2 0⟩),
   ([0x31042B98], .vredmin (r 2 4 6)),
   ([0x31042B9A, 0x00002220, 0x00000000], .vredminX ⟨r 2 4 6, e1 2 2 2 0, e2 0⟩),
   ([0x31043B98], .vfredusum (r 2 4 6)),
   ([0x31043B9A, 0x00006660, 0x00000000], .vfredusumX ⟨r 2 4 6, e1 6 6 6 0, e2 0⟩),
   ([0x31044B98], .vfredosum (r 2 4 6)),
   ([0x31044B9A, 0x00006660, 0x00000000], .vfredosumX ⟨r 2 4 6, e1 6 6 6 0, e2 0⟩),
   ([0x31045B98], .vfredmax (r 2 4 6)),
   ([0x31045B9A, 0x00006660, 0x00000000], .vfredmaxX ⟨r 2 4 6, e1 6 6 6 0, e2 0⟩),
   ([0x31046B98], .vfredmin (r 2 4 6)),
   ([0x31046B9A, 0x00006660, 0x00000000], .vfredminX ⟨r 2 4 6, e1 6 6 6 0, e2 0⟩),
   ([0x31047B98], .vredmaxsum (r 2 4 6)),
   ([0x31047B9A, 0x00006660, 0x00000000], .vredmaxsumX ⟨r 2 4 6, e1 6 6 6 0, e2 0⟩)]

theorem test_decode_reductions : reductionsWords.map (fun p => decodeWords p.1) = reductionsWords.map (fun p => .ok p.2) := rfl

/-- Words written from the encodings of configuration. -/
noncomputable def configurationWords : List (List Word32 × Instr) :=
  [([0x31040BD8], .vsetvl (r 2 4 6)),
   ([0x01041BD9, 0x89ABCDEF, 0x01234567], .vsetvli ⟨r 2 4 0, lit⟩)]

theorem test_decode_configuration : configurationWords.map (fun p => decodeWords p.1) = configurationWords.map (fun p => .ok p.2) := rfl

/-- Words written from the encodings of tiles. -/
noncomputable def tilesWords : List (List Word32 × Instr) :=
  [([0x31040C18], .opacc (r 2 4 6)),
   ([0x31040C1A, 0x00004460, 0x00000000], .opaccX ⟨r 2 4 6, e1 6 4 4 0, e2 0⟩),
   ([0x31041C18], .opaccn (r 2 4 6)),
   ([0x31041C1A, 0x00004460, 0x00000000], .opaccnX ⟨r 2 4 6, e1 6 4 4 0, e2 0⟩),
   ([0x00042C18], .accz (r 2 0 0)),
   ([0x00042C1A, 0x00000000, 0x00000000], .acczX ⟨r 2 0 0, e1 0 0 0 0, e2 0⟩),
   ([0x31043C18], .accld (r 2 4 6)),
   ([0x31043C1A, 0x00000000, 0x00000000], .accldX ⟨r 2 4 6, e1 0 0 0 0, e2 0⟩),
   ([0x31044C18], .accrd (r 2 4 6)),
   ([0x31044C1A, 0x00012220, 0x00000000], .accrdX ⟨r 2 4 6, e1 2 2 2 1, e2 0⟩),
   ([0x31045C18], .accwr (r 2 4 6)),
   ([0x31045C1A, 0x00012220, 0x00000000], .accwrX ⟨r 2 4 6, e1 2 2 2 1, e2 0⟩),
   ([0x01046C18], .accscale (r 2 4 0)),
   ([0x01046C1A, 0x00002260, 0x00000000], .accscaleX ⟨r 2 4 0, e1 6 2 2 0, e2 0⟩)]

theorem test_decode_tiles : tilesWords.map (fun p => decodeWords p.1) = tilesWords.map (fun p => .ok p.2) := rfl

/-- Words written from the encodings of drains. -/
noncomputable def drainsWords : List (List Word32 × Instr) :=
  [([0x31040C58], .drain (r 2 4 6)),
   ([0x31040C5A, 0x00002200, 0x00010000], .drainX ⟨r 2 4 6, e1 0 2 2 0, e2 1⟩),
   ([0x31041C58], .histo (r 2 4 6)),
   ([0x31041C5A, 0x00002220, 0x00000000], .histoX ⟨r 2 4 6, e1 2 2 2 0, e2 0⟩),
   ([0x31042C5A, 0x00002200, 0x00000000], .scalepick ⟨r 2 4 6, e1 0 2 2 0, e2 0⟩),
   ([0x01043C58], .pwlset (r 2 4 0)),
   ([0x01043C5A, 0x00000000, 0x00000000], .pwlsetX ⟨r 2 4 0, e1 0 0 0 0, e2 0⟩)]

theorem test_decode_drains : drainsWords.map (fun p => decodeWords p.1) = drainsWords.map (fun p => .ok p.2) := rfl

/-- Words written from the encodings of codebook banks. -/
noncomputable def codebookBanksWords : List (List Word32 × Instr) :=
  [([0x31040C98], .cbld (r 2 4 6)),
   ([0x31040C9A, 0x00000000, 0x00010000], .cbldX ⟨r 2 4 6, e1 0 0 0 0, e2 1⟩),
   ([0x31041C98], .cbset (r 2 4 6)),
   ([0x31041C9A, 0x00000000, 0x00010000], .cbsetX ⟨r 2 4 6, e1 0 0 0 0, e2 1⟩),
   ([0x30042C98], .cbinv (r 2 0 6)),
   ([0x30042C9A, 0x00000000, 0x00000000], .cbinvX ⟨r 2 0 6, e1 0 0 0 0, e2 0⟩),
   ([0x01043C98], .cbuse (r 2 4 0)),
   ([0x01043C9A, 0x00000000, 0x00000000], .cbuseX ⟨r 2 4 0, e1 0 0 0 0, e2 0⟩),
   ([0x31044C98], .cbstat (r 2 4 6)),
   ([0x31044C9A, 0x00000000, 0x00020000], .cbstatX ⟨r 2 4 6, e1 0 0 0 0, e2 2⟩)]

theorem test_decode_codebookBanks : codebookBanksWords.map (fun p => decodeWords p.1) = codebookBanksWords.map (fun p => .ok p.2) := rfl

/-- Words written from the encodings of bank commands. -/
noncomputable def bankCommandsWords : List (List Word32 × Instr) :=
  [([0x31040D18], .bscope (r 2 4 6)),
   ([0x31040D1A, 0x00000000, 0x00000000], .bscopeX ⟨r 2 4 6, e1 0 0 0 0, e2 0⟩),
   ([0x31041D18], .bnest (r 2 4 6)),
   ([0x31041D1A, 0x00000000, 0x00050000], .bnestX ⟨r 2 4 6, e1 0 0 0 0, e2 5⟩),
   ([0x31042D18], .bbody (r 2 4 6)),
   ([0x31042D1A, 0x00000000, 0x00000000], .bbodyX ⟨r 2 4 6, e1 0 0 0 0, e2 0⟩),
   ([0x01043D18], .bcmd (r 2 4 0)),
   ([0x01043D1A, 0x00000000, 0x00000000], .bcmdX ⟨r 2 4 0, e1 0 0 0 0, e2 0⟩),
   ([0x01044D18], .bwait (r 2 4 0)),
   ([0x01044D1A, 0x00000000, 0x00010000], .bwaitX ⟨r 2 4 0, e1 0 0 0 0, e2 1⟩),
   ([0x00005D18], .bfence (r 0 0 0)),
   ([0x00005D1A, 0x00000000, 0x00010000], .bfenceX ⟨r 0 0 0, e1 0 0 0 0, e2 1⟩),
   ([0x31046D18], .bstat (r 2 4 6)),
   ([0x31046D1A, 0x00000000, 0x00010000], .bstatX ⟨r 2 4 6, e1 0 0 0 0, e2 1⟩)]

theorem test_decode_bankCommands : bankCommandsWords.map (fun p => decodeWords p.1) = bankCommandsWords.map (fun p => .ok p.2) := rfl

/-- Words written from the encodings of system. -/
noncomputable def systemWords : List (List Word32 × Instr) :=
  [([0x00000F18], .trap (r 0 0 0)),
   ([0x00000F1A, 0x00000000, 0x00550000], .trapX ⟨r 0 0 0, e1 0 0 0 0, e2 85⟩),
   ([0x00001F18], .eret (r 0 0 0)),
   ([0x00001F1A, 0x00000000, 0x00000000], .eretX ⟨r 0 0 0, e1 0 0 0 0, e2 0⟩),
   ([0x00002F18], .halt (r 0 0 0)),
   ([0x00002F1A, 0x00000000, 0x00000000], .haltX ⟨r 0 0 0, e1 0 0 0 0, e2 0⟩),
   ([0x00003F18], .yield (r 0 0 0)),
   ([0x00003F1A, 0x00000000, 0x00000000], .yieldX ⟨r 0 0 0, e1 0 0 0 0, e2 0⟩),
   ([0x00044F1A, 0x00000000, 0x00280000], .csrrd ⟨r 2 0 0, e1 0 0 0 0, e2 40⟩),
   ([0x01005F1A, 0x00000000, 0x002C0000], .csrwr ⟨r 0 4 0, e1 0 0 0 0, e2 44⟩),
   ([0x01046F1A, 0x00000000, 0x00130000], .csrswp ⟨r 2 4 0, e1 0 0 0 0, e2 19⟩),
   ([0x31007F18], .tlbinv (r 0 4 6)),
   ([0x31007F1A, 0x00000000, 0x00000000], .tlbinvX ⟨r 0 4 6, e1 0 0 0 0, e2 0⟩),
   ([0x01048F18], .objdecl (r 2 4 0)),
   ([0x01048F1A, 0x00000000, 0x00000000], .objdeclX ⟨r 2 4 0, e1 0 0 0 0, e2 0⟩),
   ([0x01049F18], .objdrop (r 2 4 0)),
   ([0x01049F1A, 0x00000000, 0x00000000], .objdropX ⟨r 2 4 0, e1 0 0 0 0, e2 0⟩),
   ([0x3100AF18], .ncwset (r 0 4 6)),
   ([0x3100AF1A, 0x00000000, 0x00090000], .ncwsetX ⟨r 0 4 6, e1 0 0 0 0, e2 9⟩)]

theorem test_decode_system : systemWords.map (fun p => decodeWords p.1) = systemWords.map (fun p => .ok p.2) := rfl

/-- Words written from the encodings of scheduling. -/
noncomputable def schedulingWords : List (List Word32 × Instr) :=
  [([0x01040F58], .launch (r 2 4 0)),
   ([0x01040F5A, 0x00000000, 0x00000000], .launchX ⟨r 2 4 0, e1 0 0 0 0, e2 0⟩),
   ([0x00001F58], .trigger (r 0 0 0)),
   ([0x00001F5A, 0x00000000, 0x00000000], .triggerX ⟨r 0 0 0, e1 0 0 0 0, e2 0⟩),
   ([0x01042F58], .cancel (r 2 4 0)),
   ([0x01042F5A, 0x00000000, 0x00030000], .cancelX ⟨r 2 4 0, e1 0 0 0 0, e2 3⟩),
   ([0x31043F58], .pqpush (r 2 4 6)),
   ([0x31043F5A, 0x00000000, 0x00070000], .pqpushX ⟨r 2 4 6, e1 0 0 0 0, e2 7⟩),
   ([0x00044F58], .pqpop (r 2 0 0)),
   ([0x00044F5A, 0x00000000, 0x00060000], .pqpopX ⟨r 2 0 0, e1 0 0 0 0, e2 6⟩),
   ([0x00045F58], .heart (r 2 0 0)),
   ([0x00045F5A, 0x00000000, 0x00020000], .heartX ⟨r 2 0 0, e1 0 0 0 0, e2 2⟩)]

theorem test_decode_scheduling : schedulingWords.map (fun p => decodeWords p.1) = schedulingWords.map (fun p => .ok p.2) := rfl

/-- Words written from the encodings of bank command bodies (R377 to R381). -/
noncomputable def bluWords : List (Word32 × Instr) :=
  [(0x50000000, .bnop { gd, res := 0 }),
   (0x552F8001, .tbuildR { gd, k := 1, g := 2, r22 := false, wa := 5, t := 3, ew := true, aw := true, rlow := 0 }),
   (0x552F8002, .tbuildT { gd, k := 1, g := 2, r22 := false, wa := 5, t := 3, ew := true, aw := true, rlow := 0 }),
   (0x50000003, .tswap { gd, res := 0 }),
   (0x50280004, .cbldb { gd, rhi := 0, wa := 5, rlo := 0 }),
   (0x50005545, .luacc { gd, op := 0, level := 0, joff := 0, ooff := 0x155 }),
   (0x50005546, .luaccS { gd, op := 0, level := 0, joff := 0, ooff := 0x155 }),
   (0x50000007, .accclr { gd, res := 0 }),
   (0x509C5548, .accput { gd, op := 0, level := 0, joff := 0x9C, ooff := 0x155 }),
   (0x55490009, .bldw { gd, sel := 1, r25 := false, w := 5, r20 := 0, koff := 9, ooff := 0 }),
   (0x5940554A, .bstw { gd, sel := 2, r25 := false, w := 5, r20 := 0, koff := 0, ooff := 0x155 }),
   (0x5CE5000B, .badd { gd, me := true, ms := 2, wd := 3, wa := 4, wb := 5, ib := false, imm9 := 0 }),
   (0x54E0D54C, .bsub { gd, me := false, ms := 2, wd := 3, wa := 4, wb := 0, ib := true, imm9 := 0x155 }),
   (0x5CE5000D, .bmax { gd, me := true, ms := 2, wd := 3, wa := 4, wb := 5, ib := false, imm9 := 0 }),
   (0x5CE5000E, .bmin { gd, me := true, ms := 2, wd := 3, wa := 4, wb := 5, ib := false, imm9 := 0 }),
   (0x5CE5000F, .band { gd, me := true, ms := 2, wd := 3, wa := 4, wb := 5, ib := false, imm9 := 0 }),
   (0x5CE50010, .bor { gd, me := true, ms := 2, wd := 3, wa := 4, wb := 5, ib := false, imm9 := 0 }),
   (0x54E0D551, .bxor { gd, me := false, ms := 2, wd := 3, wa := 4, wb := 0, ib := true, imm9 := 0x155 }),
   (0x5CE50012, .bshl { gd, me := true, ms := 2, wd := 3, wa := 4, wb := 5, ib := false, imm9 := 0 }),
   (0x5CE50013, .bshr { gd, me := true, ms := 2, wd := 3, wa := 4, wb := 5, ib := false, imm9 := 0 }),
   (0x54E50014, .bcmp { gd, me := false, ms := 2, wd := 3, wa := 4, wb := 5, ib := false, imm9 := 0 }),
   (0x5CE50015, .bsel { gd, me := true, ms := 2, wd := 3, wa := 4, wb := 5, ib := false, imm9 := 0 }),
   (0x5CE0A016, .bcvt { gd, me := true, ms := 2, wd := 3, wa := 4, r16 := 0, cv := 2, hi := true, r6 := 0 }),
   (0x53600017, .mand { gd, r27 := false, md := 1, ma := 2, mb := 3, r6 := 0 }),
   (0x53000018, .mnot { gd, r27 := false, md := 1, ma := 2, mb := 0, r6 := 0 }),
   (0x50280019, .skipz { gd, rhi := 0, wa := 5, rlo := 0 }),
   (0x569C555A, .rtree { gd, op := 1, level := 2, joff := 0x9C, ooff := 0x155 })]

theorem test_decode_blu : bluWords.map (fun p => decodeBlu p.1) = bluWords.map (fun p => .ok p.2) := rfl


/-! #### Small states -/

/-- A strand that runs at 0x2000_0000 in context 0, with 1 MiB of scratchpad reserved from 0 up, VTYPE, VL 4 and some registers. -/
def strandOf (vtype : Word) (regs : List (Nat × Word)) : Strand :=
  regs.foldl (fun t p => t.setReg p.1 p.2)
    { Strand.reset with st := .running, pc := 0x20000000, scratchSize := 0x100000, vtype, vl := 4, record := some 0, tvec := 0x4000, ctx := 3 }

/-- The part with that strand on core 0. -/
def unitOf (vtype : Word) (regs : List (Nat × Word)) : State := { State.reset with cur := strandOf vtype regs }

/-- VTYPE INT32. -/
def unit (regs : List (Nat × Word)) : State := unitOf 2 regs

/-- The part with that strand on conductor 0. -/
def conductor (regs : List (Nat × Word)) : State := { unit regs with curRef := { core := 128, slot := 0 } }

/-- The translation of a cluster by which device addresses stand for themselves. -/
def page (cluster : Nat) : TlbEntry := { cluster, ctx := 3, vbase := 0, bits := 40, pbase := 0, perms := 0x0E, held := false }

/-- A state in which device addresses stand for themselves, on core 0 and conductor 0. -/
def mapped (s : State) : State := { s with tlb := [page 0, page 8] }

/-- The strand of a state changed. -/
def onStrand (s : State) (f : Strand → Strand) : State := { s with cur := f s.cur }

/-- Byte o of the own-scratchpad window. -/
def own (o : Nat) : Word := BitVec.ofNat 64 (0x00FD000000000000 + o)

/-- The instruction is ready on a core or a conductor, under some VTYPE. -/
def readySomewhere (i : Instr) : Bool := (List.range 10).any (fun v => ready i (unitOf (BitVec.ofNat 64 v) [])) || ready i (conductor [])

/-- A next state with a property. -/
def nextWith (r : Res) (f : State → Bool) : Bool := match r with | .next t => f t | _ => false

/-- A place found, with a property. -/
def found (x : State × Except Nat Target) (f : State → Target → Bool) : Bool := match x with | (s, .ok g) => f s g | _ => false

/-- A cause found. -/
def failed (x : State × Except Nat Target) (c : Nat) : Bool := match x with | (_, .error e) => e == c | _ => false

/-! #### Every encoded instruction is ready in some state -/

theorem test_ready_alu : (aluWords.all fun p => readySomewhere p.2) = true := by rfl

theorem test_ready_alx : (alxWords.all fun p => readySomewhere p.2) = true := by rfl

theorem test_ready_immediates : (immediatesWords.all fun p => readySomewhere p.2) = true := by rfl

theorem test_ready_jumpsBranches : (jumpsBranchesWords.all fun p => readySomewhere p.2) = true := by rfl

theorem test_ready_scalarMemory : (scalarMemoryWords.all fun p => readySomewhere p.2) = true := by rfl

theorem test_ready_atomics : (atomicsWords.all fun p => readySomewhere p.2) = true := by rfl

theorem test_ready_fullEmpty : (fullEmptyWords.all fun p => readySomewhere p.2) = true := by rfl

theorem test_ready_fencesSyncWords : (fencesSyncWordsWords.all fun p => readySomewhere p.2) = true := by rfl

theorem test_ready_accord : (accordWords.all fun p => readySomewhere p.2) = true := by rfl

theorem test_ready_vectorMemory : (vectorMemoryWords.all fun p => readySomewhere p.2) = true := by rfl

theorem test_ready_vectorAtomics : (vectorAtomicsWords.all fun p => readySomewhere p.2) = true := by rfl

theorem test_ready_streams : (streamsWords.all fun p => readySomewhere p.2) = true := by rfl

theorem test_ready_copies : (copiesWords.all fun p => readySomewhere p.2) = true := by rfl

theorem test_ready_flacons : (flaconsWords.all fun p => readySomewhere p.2) = true := by rfl

theorem test_ready_stashes : (stashesWords.all fun p => readySomewhere p.2) = true := by rfl

theorem test_ready_cacheMaintenance : (cacheMaintenanceWords.all fun p => readySomewhere p.2) = true := by rfl

theorem test_ready_collectives : (collectivesWords.all fun p => readySomewhere p.2) = true := by rfl

theorem test_ready_vectorInteger : (vectorIntegerWords.all fun p => readySomewhere p.2) = true := by rfl

theorem test_ready_compares : (comparesWords.all fun p => readySomewhere p.2) = true := by rfl

/-- All but the base length of VFCLASS, which is ILLEGAL under every VTYPE (R263, R306). -/
theorem test_ready_vectorFloat : (vectorFloatWords.zipIdx.filter fun p => !readySomewhere p.1.2).map (·.2) = [20] := by rfl

theorem test_ready_conversions : (conversionsWords.all fun p => readySomewhere p.2) = true := by rfl

theorem test_ready_masks : (masksWords.all fun p => readySomewhere p.2) = true := by rfl

theorem test_ready_permutations : (permutationsWords.all fun p => readySomewhere p.2) = true := by rfl

theorem test_ready_reductions : (reductionsWords.all fun p => readySomewhere p.2) = true := by rfl

theorem test_ready_configuration : (configurationWords.all fun p => readySomewhere p.2) = true := by rfl

/-- All but the base lengths of ACCRD and ACCWR, which are ILLEGAL under every VTYPE (R263, R355, R358). -/
theorem test_ready_tiles : (tilesWords.zipIdx.filter fun p => !readySomewhere p.1.2).map (·.2) = [8, 10] := by rfl

theorem test_ready_drains : (drainsWords.all fun p => readySomewhere p.2) = true := by rfl

theorem test_ready_codebookBanks : (codebookBanksWords.all fun p => readySomewhere p.2) = true := by rfl

theorem test_ready_bankCommands : (bankCommandsWords.all fun p => readySomewhere p.2) = true := by rfl

theorem test_ready_system : (systemWords.all fun p => readySomewhere p.2) = true := by rfl

theorem test_ready_scheduling : (schedulingWords.all fun p => readySomewhere p.2) = true := by rfl

/-! #### States that meet the hypotheses of the statements on scalar instructions -/

/-- ControlTransfers: operands for which each relation holds and for which it does not, and an aligned and a misaligned target. -/
theorem witness_ControlTransfers :
    let s := unit [(4, 5), (6, -5), (7, 5)]
    ((∀ i ∈ [Instr.beq (br 4 7 8), .bge (br 4 6 8), .blt (br 6 4 8), .bltu (br 4 6 8), .bgeu (br 6 4 8), .bne (br 4 6 8), .jalr (im 1 0 5), .jalr (im 1 4 3)], ready i s = true)
      ∧ s.cur.reg 4 = s.cur.reg 7 ∧ (s.cur.reg 6).toInt < (s.cur.reg 4).toInt ∧ (s.cur.reg 4).toNat < (s.cur.reg 6).toNat
      ∧ (s.cur.reg 0 + (5 : BitVec 10).signExtend 64 * 4).extractLsb' 0 2 = 0 ∧ (s.cur.reg 4 + (3 : BitVec 10).signExtend 64 * 4).extractLsb' 0 2 ≠ 0) := by decide +kernel

/-- ScalarFrame: an instruction of each shape ends in a next state. -/
theorem witness_ScalarFrame :
    let s := unit [(4, 5)]
    (∀ i ∈ [Instr.add (r 2 4 6), .csel (r 2 4 6), .clz (r 2 4 0), .addi (im 2 4 7), .liL ⟨im 2 0 0, lit⟩, .slli (sh 2 4 3), .lpc (jm 2 8), .jal (jm 2 8), .lpcL ⟨jm 2 0, lit⟩,
      .jalr (im 2 0 5), .beq (br 4 6 8)], ready i s = true ∧ nextWith (exec i s) (fun _ => true) = true) := by decide +kernel

/-- ScalarRegisters: a destination of s0; a load to s0 that faults and one that performs; a full/empty load to s0 that waits. -/
theorem witness_ScalarRegisters :
    let s := unit [(4, own 0x40), (5, 2 ^ 60)]
    ready (.add (r 0 4 6)) s = true ∧ ready (.jal (jm 0 8)) s = true ∧ ready (.ldD (r 0 4 0)) s = true
      ∧ failed (resolve s s.me .load none (s.cur.reg 5 + s.cur.reg 0) 8 8) 7 = true
      ∧ found (resolve s s.me .load none (s.cur.reg 4 + s.cur.reg 0) 8 8) (fun s1 g => match (loadAt s1 s1.me g 8 (ordOf (viewOf (.ldD (r 0 4 0))))).2 with | .val _ => true | _ => false) = true
      ∧ ready (.ldF (r 0 4 0)) s = true ∧ s.cur.wait = .none ∧ wordFull s (ownLoc s 0x40) = false ∧ nextWith (exec (.ldF (r 0 4 0)) s) (fun _ => true) = true := by decide +kernel

/-- The bytes at 0x40 of the own scratchpad. -/
theorem own_40 (n : Nat) (h : n = 4 ∨ n = 8 ∨ n = 16 ∨ n = 64) : ownBytes (unit [(4, own 0x40)]) (own 0x40) n n 0x40 := by
  rcases h with rfl | rfl | rfl | rfl <;> unfold ownBytes <;> decide +kernel

/-- ScratchpadAccesses: an aligned address, the last byte of the reservation, a weak store and a release, no sync word. -/
theorem witness_ScratchpadAccesses :
    let s := unit [(4, own 0x40), (5, own 0xFFFFF)]
    (memEa (.ldD (r 2 4 0)) s = own 0x40 ∧ ownBytes s (memEa (.stD (r 2 4 0)) s) 8 8 0x40) ∧ ownBytes s (memEa (.stB (r 2 5 0)) s) 1 1 0xFFFFF
      ∧ mayPerform (.stD (r 2 4 0)) s ∧ mayPerform (.stDX ⟨r 2 4 0, .zero, { Ext2.zero with strength := 3, scope := 3 }⟩) s ∧ noSync s 0x40 ∧ noSync s 0xFFFFF ∧ MemoryForm s
      ∧ ownBytes s (s.cur.reg 4 + (1 : BitVec 10).signExtend 64 * 8) 8 8 0x48 ∧ nextWith (exec (.ldD (r 2 4 0)) s) (fun _ => true) = true := by
  unfold ownBytes mayPerform settled noSync MemoryForm; decide +kernel

/-- ScratchpadAccesses: the store and the load of a stored doubleword both run. -/
theorem witness_StoreThenLoad :
    let s := unit [(4, own 0x40), (7, 0x1122334455667788)]
    nextWith (exec (.stD (r 7 4 0)) s) (fun t => ready (.ldD (r 2 4 0)) t && decide (memEa (.ldD (r 2 4 0)) t = own 0x40)
      && nextWith (exec (.ldD (r 2 4 0)) t) (fun u => u.cur.reg 2 == 0x1122334455667788)) = true := by decide +kernel

/-- ScalarAccesses: a misaligned address, a fault, a place and its value, a weak store taken; each address that may not be reached. -/
theorem witness_ScalarAccesses :
    let s := unit [(4, own 0x40), (5, 2 ^ 60), (6, 0x00FD000000000041)]
    (memEa (.ldD (r 2 6 0)) s).toNat % 8 ≠ 0 ∧ failed (resolve s s.me .load none (memEa (.ldD (r 2 5 0)) s) 8 8) 7 = true
      ∧ failed (resolve s s.me .store none (memEa (.stD (r 2 5 0)) s) 8 8) 7 = true
      ∧ found (resolve s s.me .load none (memEa (.ldD (r 2 4 0)) s) 8 8) (fun s1 g => match (loadAt s1 s1.me g 8 (ordOf (viewOf (.ldD (r 2 4 0))))).2 with | .val _ => true | _ => false) = true
      ∧ (ordOf (viewOf (.stD (r 2 4 0)))).isRelease = false
      ∧ found (resolve s s.me .store none (memEa (.stD (r 2 4 0)) s) 8 8)
          (fun s1 g => match (storeAt s1 s1.me g 8 (s.cur.reg 2) (memEa (.stD (r 2 4 0)) s) (ordOf (viewOf (.stD (r 2 4 0))))).2 with | .done => true | _ => false) = true := by decide +kernel

/-- ScalarAccesses: both ends of the window that no scalar access reaches, the scratchpad from a conductor, one byte beyond the reservation, beyond 56 bits; a load,
    a store, LDD.I and STD.I. -/
theorem witness_ScratchpadViolations :
    let s := unit [(4, 0x00FD000000200000), (5, own 0x100000), (6, 2 ^ 56), (7, 0x00FDFFFFFFFFFFF8)]
    (∀ d ∈ [4, 5, 6, 7], (s.cur.reg d).toNat % 8 = 0 ∧ ∀ i ∈ [Instr.ldD (r 2 (BitVec.ofNat 5 d) 0), .stD (r 2 (BitVec.ofNat 5 d) 0), .lddI (im 2 (BitVec.ofNat 5 d) 0), .stdI (br (BitVec.ofNat 5 d) 2 0)],
        ready i s = true)
      ∧ 0x00FD000000200000 ≤ (s.cur.reg 4).toNat ∧ (s.cur.reg 7).toNat < 0x00FE000000000000 ∧ 0x00FD000000000000 + s.cur.scratchBase + s.cur.scratchSize < (s.cur.reg 5).toNat + 1
      ∧ (s.cur.reg 5).toNat < 0x00FD000000200000 ∧ 2 ^ 56 ≤ (s.cur.reg 6).toNat
      ∧ ready (.ldD (r 2 5 0)) (conductor [(5, own 0)]) = true ∧ (conductor []).curRef.isConductor = true := by decide +kernel

/-- ScalarAccesses: each form names its address and its bytes. -/
theorem witness_accessOf (s : State) :
    accessOf (.ldD (r 2 4 0)) s (memEa (.ldD (r 2 4 0)) s) 8 ∧ accessOf (.stB (r 2 4 0)) s (memEa (.stB (r 2 4 0)) s) 1
      ∧ accessOf (.lddI (im 2 4 1)) s (s.cur.reg (im 2 4 1).a.toNat + (im 2 4 1).imm.signExtend 64 * 8) 8
      ∧ accessOf (.stdI (br 4 2 1)) s (s.cur.reg (br 4 2 1).a.toNat + (br 4 2 1).off.signExtend 64 * 8) 8 :=
  ⟨.inl ⟨(.ldD, .ldDX, 8, true), by simp [loadTable], .inl ⟨_, rfl⟩, rfl, rfl⟩, .inr (.inl ⟨(.stB, .stBX, 1), by simp [storeTable], .inl ⟨_, rfl⟩, rfl, rfl⟩),
    .inr (.inr (.inl ⟨_, rfl, rfl, rfl⟩)), .inr (.inr (.inr ⟨_, rfl, rfl, rfl⟩))⟩

/-- AtomicResults: aligned words for AMO, CAS and CAS.Q in the scratchpad, and an operation its home performs at any address. -/
theorem witness_AtomicResults :
    let s := unit [(4, own 0x40), (5, own 0x41), (7, 2 ^ 60)]
    (amoBytes (.amoadd (r 2 4 6)) = 8 ∧ amoBytes (.amoaddX ⟨r 2 4 6, .zero, e2 1⟩) = 4 ∧ mayPerform (.amoadd (r 2 4 6)) s ∧ noSync s 0x40)
      ∧ ownBytes s (s.cur.reg 4) 8 8 0x40 ∧ ownBytes s (s.cur.reg 4) 16 16 0x40 ∧ (s.cur.reg 5).toNat % 8 ≠ 0
      ∧ failed (resolve s s.me .amo none (s.cur.reg 7) 8 8) 7 = true
      ∧ found (resolve s s.me .amo none (s.cur.reg 4) 8 8) (fun s1 g => match (amoAt s1 s1.me g .add 8 (s.cur.reg 6) (s.cur.reg 2)).2 with | .val _ => true | _ => false) = true := by
  unfold ownBytes mayPerform settled noSync; decide +kernel

/-- FullEmptyAccesses: an empty and a full word with nothing waiting, a deadline that has passed, a misaligned address and one below the windows. -/
theorem witness_FullEmptyAccesses :
    let s := unit [(4, own 0x40), (5, own 0x41), (6, 0x1000)]
    let t := setFull s (ownLoc s 0x40) true
    s.portQueue = [] ∧ s.cur.wait = .none ∧ wordFull s (ownLoc s 0x40) = false ∧ wordFull t (ownLoc s 0x40) = true ∧ settled s 3 ∧ noSync s 0x40
      ∧ portEa (.ldF (r 2 4 0)) s = own 0x40 ∧ ownBytes s (portEa (.ldF (r 2 4 0)) s) 4 4 0x40 ∧ ownBytes t (portEa (.ldF (r 2 4 0)) t) 4 4 0x40
      ∧ (portEa (.ldF (r 2 5 0)) s).toNat % 4 ≠ 0 ∧ (portEa (.ldF (r 2 6 0)) s).toNat % 4 = 0 ∧ (portEa (.ldF (r 2 6 0)) s).toNat < 0x00FD000000000000
      ∧ (viewOf (.ldF (r 2 4 8))).b ≠ 0 ∧ (s.cur.reg 8).toNat ≤ s.now ∧ nextWith (exec (.ldF (r 2 4 0)) s) (fun _ => true) = true := by
  unfold ownBytes settled noSync; decide +kernel

/-- FullEmptyAccesses: every instruction at the ends of the windows it may not reach, from a conductor, and at the first word outside the reservation; each is one of those meant. -/
theorem witness_FullEmptyWaits :
    let s := unit [(4, 0x00FD000000200000), (5, own 0x100000), (6, 2 ^ 56), (7, 0x00FDFFFFFFFFFFFC), (9, 0x00FCFFFFFFFFFFFC)]
    (∀ a ∈ [(4 : BitVec 5), 5, 6, 7, 9], (s.cur.reg a.toNat).toNat % 4 = 0 ∧ ∀ i ∈ [Instr.ldF (r 2 a 0), .ldFe (r 2 a 0), .stE (r 2 a 0), .stF (r 2 a 0), .feset (r 0 a 0), .feclr (r 0 a 0)],
        ready i s = true ∧ portEa i s = s.cur.reg a.toNat)
      ∧ (s.cur.reg 9).toNat < 0x00FD000000000000 ∧ 0x00FD000000200000 ≤ (s.cur.reg 4).toNat ∧ (s.cur.reg 7).toNat < 0x00FE000000000000 ∧ 2 ^ 56 ≤ (s.cur.reg 6).toNat
      ∧ 0x00FD000000000000 + s.cur.scratchBase + s.cur.scratchSize < (s.cur.reg 5).toNat + 4 ∧ (s.cur.reg 5).toNat < 0x00FD000000200000
      ∧ (∀ i ∈ [Instr.ldF (r 2 5 0), .stE (r 2 5 0), .feset (r 0 5 0)], ready i (conductor [(5, own 0)]) = true) ∧ (conductor []).curRef.isConductor = true := by decide +kernel

/-- FullEmptyAccesses: both lengths of the instructions meant. -/
theorem witness_isFullEmpty (x : XF) : isFullEmpty (.ldF (r 2 4 0)) ∧ isFullEmpty (.stEX x) ∧ isFullEmpty (.fesetX x) :=
  ⟨.inl (.inl ⟨_, rfl⟩), .inr (.inr (.inl (.inr ⟨_, rfl⟩))), .inr (.inr (.inr (.inr (.inl (.inr ⟨_, rfl⟩)))))⟩

/-- FencesAndSyncWords: a fence that waits for nothing, a generation that differs, a sync word that no strand waits on. -/
theorem witness_FenceAndSync :
    let s := unit [(4, own 0x40), (6, 1)]
    settled s 3 ∧ (0x000F : BitVec 16).toNat % 16 / 4 ≠ 0 ∧ (0x0003 : BitVec 16).toNat % 16 / 4 = 0 ∧ ownBytes s (portEa (.waitg (r 2 4 6)) s) 16 16 0x40
      ∧ ownValue s 0x48 4 ≠ (s.cur.reg 6).toNat % 2 ^ 32 ∧ ∀ q ∈ s.allStrands, q.2.wait ≠ .port (ownLoc s 0x40) := by
  unfold ownBytes settled; decide +kernel

/-! #### Accord cells and vector instructions -/

/-- An accord cell's object at 0x10000. -/
def accObj : Obj :=
  { mode := .accord, tile := false, base := 0x10000, len := 128, defop := 0, lease := 2048, lines := [{ first := 0x200, count := 1 }],
    bytes := [{ first := 0x10000, count := 128 }], virt := [{ first := 0x10000, count := 128 }], ctx := 3 }

/-- A state with that object; its first cell holds a list of siblings, the primary one 4. -/
def withCell (sibs : List Sibling) (frozen : Bool) : State :=
  let s := mapped (unit [(4, 0x10000), (5, 0x20000), (6, 7)])
  let c : AccCell := { sibs, ctr := 2, frozen }
  { s with objs := [(5, accObj)], cells := [(0x10000, c)], mem := [(0x10000, 4)] }

/-- Two siblings. -/
def twoSibs : List Sibling := [{ val := 3, dot := 0x101 }, { val := 4, dot := 0x102 }]

/-- AccordInstructions: a cell not frozen with siblings, one frozen, one that folds nothing, a place outside every object. -/
theorem witness_AccordBlends :
    (∀ s ∈ [withCell twoSibs false, withCell twoSibs true, withCell [] false], ready (.blend (r 2 4 6)) s = true ∧ ready (.blendC (r 2 4 6)) s = true
        ∧ (ordOf (viewOf (.blend (r 2 4 6)))).isRelease = false
        ∧ found (resolve s s.me .store none (s.cur.reg 4) 8 8) (fun s1 g => (s1.accordAt g.place).isSome && !g.window && decide ((s1.cellAt 0x10000).ctr + 1 ≤ 2 ^ 40 - 1)) = true
        ∧ found (resolve s s.me .store none (s.cur.reg 5) 8 8) (fun s1 g => (s1.accordAt g.place).isNone) = true)
      ∧ ((withCell twoSibs false).cellAt 0x10000).sibs.filter (fun _ => true) ≠ [] ∧ ((withCell twoSibs true).cellAt 0x10000).frozen = true
      ∧ ((withCell twoSibs false).cellAt 0x10000).sibs.filter (fun x => (obsDots (withCell twoSibs false).cur.obs 0x10000).contains x.dot) = [] := by decide +kernel

/-- AccordInstructions: LDC.A and OBSCLR of a cell, and OBSCLR of every entry. -/
theorem witness_AccordReads :
    let s := withCell twoSibs false
    ready (.ldcA (r 2 4 0)) s = true ∧ ready (.obsclr (r 0 4 0)) s = true ∧ ready (.obsclr (r 0 0 0)) s = true
      ∧ found (resolve s s.me .load none (s.cur.reg 4) 8 8)
          (fun s1 g => (s1.accordAt g.place).isSome && match (loadAt s1 s1.me g 8 (ordOf (viewOf (.ldcA (r 2 4 0))))).2 with | .val x => x == 4 | _ => false) = true := by decide +kernel

/-- AccordStoreCell: a store that adds a sibling, one that would make a fifth, and one that the pool has no room for. -/
theorem witness_AccordStoreCell :
    let c : AccCell := { sibs := twoSibs, ctr := 2, frozen := false }
    let d : AccCell := { sibs := twoSibs ++ [{ val := 5, dot := 0x201 }, { val := 6, dot := 0x301 }], ctr := 2, frozen := false }
    c.sibs.length ≤ 3 ∧ c.sibs.length + 1 ≤ 1 + c.sibs.length ∧ c.ctr + 1 ≤ 2 ^ 40 - 1 ∧ (d.sibs.filter (fun x => !([] : List Word).contains x.dot)).length = 4
      ∧ 0 + c.sibs.length < (c.sibs.filter (fun x => !([] : List Word).contains x.dot)).length + 1 := by decide +kernel

/-- AccordInstructions, VectorLoads: a held translation takes the cell's address to it, and its home performs an access. -/
theorem witness_heldPage :
    let s := withCell twoSibs false
    heldPage s (s.cur.reg 4) .store 0x10000 ∧ mayPerform (.blend (r 2 4 6)) s ∧ s.accordCell 0x10000 = some accObj ∧ (s.cellAt 0x10000).frozen = false
      ∧ (s.cellAt 0x10000).ctr + 1 ≤ 2 ^ 40 - 1 ∧ atHome s { place := .device s.modId 0x10000, nc := false, window := false } 0x10000 := by
  unfold heldPage mayPerform settled atHome
  exact ⟨⟨by decide +kernel, by decide +kernel, by decide +kernel, by decide +kernel, by decide +kernel, page 0, by decide +kernel, by decide +kernel, by decide +kernel, by decide +kernel⟩,
    by decide +kernel, by decide +kernel, by decide +kernel, by decide +kernel, by decide +kernel⟩

/-- Operands fetched without a fault, with every element there. -/
def fetched (s : State) (v : View) (second : Bool) (t : ET) : Bool :=
  match fetchVec s v second (Check.vlmax v) t with
  | (_, a, none) => (List.range (vlOf s.cur v)).all (fun e => match a.elem e with | .ok _ => true | .error _ => false)
  | _ => false

/-- Operand B fetched likewise, from where OPB says. -/
def fetchedB (s : State) (v : View) : Bool :=
  match fetchB s v (Check.vlmax v) (Check.tB v) with
  | (_, a, none) => (List.range (vlOf s.cur v)).all (fun e => match a.elem e with | .ok _ => true | .error _ => false)
  | _ => false

/-- VSTART at VL. -/
def atEnd (s : State) : State := onStrand s (fun t => { t with vstart := 4 })

/-- A bank of the executing core owned by its context, its entry 0 valid and the others not. -/
def withBank (s : State) : State :=
  { s with cores := [(0, { CoreSt.reset with banks := Vector.replicate 16 { entries := 5, valid := 1, owner := some 0, dirty := false } })] }

/-- VectorOperands: registers, s[B], a literal, and an entry of a bank, valid and not. -/
theorem witness_VectorOperands :
    let s := withBank (unit [])
    let coded : View := viewOf (.vaddX ⟨⟨r 2 4 6, { e1 2 10 2 0 with ca := true, cba := 3 }, e2 2⟩, none⟩)
    (viewOf (.vadd (r 2 4 6))).w2.qa = false ∧ Check.opb (viewOf (.vaddX ⟨⟨r 2 4 6, e1 2 2 2 0, e2 0x100⟩, none⟩)) = 1
      ∧ Check.opb (viewOf (.vaddX ⟨⟨r 2 4 0, e1 2 2 2 0, e2 0x200⟩, some 9⟩)) = 2
      ∧ coded.w1.ca = true ∧ (s.bank coded.w1.cba.toNat).owner = s.cur.record ∧ (s.bank 3).valid.getLsbD 0 = true
      ∧ (s.bank 3).valid.getLsbD 1 = false ∧ s.cur.cbuse.getLsbD 19 = false := by decide +kernel

/-- VectorArithmetic: fetched operands of a row of each kind; VSTART at VL and below it. -/
theorem witness_VectorArithmetic :
    (∀ p ∈ [(Instr.vadd (r 2 4 6), (2 : Word)), (.vmacc (r 2 4 6), 2), (.vfma (r 2 4 6), 6), (.vcmpEq (r 2 4 6), 2), (.vfcmpLt (r 2 4 6), 6)],
      let s := unitOf p.2 []
      let v := typedView p.1 s
      ready p.1 s = true ∧ s.cur.vstart.toNat < vlOf s.cur v ∧ vlOf (atEnd s).cur v ≤ (atEnd s).cur.vstart.toNat ∧ ready p.1 (atEnd s) = true
        ∧ fetched s v false (Check.tA v) = true ∧ fetchedB s v = true) := by decide +kernel

/-- ConversionResults: VPSUM, a VCVT of equal types and one of others, VQNT with its scales from a register and from s[B]. -/
theorem witness_ConversionResults :
    let s := unit []
    let q := Instr.vqnt ⟨r 2 4 6, e1 0 6 0 0, e2 0⟩
    let q1 := Instr.vqnt ⟨r 2 4 6, e1 0 6 0 0, e2 0x100⟩
    (∀ i ∈ [Instr.vpsum (r 2 4 0), .vcvt (r 2 4 0), .vcvtX ⟨r 2 4 0, e1 4 6 6 0, e2 0⟩, q, q1],
        ready i s = true ∧ s.cur.vstart.toNat < vlOf s.cur (typedView i s) ∧ fetched s (typedView i s) false (Check.tA (typedView i s)) = true)
      ∧ Check.opb (typedView q1 s) = 1 ∧ Check.opb (typedView q s) = 0 ∧ (fetchBits s false false 6 1 1 8 32 4).2.2.isNone = true
      ∧ (quantise s (decodeFloat .fp32 0) 127 .int8 false 0 (roundBits s.cur 0 0) 6).isOk = true := by decide +kernel

/-- MaskResults: every one is ready; a counted element and none. -/
theorem witness_MaskResults :
    let s := onStrand (unit []) (fun t => t.setK 1 4)
    let v := typedView (.kfirst (r 2 1 0)) s
    ready (.kfirst (r 2 1 0)) s = true ∧ isFirst s.cur v 2 ∧ isFirst (unit []).cur v 4 := by
  refine ⟨by decide +kernel, ⟨by decide +kernel, ?_, by decide +kernel⟩, by decide +kernel, ?_, by decide +kernel⟩
  · intro e he; interval_cases e <;> decide +kernel
  · intro e he; interval_cases e <;> decide +kernel

/-- PermuteResults: operands fetched, elements to act on. -/
theorem witness_PermuteResults :
    let s := unit []
    (∀ i ∈ [Instr.vslideup (r 2 4 6), .vslidedn (r 2 4 6), .vbcast (r 2 4 6), .vexpd (r 2 4 0), .vcompr (r 2 4 0), .vperm (r 2 4 6), .vmerge (r 2 4 6)],
        ready i s = true ∧ s.cur.vstart.toNat < vlOf s.cur (typedView i s) ∧ (crossFetch s (typedView i s)).2.2.isNone = true ∧ fetched s (typedView i s) true (Check.tB (typedView i s)) = true
          ∧ fetched s (typedView i s) false (Check.tD (typedView i s)) = true)
      ∧ (∀ i ∈ [Instr.viota (r 2 0 0), .vmvsv (r 2 4 0), .vid (r 2 0 0), .vmvvs (r 2 4 6)], ready i s = true) := by decide +kernel

/-- Reductions: the start value and the elements of a list; no ordered reduction in progress. -/
theorem witness_Reductions :
    (∀ p ∈ [(Instr.vredsum (r 2 4 6), (2 : Word)), (.vredmax (r 2 4 6), 2), (.vfredusum (r 2 4 6), 6), (.vfredosum (r 2 4 6), 6), (.vredmaxsum (r 2 4 6), 6)],
      let s := unitOf p.2 []
      let v := typedView p.1 s
      ready p.1 s = true ∧ s.cur.rsidx.toNat % 2 ^ 13 = 0
        ∧ (match reduceOperands s v 0 with
            | (_, a, b, none, none) => (elemsAt b [0, 1]).isOk && (elemsAt a ((List.range (vlOf s.cur v)).filter (picked s.cur v))).isOk
            | _ => false) = true) := by decide +kernel

/-- ConfigurationResults: a valid request with each length mode and three bad ones. -/
theorem witness_ConfigurationResults :
    ready (.vsetvl (r 2 4 6)) (unit [(6, 0x42)]) = true ∧ ready (.vsetvli ⟨r 2 4 0, 0x82⟩) (unit []) = true
      ∧ (∀ q ∈ [0x02, 0x42, 0x82], ¬ (256 ≤ q ∨ q / 64 % 4 = 3 ∨ (10 ≤ q % 16 ∧ q % 16 ≤ 14))) ∧ ∀ q ∈ [256, 0xC2, 10], 256 ≤ q ∨ q / 64 % 4 = 3 ∨ (10 ≤ q % 16 ∧ q % 16 ≤ 14) := by decide +kernel

/-- VectorLoads, VectorStores, AtomicResults: each element's address in the own scratchpad, one after another, strided and indexed. -/
theorem witness_VectorMemory :
    let s := unit [(4, own 0x40), (6, 8)]
    let vu := typedView (.vld (r 2 4 0)) s
    let vs := typedView (.vlds (r 2 4 6)) s
    let vx := typedView (.vldx (r 2 4 6)) s
    (∀ i ∈ [Instr.vld (r 2 4 0), .vldFf (r 2 4 0), .vlds (r 2 4 6), .vldx (r 2 4 6), .vst (r 2 4 0), .vsts (r 2 4 6), .vstx (r 2 4 6), .vamoadd (r 2 4 6)], ready i s = true ∧ mayPerform i s)
      ∧ 8 ≤ (Check.tD vu).width ∧ acted s.cur vu = [0, 1, 2, 3] ∧ MemoryForm s ∧ vu.w2.o = false
      ∧ (∀ e ∈ acted s.cur vu, ownBytes s (elemAddr 0 s.cur vu e) 4 4 (0x40 + 4 * e) ∧ noSync s (0x40 + 4 * e))
      ∧ (∀ e ∈ acted s.cur vs, ownBytes s (elemAddr 1 s.cur vs e) 4 4 (0x40 + 8 * e)) ∧ ∀ e ∈ acted s.cur vx, ownBytes s (elemAddr 2 s.cur vx e) 4 4 0x40 := by
  unfold ownBytes mayPerform settled noSync MemoryForm; decide +kernel

/-- R202: without a filling flacon no byte awaits its arrival bit. -/
theorem noFilling_of {s : State} (h : s.cur.flacons = Vector.replicate 8 .reset) (g : s.others = []) : noFilling s := by
  intro o
  simp [g, bytePending, State.allStrands, granulePending, h, Flacon.reset]

/-- VectorLoads, VectorStores, TileResults: no arrival bit is awaited in a fresh unit. -/
theorem witness_noFilling : noFilling (unit []) := noFilling_of rfl rfl

/-- VectorLoads, VectorStores: INT4 elements in the own scratchpad. -/
theorem witness_packed :
    let s := unitOf 15 [(4, own 0x40)]
    let v := typedView (.vld (r 2 4 0)) s
    ready (.vld (r 2 4 0)) s = true ∧ ready (.vst (r 2 4 0)) s = true ∧ (Check.tD v).width = 4 ∧ vlOf s.cur v * 4 ≤ 8 * 2
      ∧ (∀ b ∈ [0, 1], ownBytes s (vBase s.cur v + BitVec.ofNat 64 b) 1 1 (0x40 + b)) := by
  unfold ownBytes; decide +kernel

/-- R93, R106: an aligned access of the own window past the reservation takes ACCESS. -/
theorem resolve_past {s : State} {k : AccessKind} {l : Option Nat} {va : Word} {n o : Nat} (h1 : va.toNat = 0x00FD000000000000 + o) (h2 : va.toNat % n = 0) (h3 : o < 0x200000)
    (h4 : s.curRef.isConductor = false) (h5 : s.cur.scratchBase + s.cur.scratchSize < o + n) : resolve s s.me k l va n n = (s, .error 7) := by
  have h : fixedWindow s s.me l va.toNat n = .error 7 := by
    have : va.toNat - 0x00FD000000000000 = o := by omega
    simp only [fixedWindow, State.me, h4, this]
    rw [if_pos (by simp; omega)]
    have hs : s.strand s.curRef = s.cur := by simp [State.strand]
    simp [hs, Cause.access]
    omega
  simp only [resolve]
  rw [if_neg (by omega), if_neg (by omega), if_pos (by omega), h]

/-- R93: an aligned address past the 56-bit space takes ACCESS. -/
theorem resolve_far {s : State} {a : Agent} {k : AccessKind} {l : Option Nat} {va : Word} {n : Nat} (h1 : va.toNat % n = 0) (h2 : 2 ^ 56 ≤ va.toNat) :
    resolve s a k l va n n = (s, .error 7) := by
  simp only [resolve]
  rw [if_neg (by omega), if_pos h2]
  rfl

/-- An element whose access lies past the reservation ends in ACCESS. -/
theorem elemFaults_past {s : State} {v : View} {e n o : Nat} {va : Word} (h1 : va.toNat = 0x00FD000000000000 + o) (h2 : va.toNat % n = 0) (h3 : o < 0x200000)
    (h4 : s.curRef.isConductor = false) (h5 : s.cur.scratchBase + s.cur.scratchSize < o + n) : elemFaults s s v e va n 7 :=
  fun V => Or.inl (resolve_past (s := { s with cur := { s.cur with v := V } }) h1 h2 h3 h4 h5)

/-- An element whose access lies past the 56-bit space ends in ACCESS. -/
theorem elemFaults_far {s : State} {v : View} {e n : Nat} {va : Word} (h1 : va.toNat % n = 0) (h2 : 2 ^ 56 ≤ va.toNat) : elemFaults s s v e va n 7 :=
  fun _ => Or.inl (resolve_far h1 h2)

/-- VectorLoads: VLD.FF whose element 2 lies past the reservation of the own window, elements 0 and 1 active and inside it; one whose element 0 lies past the 56-bit space;
    one of 4-bit elements whose element 2 begins in the first byte past the reservation. -/
theorem witness_FirstFault :
    let s := unit [(4, own 0xFFFF8), (5, 2 ^ 56), (6, own 0xFFFFE)]
    let v := typedView (.vldFf (r 2 4 0)) s
    let z := typedView (.vldFf (r 2 5 0)) s
    (ready (.vldFf (r 2 4 0)) s = true ∧ ready (.vldFf (r 2 5 0)) s = true ∧ noFilling s ∧ active s.cur v 2 = true ∧ active s.cur z 0 = true
      ∧ ∀ e, e < 2 → active s.cur v e = true ∧ ownBytes s (elemAddr 0 s.cur v e) 4 4 (0xFFFF8 + 4 * e))
      ∧ elemFaults s s v 2 (elemAddr 0 s.cur v 2) 4 7 ∧ elemFaults s s z 0 (elemAddr 0 s.cur z 0) 4 7
      ∧ (let t := unitOf 15 [(4, own 0xFFFFF)]
        let w := typedView (.vldFf (r 2 4 0)) t
        (ready (.vldFf (r 2 4 0)) t = true ∧ (Check.tD w).width = 4 ∧ ∀ e, e < 3 → active t.cur w e = true) ∧ ownBytes t (vBase t.cur w + BitVec.ofNat 64 0) 1 1 (0xFFFFF + 0)
          ∧ elemFaults t t w 2 (vBase t.cur w + BitVec.ofNat 64 (2 * 4 / 8)) 1 7) := by
  refine ⟨⟨by decide +kernel, by decide +kernel, noFilling_of (by rfl) (by rfl), by decide +kernel, by decide +kernel, ?_⟩,
    elemFaults_past (o := 0x100000) (by decide +kernel) (by decide +kernel) (by decide) (by decide +kernel) (by decide +kernel), elemFaults_far (by decide +kernel) (by decide +kernel),
    ⟨by decide +kernel, ?_, elemFaults_past (o := 0x100000) (by decide +kernel) (by decide +kernel) (by decide) (by decide +kernel) (by decide +kernel)⟩⟩ <;>
  unfold ownBytes <;> decide +kernel

/-- VectorLoads: VLDA of doublewords of the own scratchpad and of one accord cell, VLDS.A of a cell and of a place outside every object. -/
theorem witness_AccordVectorLoads :
    let s := onStrand (withCell twoSibs false) (fun t => { t with vtype := 3, vl := 1 })
    let v := typedView (.vlda (r 2 4 6)) s
    ready (.vlda (r 2 4 6)) s = true ∧ ready (.vldsA (r 2 4 0)) s = true ∧ vlOf s.cur v = 1 ∧ active s.cur v 0 = true ∧ vBase s.cur v = 0x10000
      ∧ found (resolve s s.me .load (some 0) 0x10000 8 8)
          (fun s1 g => (s1.accordAt g.place).isSome && match (loadAt s1 s1.me g 8 (ordOf v)).2 with | .val x => x == 4 | _ => false) = true
      ∧ found (resolve s s.me .load (some 0) 0x20000 8 8) (fun s1 g => (s1.accordAt g.place).isNone) = true
      ∧ (let p := unitOf 3 [(4, own 0x40)]
        let w := typedView (.vlda (r 2 4 6)) p
        ready (.vlda (r 2 4 6)) p = true ∧ ∀ e ∈ acted p.cur w, ownBytes p (elemAddr 0 p.cur w e) 8 8 (0x40 + 8 * e)) := by unfold ownBytes; decide +kernel

/-! #### Engines, tiles, banks and bank commands -/

/-- Bytes of memory set. -/
def withBytes (s : State) (a : Nat) (bs : List Byte) : State := { s with mem := Memory.writeBytes s.mem a bs }

/-- Fields of records in the own scratchpad: offset, size and value of each. -/
def withFields (s : State) (l : List (Nat × Nat × Nat)) : State := l.foldl (fun s p => ownStore s p.1 p.2.1 p.2.2) s

/-- A record read. -/
def recordAt (s : State) (va : Word) (n : Nat) : Option (State × List Byte) :=
  match fetchRecord s s.me va n with
  | (t, .ok r) => some (t, r)
  | _ => none

/-- A store of the executing unit that waits at a port. -/
def queued (s : State) : State :=
  { s with portQueue := [{ loc := ownLoc s 0x40, who := s.curRef, store := some 7, toEmpty := false, deadline := none, va := own 0x40, scope := 0 }] }

/-- StreamResults: a descriptor in rule and one of zeros, a misaligned address, a read that fails, a store that waits at a port, a stream to clear. -/
theorem witness_StreamResults :
    let s := withFields (unit [(4, own 0x40), (5, own 0x48), (6, 2 ^ 56), (7, own 0x80)]) [(0x48, 8, 128)]
    (∀ i ∈ [Instr.strset (r 2 4 0), .strclr (r 2 0 0), .strstat (r 2 3 0)], ready i s = true)
      ∧ ownBytes s (own 0x40) 32 32 0x40 ∧ storesQueued s s.curRef = false ∧ storesQueued (queued s) s.curRef = true ∧ ready (.strset (r 2 4 0)) (queued s) = true
      ∧ vBase s.cur (typedView (.strset (r 2 4 0)) s) = own 0x40 ∧ (s.cur.reg 5).toNat % 32 ≠ 0 ∧ (recordAt s (s.cur.reg 6) 32).isNone = true
      ∧ (recordAt s (own 0x40) 32).map (·.2) = some (ownRecord s 0x40 32) ∧ streamRule (ownRecord s 0x40 32) ∧ ¬ streamRule (ownRecord s 0x80 32)
      ∧ s.cur.streams[3]? = some .reset := by unfold streamRule ownBytes; decide +kernel

/-- A copy of 64 bytes in the own scratchpad. -/
def aCopy (st : CopySt) (slot : Nat) : Copy :=
  { owner := { core := 0, slot }, src := own 0x1000, dst := own 0x2000, sync := 0, bytes := 64, levels := [], flac := none, slot := none, st, cursor := [], off := 0,
    sect := 0, begun := none, endAt := 0, acked := 0, mem := [], stale := [], rows := [] }

/-- Core 0 with a copy under number 3. -/
def withCopy (s : State) (c : Copy) : State := { s with cores := [(0, { CoreSt.reset with copies := (Vector.replicate 4 none).set 3 (some c) })] }

/-- CopyResults: a descriptor in rule and one of zeros; a copy of this context, one of another, and none; one that waits for its number. -/
theorem witness_CopyResults :
    let s := withFields (unit [(4, own 0x80)]) [(0x98, 4, 64)]
    let z := unit [(4, own 0x80)]
    (∀ i ∈ [Instr.cplvl (r 2 4 6), .cpgoX ⟨r 0 4 0, .zero, e2 3⟩, .cpstat (r 2 0 0), .cpcan (r 0 0 0)], ready i s = true)
      ∧ ownBytes s (s.cur.reg 4) 128 128 0x80 ∧ (∀ w ∈ s.syncs, False) ∧ s.copyAt 0 3 = none ∧ copyRule (ownRecord s 0x80 128) ∧ ¬ copyRule (ownRecord z 0x80 128)
      ∧ s.cur.captured = [] ∧ storesQueued s s.curRef = false ∧ s.cur.waitCopies = [] ∧ noneWaits s 3 ∧ (onStrand s (fun t => { t with waitCopies := [(3, aCopy .running 0)] })).cur.waitCopies = [(3, aCopy .running 0)]
      ∧ s.cur.copyEnds[3]? = some { sect := 0, status := 0 } ∧ ((withCopy s (aCopy .running 0)).copyAt 0 3).map (·.owner) = some s.curRef
      ∧ ((withCopy s (aCopy .running 1)).copyAt 0 3).map (fun c => decide (c.owner = s.curRef)) = some false := by
  unfold ownBytes copyRule noneWaits; decide +kernel

/-- FlaconResults: FLINIT's arguments in rule and out, busy and not; a flacon with no slots, a full head, an empty head. -/
theorem witness_FlaconResults :
    let s := unit [(4, own 0x100), (6, 0x400000100)]
    let slot : SlotSt → FlSlot := fun st => { st, err := false, arrived := 0 }
    let f : SlotSt → Flacon := fun st => { base := own 0x100, size := 256, slots := [slot st], head := 0, tail := 0 }
    (∀ i ∈ [Instr.flinit (r 2 4 6), .awaitf (r 2 0 0), .rels (r 2 0 0), .flstat (r 2 0 0)], ready i s = true)
      ∧ ringRule s.cur (own 0x100).toNat 256 4 ∧ ¬ ringRule s.cur 0 256 4 ∧ s.copyAt 0 3 = none
      ∧ ((withCopy s { aCopy .running 0 with flac := some 0 }).copyAt 0 3).map (·.flac) = some (some 0)
      ∧ s.cur.waitCopies = [] ∧ ((withCopy s { aCopy .waitSlot 0 with flac := some 0 }).copyAt 0 3).map (fun c => (c.st, c.flac)) = some (.waitSlot, some 0)
      ∧ s.cur.flacons[0]? = some .reset ∧ (f .full).slots[(f .full).head]? = some (slot .full) ∧ (f .filling).slots[0]? = some (slot .filling) := by
  unfold ringRule; decide +kernel

/-- A lease object of one line at 0x8000. -/
def leaseObj : Obj :=
  { mode := .lease, tile := false, base := 0x8000, len := 128, defop := 0, lease := 2048, lines := [{ first := 0x100, count := 1 }],
    bytes := [{ first := 0x8000, count := 128 }], virt := [{ first := 0x8000, count := 128 }], ctx := 3 }

/-- StashResults: STASHMAP's statuses 1, 2, 3 and 0, no lease running, and a mapping to drop or write back; ranges that end just before its line, that meet its first
    and its last byte, and one below the window. -/
theorem witness_StashResults :
    let s := { mapped (unit [(4, own 0x100), (6, 5), (7, own 0x101), (8, 6)]) with objs := [(5, leaseObj), (6, accObj)] }
    let m : StashMap := { off := 0x100, obj := 5, lines := [0x100], filled := [0], dirty := [0], bad := [] }
    (∀ i ∈ [Instr.stashmap (r 2 4 6), .stashunmap (r 2 4 0), .stashwb (r 0 4 6)], ready i s = true)
      ∧ stashStatus s (own 0x100).toNat 5 = 0 ∧ stashStatus s (own 0x101).toNat 5 = 1 ∧ stashStatus s (own 0x100).toNat 9 = 2 ∧ stashStatus s (own 0x100).toNat 6 = 3
      ∧ mapGet s.objs 5 = some leaseObj ∧ (∀ k, k < 128 → s.expiryOf (5 * 128 + k) ≤ s.now) ∧ s.cur.stash = []
      ∧ leaseObj.mode ≠ .stashed s.curRef.core s.curRef.slot
      ∧ m.lines[0]? = some 0x100 ∧ (own 0x100).toNat = 0x00FD000000000000 + m.off
      ∧ (let line := (own 0x100).toNat
        let meets := fun (lo n : Nat) => decide (lo < lo + n ∧ line < lo + n ∧ lo < line + 128)
        [(0, 0x1000), (line - 8, 8), (line - 8, 9), (line + 127, 1), (line + 128, 1), (line, 0)].map (fun p => meets p.1 p.2) = [false, false, true, true, false, false]) := by decide +kernel

/-- CacheResults: a line of the own scratchpad, one behind a down port, a dirty one, a line in range, a length above 65,536, an address that translates to nothing. -/
theorem witness_CacheResults :
    let s := mapped (unit [(4, 0x10000), (5, 2 ^ 56), (6, 128), (7, 65537)])
    (∀ i ∈ [Instr.cwb (r 0 4 6), .cinv (r 0 4 6), .cwbinv (r 0 4 6)], ready i s = true) ∧ 65536 < max (s.cur.reg 7).toNat 1 ∧ max (s.cur.reg 6).toNat 1 ≤ 65536
      ∧ failed (resolve s s.me .load none (s.cur.reg 5) 1 1) 7 = true
      ∧ found (resolve s s.me .load none (s.cur.reg 4) 1 1) (fun s1 g => !g.nc && g.place == .device s1.modId 0x10000 && (s1.objOfLine 0x200).isNone) = true
      ∧ keysRise s.stale = true ∧ setHas { s with dirty := [0x200] }.dirty 0x200 = true ∧ setHas s.dirty 0x200 = false
      ∧ unreachable { s with pkg := { s.pkg with domain := 2, down := [(0, 0), (0, 1), (0, 2), (0, 3)] } } (.device 1 0x10000) = true ∧ unreachable s (.device 0 0x10000) = false
      ∧ (let o := unit [(4, own 0x40)]
        ready (.cwb (r 0 4 6)) o = true ∧ (o.cur.reg 4).toNat % 128 + max (o.cur.reg 6).toNat 1 ≤ 128 ∧ ownBytes o (o.cur.reg 4) 1 1 0x40) := by unfold ownBytes; decide +kernel

/-- CollectiveResults: a descriptor of one participant, one out of rule, one with a misaligned DONE, and a rendezvous record. -/
theorem witness_CollectiveResults :
    let s := withFields (mapped (unit [(4, own 0x40), (5, own 0x41)])) [(0x64, 2, 1), (0x58, 8, (own 0x200).toNat), (0x50, 8, 0x10000)]
    let w := withFields (mapped (unit [(4, own 0x40)])) [(0x58, 8, (own 0x201).toNat)]
    (∀ i ∈ [Instr.collred (r 0 4 0), .collgat (r 0 4 0), .collbar (r 0 4 0)], ready i s = true) ∧ (s.cur.reg 5).toNat % 64 ≠ 0
      ∧ ownBytes s (s.cur.reg 4) 64 64 0x40 ∧ ownBytes s (own 0x200) 8 8 0x200 ∧ settled s 4 ∧ (∀ w ∈ s.syncs, False) ∧ seated s
      ∧ fieldAt (ownRecord w 0x40 64) 0x18 8 % 8 ≠ 0
      ∧ (rendPlace s s.me (BitVec.ofNat 64 (fieldAt (ownRecord s 0x40 64) 0x10 8))).isSome = true := by
  unfold ownBytes settled seated; decide +kernel

/-- CollectiveResults: the fields of those descriptors. -/
theorem witness_collRule :
    collRule (ownRecord (withFields (unit []) [(0x64, 2, 1), (0x58, 8, 512), (0x50, 8, 0x10000)]) 0x40 64) 2 ∧ ¬ collRule (ownRecord (unit []) 0x40 64) 2 := by
  simp only [collRule]; decide +kernel

/-- Core 0 with every tile and bank owned by the executing context, entry 0x78 of each bank holding 1.0. -/
def owned (s : State) : State :=
  { s with cores := [(0, { CoreSt.reset with tiles := Vector.replicate 12 { Tile.reset with owner := some 0 },
                                             banks := Vector.replicate 16 { entries := (0x3F80000000000000 : BitVec 16384) <<< 7680, valid := 1 <<< 0x78, owner := some 0, dirty := false } })] }

/-- OuterProducts: an owned tile with operands fetched; VSTART at 128. -/
theorem witness_OuterProducts :
    let s := owned (unit [])
    let i := Instr.opaccX ⟨r 2 4 6, e1 6 4 4 0, e2 0⟩
    let v := typedView i s
    ready i s = true ∧ (s.tile v.d).owner = s.cur.record ∧ s.cur.vstart.toNat < 128 ∧ fetched s v false (Check.tA v) = true ∧ fetched s v true (Check.tB v) = true
      ∧ ready i (onStrand s (fun t => { t with vstart := 128 })) = true := by decide +kernel

/-- TileResults: owned tiles, and one row, masked, that lies in the own scratchpad. -/
theorem witness_TileMoves :
    let s := onStrand (owned (unit [(4, own 0x1000), (6, 512)])) (fun t => t.setK 1 1)
    let i := Instr.accldX ⟨r 2 4 6, { Ext1.zero with km := 1 }, e2 0⟩
    (∀ j ∈ [Instr.accz (r 2 0 0), i, .accrdX ⟨r 2 4 6, e1 2 2 2 1, e2 0⟩, .accwrX ⟨r 2 4 6, e1 2 2 2 1, e2 0⟩, .accscaleX ⟨r 2 4 0, e1 6 2 2 0, e2 0⟩], ready j s = true)
      ∧ s.cur.vstart.toNat < 128 ∧ (s.tile 2).owner = s.cur.record ∧ (s.tile 4).owner = s.cur.record ∧ (∀ q, q < 128 → rowOn s.cur (typedView i s) q = decide (q = 0))
      ∧ ∀ c, c < 128 → ownBytes s (s.cur.reg 4 + BitVec.ofNat 64 0 * s.cur.reg 6 + BitVec.ofNat 64 (4 * c)) 4 4 (0x1000 + 4 * c) := by
  unfold ownBytes; decide +kernel

/-- TileResults: a DRAIN of one row, its scales 255, into the own scratchpad; a misaligned s[A]. -/
theorem witness_DrainResults :
    let s := onStrand (owned (unit [(4, own 0x1000), (5, own 0x1008)])) (fun t => { (t.setK 1 1) with v := Vector.replicate 32 (BitVec.allOnes 2048) })
    let i := Instr.drainX ⟨r 2 4 6, { e1 0 2 2 0 with km := 1 }, e2 0⟩
    let v := typedView i s
    ready i s = true ∧ (s.tile v.d).owner = s.cur.record ∧ (s.cur.reg 4).toNat % 16 = 0 ∧ (s.cur.reg 5).toNat % 16 ≠ 0 ∧ (∀ q, q < 128 → rowOn s.cur v q = decide (q = 0))
      ∧ (∀ c, c < 128 → elemIn s.cur v.b 2 8 (0 * 4 + c / 32) = 255)
      ∧ (∀ k, k < 16 → ownBytes s (s.cur.reg 4 + BitVec.ofNat 64 (0 * 128) + BitVec.ofNat 64 (8 * k)) 8 8 (0x1000 + 0 * 128 + 8 * k)) ∧ ∀ w ∈ s.syncs, False := by
  unfold ownBytes; decide +kernel

/-- TileResults: with every scale 255 the codes of an integer type are 0 with NV. -/
theorem witness_drainsTo (s : State) (v : View) (q c : Nat) (hf : (Check.tD v).isFloat = false) (h : elemIn s.cur v.b 2 8 (if v.imm16.testBit 0 then 0 else q * 4 + c / 32) = 255) :
    drainsTo s v q c 0 Flags.nv := by
  unfold drainsTo
  simp only
  rw [if_pos h, hf]
  rfl

/-- HistogramResults: an owned tile, no count held; a valid entry at 0x78, and an invalid one with and without SUBST. -/
theorem witness_HistogramResults :
    let s := owned (unit [])
    let i := Instr.scalepick ⟨r 2 4 6, e1 9 2 2 0, e2 0⟩
    let z := withBank (unit [])
    ready (.histo (r 2 4 6)) s = true ∧ s.cur.cv.hist = [] ∧ (s.tile 4).owner = s.cur.record ∧ ready i s = true ∧ Check.tD (typedView i s) = .ci8 ∧ (s.bank (curveBank s.cur)).owner = s.cur.record
      ∧ (s.bank 0).valid.getLsbD 0x78 = true ∧ decodeFloat .fp32 ((s.bank 0).entry 0x78 / 2 ^ 32) = decodeFloat .fp32 0x3F800000
      ∧ (z.bank 0).owner = z.cur.record ∧ (z.bank 0).valid.getLsbD 0x78 = false ∧ substOf z.cur 0 = false
      ∧ substOf (onStrand z (fun t => { t with cbuse := 0x10000 })).cur 0 = true := by decide +kernel

/-- CodebookBanks: an owned bank, two entries from the own scratchpad, breakpoints in rule and out. -/
theorem witness_CodebookBanks :
    let s := owned (unit [(4, own 0x40), (6, 0x2FF)])
    let x := onStrand s (fun t => { t with v := t.v.setIfInBounds 8 (BitVec.ofNat 2048 (packElems 32 ((List.range 17).map (fun j => if j = 0 then 0 else 0x3F800000 + j * 0x800000)))) })
    (∀ i ∈ [Instr.cbld (r 2 4 6), .cbset (r 2 4 6), .cbinv (r 2 0 6), .cbuse (r 2 4 0), .cbstat (r 2 4 6), .pwlset (r 2 8 0)], ready i s = true) ∧ (s.bank 2).owner = s.cur.record ∧ (s.bank 4).owner = s.cur.record
      ∧ rangeOf s.cur (typedView (.cbld (r 2 4 6)) s) = (255, 2) ∧ ownBytes s (s.cur.reg 4 + BitVec.ofNat 64 8) 8 8 0x48
      ∧ (∀ j, j < 16 → ltNum (decodeFloat .fp32 (elemIn x.cur 8 1 32 j)) (decodeFloat .fp32 (elemIn x.cur 8 1 32 (j + 1))) = true)
      ∧ ltNum (decodeFloat .fp32 (elemIn s.cur 8 1 32 0)) (decodeFloat .fp32 (elemIn s.cur 8 1 32 1)) = false := by unfold ownBytes; decide +kernel

/-- A BLU in a command's body: bank 0, granted 1. -/
def withBlu (b : Blu) : State :=
  { State.reset with blus := [(0, { b with st := .run })], blu := { BluCtx.reset with grant := 1, first := [false], last := [true] } }

/-- A command on bank 0 with result rows. -/
def aCommand (rows : List Nat) (st : CmdSt) : BankCmd := { cmdOfDesc (List.replicate 256 0) [] with grant := 1, banks := [0], rows, st }

/-- BankWords: a word that runs, one whose guard does not hold, levels in rule and out. -/
theorem witness_BankWords :
    let s := withBlu .reset
    wordRuns { g := 0, gk := false } s ∧ wordRuns { g := 1, gk := true } s ∧ ¬ wordRuns { g := 1, gk := false } s
      ∧ ((s.bluAt 0).w[0]?.getD 0).extractLsb' 0 16 = 0 ∧ ((0x4000 : BitVec 16).extractLsb' 14 2 ≠ 0) := by unfold wordRuns; decide +kernel

/-- LookupResults: a BLU without a table, one with a table, a beat read, a skip bit clear and set. -/
theorem witness_LookupResults :
    let h : Half := { st := .built, k := 1, g := 8, t := 1, ew := 16, table := [List.replicate 256 3] }
    let s := withBlu { Blu.reset with halfA := h, skip := 1 }
    wordRuns { g := 0, gk := false } s ∧ (withBlu .reset |>.bluAt 0).readHalf.st = .unbuilt ∧ (s.bluAt 0).readHalf.st = .built ∧ (s.bluAt 0).skip.getLsbD 0 = true
      ∧ (withBlu { Blu.reset with halfA := h } |>.bluAt 0).skip.getLsbD 0 = false ∧ keysRise (s.bluAt 0).acc = true ∧ (s.bluAt 0).readHalf.t ≤ 4
      ∧ (dramRead s (openRow s + 16 * 0) 16).2.2 = false ∧ (dramRead s (openRow s + 16 * 0) 16).1.bluAt 0 = s.bluAt 0 := by unfold wordRuns; decide +kernel

/-- RowMoves: a command with a result row in the bank. -/
theorem witness_RowMoves :
    let s := { withBlu .reset with cmds := [aCommand [0] .started] }
    wordRuns { g := 0, gk := false } s ∧ (s.cmdOf s.blu.grant).isSome = true ∧ resultRow s (aCommand [0] .started) 0 0 = some 0 ∧ MemoryForm s
      ∧ openRow s % 64 = 0 ∧ s.latent = [] ∧ (dramRead s (openRow s) 64).2.2 = false ∧ keysRise (s.bluAt 0).acc = true ∧ tidyAt s (openRow s / 128) := by unfold wordRuns MemoryForm tidyAt; decide +kernel

/-- A conductor with a command's descriptor of one BNOP on bank 0 at 0x10000, its body at 0x10100. -/
def withDesc : State :=
  let s := mapped (conductor [(4, 0x10000), (5, 0x10001), (6, 2 ^ 56 - 256)])
  let none4 := bytesOfNat 4 0xFFFFFFFF
  withBytes (withBytes (withBytes s 0x10000 (bytesOfNat 12 (1 + 2 ^ 64 + 2 ^ 80))) 0x10010 (bytesOfNat 9 (0x10100 + 2 ^ 64))) 0x1002C (none4 ++ none4 ++ none4 ++ none4 ++ none4)

/-- DescriptorStores: an aligned descriptor at a place, a misaligned one, one whose store faults. -/
theorem witness_DescriptorStores :
    let s := withDesc
    (∀ i ∈ [Instr.bscope (r 2 4 6), .bnest (r 2 4 6), .bbody (r 2 4 6)], ready i s = true) ∧ (s.cur.reg 5).toNat % 256 ≠ 0
      ∧ failed (resolve s s.me .store none (2 ^ 56) 16 16) 7 = true
      ∧ found (resolve s s.me .store none (s.cur.reg 4) 16 16)
          (fun s1 g => g.place == .device s1.modId 0x10000 && !windowBars s1 g && (s1.accordAt g.place).isNone && (s1.objOfLine 0x200).isNone && s1.latent.isEmpty && s1.snoop.isEmpty && s1.stale.isEmpty && Memory.wf s1.mem) = true
      ∧ found (resolve { s with objs := [(5, accObj)] } s.me .store none (s.cur.reg 4) 16 16) (fun s1 g => (s1.accordAt g.place).isSome) = true := by decide +kernel

/-- A conductor with that descriptor in the scratchpad of core 0, where a unit of its context runs, the body 256 bytes on. -/
def scratchDesc : State :=
  let s := conductor [(4, 0x00FE000000001000), (6, 7)]
  let t : State := { s with others := [({ core := 0, slot := 0 }, strandOf 2 [])] }
  withBytes (withBytes t (coreLoc t 0 0x1000) (bytesOfNat 12 (1 + 2 ^ 64 + 2 ^ 80))) (coreLoc t 0 0x1010) (bytesOfNat 9 (0x00FE000000001100 + 2 ^ 64))

/-- DescriptorStores, CommandIssue: a descriptor in a scratchpad, its body of one word there too; no ST.E outstanding, and one. -/
theorem witness_anyBytes :
    let s := scratchDesc
    let q := Memory.readBytes s.mem (coreLoc s 0 0x1000) 256
    (∀ i ∈ [Instr.bscope (r 2 4 6), .bnest (r 2 4 6), .bbody (r 2 4 6), .bcmd (r 2 4 0)], ready i s = true) ∧ ready (.bcmd (r 2 4 0)) (queued s) = true
      ∧ anyBytes s (s.cur.reg 4) 256 256 0 0x1000 ∧ anyBytes s (s.cur.reg 4 + BitVec.ofNat 64 0x10) 16 16 0 0x1010 ∧ setHas s.syncs (coreLoc s 0 0x1010) = false
      ∧ fieldAt q 0x18 1 = 1 ∧ fieldAt q 0x28 4 = 0 ∧ anyBytes s (BitVec.ofNat 64 (fieldAt q 0x10 8)) 4 4 0 0x1100
      ∧ storesQueued s s.curRef = false ∧ storesQueued (queued s) s.curRef = true ∧ (recordAt s (2 ^ 56 - 256) 256).isNone = true := by
  unfold anyBytes; decide +kernel

/-- What BCMD's checks answer for a descriptor. -/
def judged (s : State) : Option Nat :=
  match recordAt s (s.cur.reg 4) 256 with
  | some (s1, q) =>
    match fetchBody s1 q with
    | (s2, .ok body) =>
      match bcastPlaces s2 q with
      | (s3, .ok _) => some (judge s3 q (cmdOfDesc q body)).1
      | _ => none
    | _ => none
  | none => none

/-- CommandIssue: a command accepted, one refused for its descriptor, and all slots held. -/
theorem witness_CommandAcceptance :
    ready (.bcmd (r 2 4 0)) withDesc = true ∧ judged withDesc = some 0 ∧ judged (mapped (conductor [(4, 0x10000)])) = some 2
      ∧ judged (onStrand withDesc (fun t => { t with bankSlots := Vector.replicate 8 { grant := some 1 } })) = some 1 := by decide +kernel

/-- CommandWaits: an empty slot, one that waits, one complete with a clean and one with a bad summary. -/
theorem witness_CommandWaits :
    let held := fun (st : CmdSt) (sum : Word) => { onStrand (conductor []) (fun t => { t with bankSlots := t.bankSlots.setIfInBounds 0 { grant := some 1 } }) with
      cmds := [{ aCommand [] st with summary := sum }] }
    (∀ i ∈ [Instr.bwait (r 2 4 0), .bwaitX ⟨r 2 4 0, .zero, e2 1⟩, .bfence (r 0 0 0), .bstat (r 2 4 6)], ready i (conductor []) = true)
      ∧ ((conductor []).cur.bankSlots[0]?).bind (·.grant) = none ∧ ((held .accepted 0).cmdOf 1).map (·.st) = some .accepted
      ∧ ((held .complete 0x8000000000000000).cmdOf 1).map (·.summary) = some 0x8000000000000000 ∧ (0x8000000000000000 : Word).extractLsb' 16 32 = 0
      ∧ (0x8000000000010000 : Word).extractLsb' 16 32 ≠ 0 := by decide +kernel

/-! #### System and scheduling instructions -/

/-- A supervisor strand. -/
def supervisor (s : State) : State := onStrand s (fun t => { t with status := 1 })

/-- UnitControl: INTRAP set, with and without PARK, and clear; writes performed and pending, an ST.E outstanding, a copy of its own that has not ended; the other slot ready, halted or empty. -/
theorem witness_UnitControl :
    let s := unit []
    let h := onStrand s (fun t => { t with status := 4 })
    let p := onStrand s (fun t => { t with status := 0x14 })
    let w := onStrand s (fun t => { t with acks := [{ due := 9, line := 0 }] })
    let y := { s with others := [({ core := 0, slot := 1 }, { strandOf 2 [] with st := .ready })] }
    let z := { s with others := [({ core := 0, slot := 1 }, { strandOf 2 [] with st := .ready, halted := true })] }
    (∀ i ∈ [Instr.trap (r 0 0 0), .eret (r 0 0 0), .halt (r 0 0 0), .yield (r 0 0 0)], ∀ x ∈ [s, h, p, w, y, z, queued s], ready i x = true)
      ∧ storesQueued s s.curRef = false ∧ storesQueued (queued s) s.curRef = true ∧ s.cur.waitCopies = [] ∧ writesPending (queued s) s.cur 3 = false
      ∧ ((withCopy s (aCopy .running 0)).copyAt 0 3).map (fun c => (c.owner, c.st)) = some (s.curRef, .running)
      ∧ (z.strand { core := 0, slot := 1 }).halted = true ∧ (y.strand { core := 0, slot := 1 }).halted = false ∧ y.curRef.slot < 2
      ∧ s.cur.status.getLsbD 2 = false ∧ h.cur.status.getLsbD 2 = true ∧ h.cur.status.getLsbD 4 = false ∧ p.cur.status.getLsbD 4 = true
      ∧ writesPending s s.cur 3 = false ∧ writesPending w w.cur 3 = true ∧ (∀ n, n < 4 → s.copyAt 0 n = none)
      ∧ (s.strand { core := 0, slot := 1 }).st ≠ .ready ∧ (y.strand { core := 0, slot := 1 }).st = .ready ∧ s.curRef.isConductor = false := by decide +kernel

/-- The three register accesses of a number, two of them from s4. -/
noncomputable def regRead (n : BitVec 16) : Instr := .csrrd ⟨r 2 0 0, .zero, e2 n⟩
noncomputable def regWrite (n : BitVec 16) : Instr := .csrwr ⟨r 0 4 0, .zero, e2 n⟩
noncomputable def regSwap (n : BitVec 16) : Instr := .csrswp ⟨r 2 4 0, .zero, e2 n⟩

/-- RegisterAccess: a supervisor number in user mode and in supervisor mode, a writable, a fixed, STATUS and a queue's owner register. -/
theorem witness_RegisterAccess :
    ([0x002, 0x02C, 0x000, 0x003, 0x024, 0x028, 0x800, 0x814, 0x82F, 0xC00].all
        (fun n => ready (regRead n) (unit []) && ready (regWrite n) (supervisor (unit [])) && ready (regSwap n) (unit []))) = true
      ∧ (unit []).cur.status.getLsbD 0 = false ∧ (supervisor (unit [])).cur.status.getLsbD 0 = true := by
  refine ⟨?_, ?_, ?_⟩ <;> decide +kernel

/-- ObjectResults: a declaration taken with no lease, one of zeros, a misaligned record, one that faults, none at work; an object to drop, of this context and of another. -/
theorem witness_ObjectResults :
    let s := withFields (mapped (unit [(4, own 0x40), (5, own 0x41), (6, 2 ^ 56)])) [(0x40, 8, 0x8000), (0x50, 8, 128)]
    let q := ownRecord s 0x40 64
    let d := { mapped (unit [(4, 5), (5, 6)]) with objs := [(5, leaseObj), (6, { leaseObj with ctx := 9 })] }
    ready (.objdecl (r 2 4 0)) s = true ∧ ready (.objdrop (r 2 4 0)) s = true ∧ s.cur.wait = .none ∧ ownBytes s (s.cur.reg 4) 64 64 0x40 ∧ lineRecord q ∧ s.micro = []
      ∧ s.tlb.find? (fun x => x.covers s.curRef.cluster s.cur.ctx 0x8000) = some (page 0) ∧ permitted (page 0).perms .amo (s.cur.status.getLsbD 0) = true
      ∧ (page 0).pbase + 0x8000 % 2 ^ (page 0).bits = 0x8000 ∧ 0x8000 + 128 ≤ s.ceil ∧ s.ceil ≤ 2 ^ 39 ∧ s.objOfLine 0x100 = none ∧ mapGet s.objs 0 = none
      ∧ s.expiryOf (leaseKey none s.modId s.modId 0x100) ≤ s.now ∧ s.now < objectLeases { d with expiry := [(leaseKey (some 5) d.modId d.modId 0x100, 9)] } 5 ∧ (s.cur.reg 5).toNat % 64 ≠ 0 ∧ (recordAt s (s.cur.reg 6) 64).isNone = true
      ∧ (recordAt s (own 0x40) 64).map (·.2) = some q ∧ ¬ (fieldAt q 8 1 % 4 > 1 ∨ fieldAt q 0x0B 1 ≠ 0 ∨ (fieldAt q 8 1 % 4 = 0 ∧ fieldAt q 0x10 8 = 0))
      ∧ (match declare s q with | (s2, .ok (n, due)) => n == 0 && decide (due ≤ s2.now) | _ => false) = true
      ∧ (match declare s (List.replicate 64 0) with | (_, .error e) => e == 1 | _ => false) = true
      ∧ keysRise d.objs = true ∧ mapGet d.objs 7 = none ∧ mapGet d.objs 5 = some leaseObj ∧ leaseObj.lines ≠ [] ∧ leaseObj.ctx = d.cur.ctx ∧ objectLeases d 5 ≤ d.now
      ∧ (mapGet d.objs 6).map (·.ctx) = some 9 := by unfold ownBytes lineRecord; decide +kernel

/-- TranslationControl: the kinds of TLBINV in both modes; the unit's own context and another; a descriptor below the ceiling and one above. -/
theorem witness_TranslationControl :
    let s := mapped (unit [(4, 0x10000), (5, 0x30001), (6, 3), (7, 0x30002)])
    (∀ i ∈ [Instr.tlbinv (r 0 4 5), .ncwset (r 0 4 6)], ready i s = true ∧ ready i (supervisor s) = true) ∧ ((s.cur.reg 5).extractLsb' 0 2).toNat = 1
      ∧ ((s.cur.reg 6).extractLsb' 0 2).toNat = 3 ∧ ((s.cur.reg 7).extractLsb' 0 2).toNat = 2 ∧ ((s.cur.reg 6).extractLsb' 0 16).toNat = s.cur.ctx
      ∧ (let t := { s with sched := { s.sched with ctxtab := 0x6000000000 } }
        t.ceil < descAddr t 3 + 256)
      ∧ descAddr s 3 + 256 ≤ s.ceil ∧ (descAddr s 3 + 0x80) % 8 = 0 ∧ MemoryForm s ∧ s.latent = [] ∧ s.stale = [] ∧ s.objOfLine ((descAddr s 3 + 0x80) / 128) = none ∧ s.tlb ≠ [] ∧ s.micro = []
      ∧ tidyAt { s with micro := [{ core := 0, entry := page 0 }], stale := [(5, [])], dirty := [5] } 5 := by unfold MemoryForm tidyAt; decide +kernel

/-- A state whose context owns queue 5, with entries and pops that wait there. -/
def withQueue (l : List PqEntry) (pops : List (Nat × SlotRef)) : State :=
  let s := unit []
  { s with sched := { s.sched with pqown := s.sched.pqown.setIfInBounds 5 0x10003, queues := s.sched.queues.setIfInBounds 5 l }, popQueue := pops,
           others := [({ core := 1, slot := 0 }, { strandOf 2 [] with st := .waiting, wait := .pop 5 })] }

/-- QueueResults: an owned queue, empty and not, with a pop that waits and without; one that is not owned; a pop already served. -/
theorem witness_QueueResults :
    let e : PqEntry := { key := 3, payload := 4 }
    let u : SlotRef := { core := 1, slot := 0 }
    ownedQueue (withQueue [e] []) 5 ∧ (∀ i ∈ [Instr.pqpushX ⟨r 2 4 6, .zero, e2 5⟩, .pqpopX ⟨r 2 0 0, .zero, e2 5⟩], ready i (withQueue [e] []) = true)
      ∧ settled (withQueue [e] []) 3 ∧ ((withQueue [e] []).sched.queues[5]?).getD [] = [e] ∧ ((withQueue [] []).sched.queues[5]?).getD [] = []
      ∧ (withQueue [] [(5, u)]).popQueue.find? (fun p => p.1 == 5) = some (5, u) ∧ u ≠ (withQueue [] []).curRef ∧ ((withQueue [] []).strand u).st = .waiting
      ∧ (withQueue [] []).sched.pqown[6]? = some 0 ∧ (onStrand (withQueue [] []) (fun t => { t with wait := .popDone 4 3 })).cur.wait = .popDone 4 3
      ∧ alone (onStrand (withQueue [] []) (fun t => { t with wait := .popDone 4 3 })).cur = true := by
  refine ⟨⟨by decide, 0x10003, by decide +kernel, by decide +kernel, by decide +kernel⟩, ?_⟩
  unfold settled; decide +kernel

/-- A job of one phase and no node. -/
def aJob : Job :=
  { id := 1, tag := 9, nodes := [], phases := 1, contract := none, notify := false, notifyPhase := false, param := 0, doneVa := 0, ctx := 3, phase := 0, live := true,
    runs := [], devPending := 0, phaseCancel := false, jobCancel := false, anyCancelled := false, visible := 0, hostStores := false }

/-- A launch of that job, of two units. -/
def aLaunch : Launch :=
  { handle := 7, job := 1, node := none, entry := 0, param := 0, gangs := 2, width := 1, cond := false, scratch := 0, prio := 0, persist := false,
    canmode := false, wdscope := false, contract := none, centry := 0, wdog := 0, finished := 0, doneUnits := [], triggered := [], bad := false, fired := false,
    cancelled := false, complete := false }

/-- The job with the launch, which the executing strand belongs to. -/
def withJob (j : Job → Job) (l : Launch → Launch) : State :=
  let s := mapped (onStrand (unit [(4, 0x10000), (5, 0x10001), (6, 7), (7, 0x700000000)]) (fun t => { t with launch := 7 }))
  { s with sched := { s.sched with jobs := [j aJob], launches := [l aLaunch] } }

/-- LaunchResults: no job; a job live, cancelled, with too many launches; TRIGGER first, again, with writes pending and without a launch. -/
theorem witness_LaunchResults :
    let s := withJob id id
    ready (.launch (r 2 4 0)) s = true ∧ ready (.trigger (r 0 0 0)) s = true ∧ (s.cur.reg 5).toNat % 64 ≠ 0 ∧ (s.cur.reg 4).toNat % 64 = 0 ∧ jobOfCur (unit []) = none
      ∧ (jobOfCur s).map (fun j => (j.live, j.phaseCancel, j.devPending)) = some (true, false, 0) ∧ (jobOfCur (withJob (fun j => { j with phaseCancel := true }) id)).map (·.phaseCancel) = some true
      ∧ (jobOfCur (withJob (fun j => { j with devPending := 4096 }) id)).map (·.devPending) = some 4096
      ∧ s.cur.storeErrs = [] ∧ writesPending s s.cur 3 = false ∧ (s.launchOfUnit s.cur).map (·.units) = some 2 ∧ (s.launchOfUnit s.cur).map (·.triggered) = some []
      ∧ ((withJob id (fun l => { l with triggered := [0] })).launchOfUnit s.cur).map (·.triggered) = some [0] := by decide +kernel

/-- A launch of contract 2, whose release 0 runs. -/
def withRelease : State :=
  let s := withJob id (fun l => { l with contract := some 2 })
  let c : Contract := { id := 2, clusters := 1, stackMask := 0, shape := 1, gangs := 1, period := 100, deadline := 50, budget := 40, bankbud := 0, first := 0, nextRel := 1, releases := 1,
                        overruns := 0, misses := 0, running := some { n := 0, stopped := false, deadline := 50, used := 0, since := some 0, dispatched := true, bankUsed := 0 } }
  { s with sched := { s.sched with contracts := [c] } }

/-- CancelAndHeart: the four levels with a target and without; a best-effort unit and one of a running release. -/
theorem witness_CancelAndHeart :
    ([0, 1, 2, 3].all (fun n => ready (.cancelX ⟨r 2 4 0, .zero, e2 n⟩) (withJob id id) && ready (.heartX ⟨r 2 0 0, .zero, e2 n⟩) withRelease)) = true
      ∧ ((withJob id id).launchOf 7).isSome = true ∧ ((withJob id id).launchOf 8).isNone = true ∧ ((withJob id id).cur.reg 7).toNat / 2 ^ 32 = 7
      ∧ ((withJob id id).cur.reg 6).toNat % 2 ^ 32 = 7 ∧ (jobOfCur (withJob id id)).isSome = true
      ∧ ((withJob id id).allStrands.find? (fun p => p.2.st != .empty && (p.2.launch.toNat % 2 ^ 32 == 7 && p.2.unitId == 0))).isSome = true
      ∧ (((withJob id id).sched.jobs ++ (withJob id id).sched.heldJobs).all (fun j => j.tag != 5)) = true
      ∧ ((withJob id id).launchOfUnit (withJob id id).cur).map (·.contract) = some none
      ∧ ((withRelease.contractOf 2).map (·.running.isSome)) = some true := by
  refine ⟨?_, ?_, ?_, ?_, ?_, ?_, ?_, ?_, ?_, ?_⟩ <;> decide +kernel


/-! #### The package, the host port and the home memory -/

/-- Nothing differs in DRAM from the L2's bytes. -/
theorem tidy_of_nil (s : State) (h : s.stale = []) (l : Nat) : tidyAt s l := by
  unfold tidyAt
  rw [h]
  exact ⟨rfl, by simp [mapGet]⟩

/-- The package changed. -/
def onPkg (s : State) (f : Package → Package) : State := { s with pkg := f s.pkg }

/-- The host port changed. -/
def onHost (s : State) (f : HostPort → HostPort) : State := { s with host := f s.host }

/-- PackageSteps: stages that end; a slot committed and none; channels left and none; DOMAIN values in rule and out. Which of the two an image is cannot be evaluated (log 7): one of them it is. -/
theorem witness_BootSteps :
    (∀ n ∈ [1, 3, 5, 7], (withBoot .reset n).pkg.bootStatus = BitVec.ofNat 64 n)
      ∧ (∀ m : List (Nat × Byte), Config.imageVerifies m = true ∨ Config.imageVerifies m = false) ∧ (withBoot .reset 2).pkg.bootStatus = 2 ∧ (withBoot .reset 2).pkg.preferred = none
      ∧ (onPkg (withBoot .reset 2) (fun p => { p with preferred := some true })).pkg.preferred = some true ∧ State.reset.stale = []
      ∧ (let s := withBoot .reset 4; s.pkg.recActive &&& ~~~(s.pkg.chFenced ||| s.pkg.recPending) ≠ 0 ∧ MemoryForm s)
      ∧ (let s := onPkg (withBoot .reset 4) (fun p => { p with recActive := 0 }); s.pkg.recActive &&& ~~~(s.pkg.chFenced ||| s.pkg.recPending) = 0)
      ∧ (withBoot .reset 6).host.mode = 0 ∧ domainRule 1 ∧ domainRule 0xF10 ∧ ¬ domainRule 3 ∧ ¬ domainRule 0x101 ∧ (withBoot .reset 0x87).pkg.bootStatus = 0x87 := by
  unfold MemoryForm domainRule
  refine ⟨by decide +kernel, fun m => ?_, by decide +kernel⟩
  cases Config.imageVerifies m <;> simp

/-- PackageSteps: a module of two with ports up, a strand, a line with a latent error, with a correctable one and with none, temperatures at their bounds, a part that runs and one that has stopped, a dump address. -/
theorem witness_PlatformSteps :
    let s := onPkg (unit []) (fun p => { p with domain := 0xF0002 })
    let f := onPkg (unit []) (fun p => { p with fatal := some 2 })
    let l := { unit [] with latent := [1] }
    let c := { unit [] with correctable := [1] }
    1 < ownLines ∧ (unit []).modId < (unit []).domSize ∧ setHas c.correctable 1 = true ∧ setHas c.latent 1 = false ∧ setHas s.correctable 1 = false
      ∧ 1 < s.domSize ∧ s.modId < s.domSize ∧ s.pkg.domain.getLsbD (16 + 3) = true ∧ (s.strand s.curRef).st ≠ .empty ∧ (∀ l ∈ [1], setHas s.latent l = false)
      ∧ setHas l.latent 1 = true ∧ 1 * 128 < l.ceil ∧ (94 : Byte).toNat < 95 ∧ (84 : Byte).toNat < 85 ∧ 95 ≤ (95 : Byte).toNat ∧ (104 : Byte).toNat < 105
      ∧ (s.pkg.thermStat.extractLsb' 0 8).toNat < 95 ∧ 105 ≤ (105 : Byte).toNat ∧ s.pkg.fatal = none ∧ f.pkg.fatal ≠ none ∧ MemoryForm s
      ∧ (onHost s (fun h => { h with dumpDev := 0x1000 })).host.dumpBase = 0 ∧ (onHost s (fun h => { h with dumpDev := 0x1000 })).host.dumpDev ≠ 0 := by
  unfold MemoryForm; decide +kernel

/-- A host port whose window is open, with CTL.OPEN set. -/
def opened (s : State) : State := onHost s (fun h => { h with opened := true, ctl := 1, silBase := 0x1000 })

/-- An entry of 16 bytes for ENQ: queue and HSEQ. -/
def enqOf (q hseq : Nat) : BitVec 128 := BitVec.ofNat 128 (q * 2 ^ 120 + hseq * 2 ^ 32)

/-- SubmissionSteps: room in the ring; an entry whose HSEQ is next, one late, one ahead, one malformed; the window closed; a queue full. -/
theorem witness_SubmissionSteps :
    let s := opened .reset
    s.host.opened = true ∧ quiet s ∧ MemoryForm s ∧ s.host.nextDseq.toNat ≤ s.host.hostAck.toNat + 2 ^ s.host.silSize.toNat ∧ served s ∧ s.host.ctl.getLsbD 0 = true
      ∧ ((enqOf 1 1).extractLsb' 122 6 = 0 ∧ (enqOf 1 1).extractLsb' 64 6 = 0) ∧ (enqOf 1 1).extractLsb' 32 32 = s.host.hseqAccepted + 1
      ∧ ¬ ((s.host.hseqAccepted - (enqOf 1 1).extractLsb' 32 32).toNat < 2 ^ 31) ∧ (s.host.hseqAccepted - (enqOf 1 0).extractLsb' 32 32).toNat < 2 ^ 31
      ∧ ¬ ((s.host.hseqAccepted - (enqOf 1 2).extractLsb' 32 32).toNat < 2 ^ 31) ∧ (enqOf 1 2).extractLsb' 32 32 ≠ s.host.hseqAccepted + 1
      ∧ (enqOf 4 1).extractLsb' 122 6 ≠ 0 ∧ ((s.sched.queues[1]?).getD []).length < 65536 ∧ s.popQueue = [] ∧ State.reset.host.ctl.getLsbD 0 = false := by
  unfold quiet MemoryForm served; decide +kernel

/-- SubmissionSteps: a queue with all its entries. -/
theorem witness_queueFull (e : PqEntry) :
    65536 ≤ (((Vector.replicate 32 (List.replicate 65536 e))[1]?).getD []).length := by
  rw [Vector.getElem?_replicate, if_pos (by decide), Option.getD_some, List.length_replicate]

/-- RegisterSteps: a part that serves its host, with SIL_BASE set and not; acknowledgments in and out of range; an event not acknowledged. -/
theorem witness_RegisterSteps :
    let s := opened .reset
    let e := onHost s (fun h => { h with dseqPosted := 3, hostAck := 1 })
    served s ∧ quiet s ∧ (0x500000001 : Word).getLsbD 1 = false ∧ (0x500000001 : Word).getLsbD 0 = true ∧ s.host.silBase ≠ 0 ∧ State.reset.host.silBase = 0
      ∧ (e.host.hostAck.toNat ≤ (3 : Word).toNat ∧ (3 : Word).toNat ≤ e.host.dseqPosted.toNat) ∧ (0 : Word).toNat < e.host.hostAck.toNat ∧ e.host.dseqPosted.toNat < (4 : Word).toNat
      ∧ s.host.dseqPosted.toNat ≤ s.host.hostAck.toNat ∧ e.host.hostAck.toNat < e.host.dseqPosted.toNat ∧ e.host.msixAt = none
      ∧ (onHost e (fun h => { h with msixAt := some 0 })).host.msixAt = some 0 ∧ s.host.ctl.getLsbD 0 = true ∧ State.reset.host.ctl.getLsbD 0 = false ∧ s.host.mode < 4 := by
  unfold quiet served; decide +kernel

/-- The accord cell of `accObj` holds c, and reconcile slot 7 names address a. -/
def slotCell (a : Nat) (c : AccCell) : State :=
  setSlot { State.reset with objs := [(5, accObj)], cells := [(0x10000, c)] } 7 { slotAt State.reset 7 with cell := BitVec.ofNat 64 a }

/-- ReconcileSteps: a command out of rule, a misaligned cell, one out of range, one of no accord object, and sound ones. -/
theorem witness_ReconcileSteps :
    let c : AccCell := { sibs := twoSibs, ctr := 2, frozen := false }
    let at_ := fun (a : Nat) => (slotAt (slotCell a c) 7).cell.toNat
    12 ≤ ((12 : Word).extractLsb' 0 4).toNat ∧ ((0x42 : Word).extractLsb' 0 4).toNat < 12 ∧ at_ 0x10001 % 8 ≠ 0 ∧ (slotCell 0 c).ceil ≤ at_ (2 ^ 48) ∧ at_ (2 ^ 48) % 8 = 0
      ∧ at_ 0x20000 < (slotCell 0 c).ceil ∧ (slotCell 0 c).accordCell 0x20000 = none
      ∧ at_ 0x10000 = 0x10000 ∧ 0x10000 < (slotCell 0x10000 c).ceil ∧ ((slotCell 0x10000 c).accordCell 0x10000).isSome = true ∧ (slotCell 0x10000 c).cellAt 0x10000 = c
      ∧ c.sibs[((0x42 : Word).extractLsb' 6 2).toNat]? = some { val := 4, dot := 0x102 } ∧ c.sibs[((0xC2 : Word).extractLsb' 6 2).toNat]? = none
      ∧ c.ctr + 1 ≤ 2 ^ 40 - 1 := by decide +kernel

/-- MailboxSteps: the part in recovery mode and not, resident work and none, channels left and none, an image being written, with its size, a report, a part stopped with a dump. -/
theorem witness_MailboxSteps :
    let s := State.reset
    let m := fun (a : Nat) => (onHost s (fun h => { h with mbArg0 := BitVec.ofNat 64 a })).host.mbArg0.toNat
    let left := fun (s : State) => s.pkg.recActive &&& ~~~(s.pkg.chFenced ||| s.pkg.recPending ||| BitVec.ofNat 512 (natOfBytes (mbBytes s 64)))
    served s ∧ ¬ served (withBoot s 0x82) ∧ (unit []).cur.st ≠ .empty ∧ workResident s = false ∧ left s ≠ 0 ∧ left (onPkg s (fun p => { p with recActive := 0 })) = 0
      ∧ 0x1000000 < m 0x1000001 ∧ m 0x1000000 ≤ 0x1000000 ∧ s.pkg.writing = none ∧ (onPkg s (fun p => { p with writing := some true })).pkg.writing = some true
      ∧ (let w := onPkg s (fun p => { p with writing := some true, sizeB := 0x2000 })
        m 1 % 4096 ≠ 0 ∧ w.pkg.sizeB ≤ m 0x2000 ∧ m 0x1000 % 4096 = 0 ∧ m 0x1000 < w.pkg.sizeB)
      ∧ (∀ x : List (Nat × Byte), Config.imageVerifies x = true ∨ Config.imageVerifies x = false)
      ∧ s.host.report.length ≤ m 0 ∧ m 0 < (onHost s (fun h => { h with report := [7] })).host.report.length ∧ 1 < m 2 ∧ m 1 ≤ 1 ∧ s.pkg.fatal = none
      ∧ (onPkg s (fun p => { p with fatal := some 2 })).pkg.fatal = some 2 ∧ s.host.dumpBase = 0 ∧ (onHost s (fun h => { h with dumpDev := 0x1000 })).host.dumpDev ≠ 0
      ∧ m 0x62000 < 0x62800 ∧ served (onPkg s (fun p => { p with fatal := some 2 })) ∧ s.cur.st = .empty := by
  simp only
  refine ⟨?_, ?_, ?_, ?_, ?_, ?_, ?_, ?_, ?_, ?_, ?_, fun x => ?_, ?_, ?_, ?_, ?_, ?_, ?_, ?_, ?_, ?_, ?_, ?_⟩
  case refine_12 => cases Config.imageVerifies x <;> simp
  all_goals first | decide +kernel | (unfold served; decide +kernel)

/-- The part in CXL mode (1) or PCIe mode (2). -/
def inMode (n : Nat) : State := onHost .reset (fun h => { h with mode := n })

/-- HostMemorySteps: accesses that end at the ceiling and one byte past it, in both modes; a filter with room, and a full set of it. -/
theorem witness_HostAccessSteps :
    let s := inMode 1
    s.host.mode = 1 ∧ (inMode 2).host.mode = 2 ∧ served (inMode 2) ∧ (s.ceil - 4) + 4 ≤ s.ceil ∧ s.ceil < (s.ceil - 4) + 5 ∧ (s.ceil - 4) % 128 + 4 ≤ 128
      ∧ (∀ n ∈ [1, 2], plainLine (inMode n) ((s.ceil - 4) / 128)) ∧ s.objs = [] ∧ s.latent = [] ∧ s.ceil ≤ 2 ^ 39 ∧ (∀ l, tidyAt s l) ∧ snoopVictim s 5 = none
      ∧ MemoryForm s ∧ ([some 3, none] : List (Option Byte))[0]? = some (some 3) ∧ ([some 3, none] : List (Option Byte))[1]? = some none := by
  refine ⟨?_, ?_, ?_, ?_, ?_, ?_, fun n hn => ⟨?_, ?_, tidy_of_nil _ ?_⟩, ?_, ?_, ?_, tidy_of_nil _ rfl, ?_, ?_, ?_, ?_⟩
  case refine_7 => revert n; decide +kernel
  all_goals first | rfl | decide +kernel | (unfold served; decide +kernel)

/-- HostMemorySteps: a slice of the filter that is full. -/
theorem witness_snoopFull (n : Nat) (hn : 16384 ≤ n) : snoopVictim { inMode 1 with snoop := List.replicate n 5 } 133 = some 5 := by
  have h : (List.replicate n 5).filter (fun l => l % 128 == 133 % 128) = List.replicate n 5 := List.filter_eq_self.mpr (by simp +contextual [List.mem_replicate])
  have k : (List.replicate n 5).contains 133 = false := by simp [List.mem_replicate]
  have f : (List.replicate n 5).filter (fun l => !(inMode 1).heldReads.any (fun h => h.line == l)) = List.replicate n 5 :=
    List.filter_eq_self.mpr (fun _ _ => rfl)
  have g : (List.replicate n 5).getLast? = some 5 := by rw [List.getLast?_replicate, if_neg (by omega)]
  simp only [snoopVictim, h, k, List.length_replicate, f, g]
  rw [if_neg]
  simp
  omega

/-- HostMemorySteps: a line in the filter, one to be taken back and one that is neither; a host line modified and not held; a completion with data and an empty one. -/
theorem witness_HostLineSteps :
    let s := { inMode 1 with snoop := [0x100, 0x101], snoopInv := [0x101], hostLines := [{ addr := 5, st := .modified }] }
    setHas s.snoopInv 0x101 = true ∧ setHas s.snoopInv 0x100 = false ∧ setHas s.snoopInv 0x120 = false ∧ (∀ h ∈ s.heldReads, h.line ≠ 0x100) ∧ (∀ c ∈ s.cmds, 0x120 ∉ c.take)
      ∧ s.host.mode = 1 ∧ 0x8000 + 64 ≤ s.ceil ∧ 0x8000 / 128 ∈ s.snoop ∧ 0x9000 / 128 ∉ s.snoop ∧ plainLine s (0x8000 / 128) ∧ MemoryForm s
      ∧ hostState s.hostLines (5 * 64 / 64) = some .modified ∧ hostState s.hostLines (7 * 64 / 64) ≠ some .modified ∧ (List.replicate 64 (0 : Byte)).length = 64
      ∧ (inMode 2).host.mode = 2 ∧ ((onHost (unit []) (fun h => { h with mode := 2 })).strand (unit []).curRef).st ≠ .empty := by
  refine ⟨?_, ?_, ?_, ?_, ?_, ?_, ?_, ?_, ?_, ⟨?_, ?_, tidy_of_nil _ rfl⟩, ?_, ?_, ?_, ?_, ?_, ?_⟩
  all_goals first | decide +kernel | (unfold MemoryForm; decide +kernel)

/-- HomeSteps: plain lines up to the ceiling, a strand, an object, a cluster, an access to a page without coherence. -/
theorem witness_LineSteps :
    let s := unit []
    143 < 144 ∧ s.ceil - 1 < s.ceil ∧ plainLine s ((s.ceil - 1) / 128) ∧ setHas s.poison ((s.ceil - 1) / 128) = false ∧ inResultRow s ((s.ceil - 1) / 128 * 128) = false
      ∧ (s.ceil - 4) % 128 + 4 ≤ 128 ∧ (s.ceil - 4) + 4 ≤ s.ceil ∧ MemoryForm s ∧ (s.strand s.curRef).st ≠ .empty ∧ mapGet [(5, leaseObj)] 5 = some leaseObj ∧ leaseObj.lines ≠ [] ∧ 15 < 16
      ∧ (s.ceil - 1) / 128 ∉ s.l2 ∧ (s.ceil - 1) / 128 ∈ { s with l2 := [(s.ceil - 1) / 128] }.l2 := by
  refine ⟨?_, ?_, ⟨?_, ?_, tidy_of_nil _ rfl⟩, ?_, ?_, ?_, ?_, ?_, ?_, ?_, ?_, ?_, ?_, ?_⟩
  all_goals first | decide +kernel | (unfold MemoryForm; decide +kernel)

/-- HomeSteps: an AMO of a unit and one of the host at an aligned place, an accord store and a BLEND that succeed, a scratchpad access at the end, a stash line to fill, a wait past its deadline and one before it. -/
theorem witness_AtomicSteps :
    let s := { unit [] with objs := [(5, accObj)], cells := [(0x10000, { sibs := twoSibs, ctr := 2, frozen := false })] }
    let w : PortWait := { loc := 0, who := s.curRef, store := none, toEmpty := false, deadline := some 0, va := own 0, scope := 0 }
    let x := onStrand s (fun t => { t with stash := [{ off := 0x100, obj := 5, lines := [0x100], filled := [], dirty := [], bad := [] }] })
    plainLine s (0x20000 / 128) ∧ plainLine (inMode 1) 0 ∧ (∀ l, tidyAt x l) ∧ (s.strand s.curRef).st ≠ .empty ∧ 0x20000 % 8 = 0 ∧ (inMode 1).host.mode ≠ 0 ∧ served (inMode 1)
      ∧ 0x20000 / 1024 ∉ s.rowClear ∧ 0x20000 / 128 ∉ s.snoop ∧ 0x10000 / 128 ∉ s.snoop ∧ x.objCache = [] ∧ setHas s.poison 0 = false ∧ setHas s.poison (0x20000 / 128) = false ∧ MemoryForm s
      ∧ s.accordCell 0x10000 = some accObj
      ∧ (match accordStore (s.cellAt 0x10000) accObj.defop (poolFree s 0x10000) 7 (obsDots (s.strand s.curRef).obs 0x10000) (agentBits s (agentNumber s.curRef)) with
          | (_, .ok _ _) => true
          | _ => false) = true
      ∧ (match accordBlend (s.cellAt 0x10000) (0 : BitVec 4).toNat 7 (agentBits s (agentNumber s.curRef)) false (obsDots (s.strand s.curRef).obs 0x10000) with
          | (_, .ok (_, some _)) => true
          | _ => false) = true
      ∧ 0x1FFFF8 + 8 ≤ 0x200000 ∧ (∀ slot, slot < 2 → (s.strand { core := 0, slot }).stash = []) ∧ s.syncs = []
      ∧ (stashOwner x 0 0x100).map (fun p => (p.1, p.2.2)) = some (x.curRef, 0) ∧ x.latent = []
      ∧ (∃ d, w.deadline = some d ∧ d ≤ s.now) ∧ ¬ (∃ d, ({ w with deadline := some 9 } : PortWait).deadline = some d ∧ d ≤ s.now)
      ∧ ((onStrand s (fun t => { t with st := .waiting })).strand s.curRef).st = .waiting := by
  unfold MemoryForm served
  refine ⟨⟨?_, ?_, tidy_of_nil _ rfl⟩, ⟨?_, ?_, tidy_of_nil _ rfl⟩, tidy_of_nil _ rfl, ?_, ?_, ?_, ?_, ?_, ?_, ?_, ?_, ?_, ?_, ?_, ?_, ?_, ?_, ?_, ?_, ?_, ?_, ?_, ⟨0, rfl, by decide⟩, ?_, ?_⟩
  case refine_24 => rintro ⟨d, hd, hle⟩; cases hd; revert hle; decide +kernel
  all_goals decide +kernel

/-! #### Engines, scheduler and bank commands as steps -/

/-- A copy moved on to a state. -/
def copyOf (f : Copy → Copy) : State := withCopy (unit []) (f (aCopy .running 0))

/-- EngineSteps: no copy, a parked one, one with nothing begun, one of no bytes, one with a sector begun, with more to come and without. -/
theorem witness_CopySteps :
    (unit []).copyAt 0 3 = none ∧ ((unit []).strand (aCopy .running 0).owner).st ≠ .empty ∧ ((copyOf (fun c => { c with st := .parked })).copyAt 0 3).map (·.st) = some .parked
      ∧ ((copyOf id).copyAt 0 3).map (fun c => (c.begun, c.flac, c.sync, decide (∀ l ∈ c.levels, l.count ≠ 0))) = some (none, none, 0, true)
      ∧ ((copyOf (fun c => { c with levels := [{ count := 0, sstride := 0, dstride := 0 }] })).copyAt 0 3).map (fun c => decide (∃ l ∈ c.levels, l.count = 0)) = some true
      ∧ ((copyOf (fun c => { c with begun := some 32 })).copyAt 0 3).map (fun c => decide (c.off + 32 < c.bytes)) = some true
      ∧ ((copyOf (fun c => { c with begun := some 64 })).copyAt 0 3).map (fun c => decide (c.bytes ≤ c.off + 64)) = some true := by decide +kernel

/-- EngineSteps: a sector whose source and destination translate and move, one whose source is not mapped and one that takes ACCESS. -/
theorem witness_CopySectors :
    let s := copyOf id
    let a := s.agentOf (aCopy .running 0).owner
    sectorOf (aCopy .running 0) 0 = (own 0x1000, own 0x2000, 64)
      ∧ found (resolve s a .load none (own 0x1000) 64 1) (fun s1 gs => !windowBars s1 gs && (readSpan s1 gs.place 64 gs.use).2.isSome
          && found (resolve s1 a .store none (own 0x2000) 64 1) (fun s2 gd => !windowBars s2 gd && !partCell s2 gd.place 64 && !farBarred s2 3 gs.place 64 && !farBarred s2 3 gd.place 64
            && !spanDown s2 gs.place 64 && !spanRows s2 gs.place 64 && (hostWait s2 gd.place 64).isNone && !spanDown s2 gd.place 64 && !partUe s2 gd.place 64
            && match writeSpan s2 gd.place (List.replicate 64 0) (s2.writerOf s.curRef) gd.use with | (_, none) => true | _ => false)) = true
      ∧ (match syncPlace s (aCopy .running 0) with | .ok none => true | _ => false) = true
      ∧ failed (resolve s a .load none 0x1000 64 1) 7 = true
      ∧ failed (resolve (withBytes (withBytes s 0x308 [1]) 0x302 [1]) a .load none 0x1000 64 1) 5 = true
      ∧ failed (resolve { s with tlb := [{ page 0 with perms := 0 }] } a .load none 0x1000 64 1) 7 = true := by decide +kernel

/-- EngineSteps: a descriptor to arrive with, a participant of another module, an epoch open, one closed and due; streams that are set and not. -/
theorem witness_ArrivalSteps :
    let s := withFields (mapped (unit [])) [(0x64, 2, 1), (0x50, 8, 0x10000)]
    let a : Arrival := { rank := 0, unit := s.curRef, launch := 0, unitId := 0, ctx := 3, agent := 0, src := 0, dst := 0, runs := [], doneVa := 0, data := [] }
    let e : Epoch := { rend := 0x10000, kind := 2, npart := 1, bytes := 0, op := 0, et := 0, status := 0, number := 0, due := some 0, arrivals := [a] }
    let x : Stream := { Stream.reset with active := true, base := own 0x100, len := 64 }
    (recordAt s (own 0x40) 64).map (fun p => collFieldsOk p.2 2 && (rendPlace p.1 p.1.me (BitVec.ofNat 64 (fieldAt p.2 0x10 8))).isSome) = some true
      ∧ e.npart ≤ e.arrivals.length ∧ (∃ d, e.due = some d ∧ d ≤ s.now) ∧ ¬ 2 ≤ e.arrivals.length ∧ s.epochs = []
      ∧ (s.cur.streams[3]?).map (·.active) = some false ∧ ((onStrand s (fun t => { t with streams := t.streams.setIfInBounds 3 x })).cur.streams[3]?).map (·.active) = some true
      ∧ (match streamFetch s (s.agentOf s.curRef) x 3 (x.base + BitVec.ofNat 64 (x.pos + x.buf.length)) 64 with | (_, .ok bs) => bs.length == 64 | _ => false) = true
      ∧ min (min 64 (16384 - bufferedOn s 0)) (x.len - (x.pos + x.buf.length)) = 64 ∧ placeOf s 0x10000 640 = some (.device 0 0x10000) ∧ s.lateSyncs = [] :=
  ⟨by decide +kernel, by decide, ⟨0, rfl, by decide⟩, by decide, by decide +kernel, by decide +kernel, by decide +kernel, by decide +kernel, by decide +kernel, by decide +kernel, by decide +kernel⟩

/-- A contract with or without a running release. -/
def aContract (run : Option Release) : Contract :=
  { id := 2, clusters := 1, stackMask := 0, shape := 1, gangs := 1, period := 10000, deadline := 9000, budget := 40, bankbud := 0, first := 0, nextRel := 1, releases := 1,
    overruns := 0, misses := 0, running := run }

/-- Memory that the scheduler reads in contexts 0 and 3, with a job record of a contract at 0x10000 and its graph of one node at 0x10100, and one out of rule at 0x20000;
    host queue 1 holds an address. -/
def withEntry (va : Word) : State :=
  let p := page (schedAgent 0).who.cluster
  let s := { State.reset with tlb := [{ p with ctx := 0 }, p] }
  let s := withBytes (withBytes s 0x10008 (bytesOfNat 14 (0x10100 + 2 ^ 64 + 2 * 2 ^ 96))) 0x10028 [3]
  let s := withBytes s 0x10100 [1]
  { s with sched := { s.sched with queues := s.sched.queues.setIfInBounds 1 [{ key := 0, payload := va }], contracts := [aContract none] } }

/-- What becomes of an entry popped from queue 1: a job's contract, or the reason it is refused for. -/
def popped (s : State) : Option (Except Nat (Option Nat)) :=
  (popEntry s 1).map (fun p => match readJob (p.1.post 0 .jobPop) (s.host.ctl.extractLsb' 32 16).toNat p.2.payload with
    | (_, .ok j) => .ok j.contract
    | (_, .error (r, _)) => .error r)

/-- JobSteps: queues empty, an entry with a job of a contract, and one refused. -/
theorem witness_JobPops :
    (∀ q, q < 4 → (State.reset.sched.queues[q]?).getD [] = []) ∧ ((withEntry 0x10000).sched.queues[1]?).getD [] ≠ [] ∧ ((withEntry 0x10000).sched.queues[0]?).getD [] = []
      ∧ (match popped (withEntry 0x10000) with | some (.ok (some 2)) => true | _ => false) = true
      ∧ (match popped (withEntry 0x20000) with | some (.error 1) => true | _ => false) = true
      ∧ (withEntry 0).sched.jobs.length + (withEntry 0).sched.heldJobs.length < 1024 := by decide +kernel

/-- JobSteps: a job live, ended and cancelled; contracts whose release is to come, due with one running and with none, a budget used up and one passed, a release stopped; CTADMIT records good and bad. -/
theorem witness_JobEnds :
    let j := fun (live cancel : Bool) (p : Nat) => ((withJob (fun j => { j with live, jobCancel := cancel, phase := p, notify := cancel }) id).jobOf 1).map
      (fun j => (j.live, j.jobCancel, decide (j.phase < j.phases), decide (j.doneVa = 0), j.notify))
    let at_ := fun (t : Nat) => ({ State.reset with gtime := BitVec.ofNat 64 t }).now
    let r : Release := { n := 0, stopped := false, deadline := 9000, used := 0, since := some 0, dispatched := true, bankUsed := 0 }
    let s := (withFields (unit []) [(0x00, 8, 2 + 2 ^ 16 + 2 ^ 48), (0x08, 8, 1 + 10000 * 2 ^ 32), (0x10, 8, 9000 + 40 * 2 ^ 32)])
    j true false 0 = some (true, false, true, true, false) ∧ j false false 0 = some (false, false, true, true, false) ∧ j false true 0 = some (false, true, true, true, true)
      ∧ j false false 1 = some (false, false, false, true, false) ∧ (withJob id id).contractOf 2 = none ∧ (withEntry 0).contractOf 2 = some (aContract none)
      ∧ at_ 9999 < 0 + 1 * 10000 ∧ 0 + 1 * 10000 ≤ at_ 10000 ∧ (aContract (some r)).running = some r ∧ (r.time (at_ 40) ≤ (aContract none).budget ∧ r.since ≠ none) ∧ (aContract none).budget < r.time (at_ 41) ∧ { r with stopped := true }.stopped = true
      ∧ (withJob (fun j => { j with contract := some 2 }) id).sched.jobs.find? (fun j => j.contract == some 2 && j.live) ≠ none
      ∧ (contractOfRecord (ownRecord s 0 64)).map (fun c => (c.id, admitStatus s c)) = some (2, 0)
      ∧ (contractOfRecord (ownRecord s 0 64)).map (fun c => admitStatus (withEntry 0) c) = some 2 ∧ contractOfRecord (ownRecord (unit []) 0 64) = none
      ∧ (recordAt s (own 0) 64).map (·.2) = some (ownRecord s 0 64) ∧ (recordAt s (2 ^ 56) 64).isNone = true := by
  refine ⟨?_, ?_, ?_, ?_, ?_, ?_, ?_, ?_, ?_, ?_, ?_, ?_, ?_, ?_, ?_, ?_, ?_, ?_⟩ <;> decide +kernel

/-- A launch of one gang that waits for a place; the pool has a number of save records. -/
def withGang (due pool : Nat) : State :=
  let s := withJob id id
  { s with sched := { s.sched with gangs := [{ handle := 7, gang := 0, fails := 0, due, back := [], gone := [] }], savecnt := BitVec.ofNat 64 pool } }

/-- PlacementSteps: gangs too early, one that either die takes, one that none does; news of another module that has come and news still to come. -/
theorem witness_GangPlaces :
    let tries := fun (s : State) (d : Nat) => (s.sched.gangs.head?.bind (fun w => (s.launchOf 7).bind (fun l => tryDie { s with sched := { s.sched with nextDie := 1 - d } } l w d))).isSome
    let told := fun (due : Nat) => { withGang 1 0 with news := [{ due, mod := 1, peer := { ceil := 0, reservations := [], objs := [] }, down := [2] }] }
    (∀ x ∈ (told 0).news, x.due ≤ (told 0).now ∧ x.mod < 16 ∧ x.mod ≠ (told 0).modId) ∧ (∀ x ∈ (told 1).news, (told 1).now < x.due) ∧ (withGang 0 256).news = [] ∧
    (∀ w ∈ (withGang 1 0).sched.gangs, (withGang 1 0).now < w.due) ∧ (∀ w ∈ (withGang 0 0).sched.gangs, w.due ≤ (withGang 0 0).now)
      ∧ ((withGang 0 256).launchOf 7).map (·.contract) = some none ∧ tries (withGang 0 256) 0 = true ∧ tries (withGang 0 256) 1 = true ∧ tries (withGang 0 0) 0 = false
      ∧ tries (withGang 0 0) 1 = false := by decide +kernel

/-- A unit saved under the record at 0x02000000. -/
def withSaved : State :=
  let v : Saved := { record := 0x02000000, unit := { strandOf 2 [] with st := .ready }, conductor := false, core := 0, copies := [], scratch := [], full := [], syncs := [], late := [], due := 0 }
  { State.reset with sched := { State.reset.sched with saved := [v] } }

/-- PlacementSteps: a strand that runs and one that has halted, with a record; a saved unit with room on a core; tiles dirty and clean with their record. -/
theorem witness_GangMoves :
    let s := unit []
    let d := onStrand s (fun t => { t with st := .ready, halted := true })
    (s.strand s.curRef).st = .running ∧ (s.strand s.curRef).record ≠ none ∧ d.curRef.ok = true ∧ (d.strand d.curRef).st = .ready ∧ (d.strand d.curRef).halted = true ∧ (d.strand d.curRef).wait = .none ∧ (s.strand s.curRef).halted = false
      ∧ (s.strand s.curRef).wait = .none ∧ s.portQueue = [] ∧ (s.strand s.curRef).cv.limit = none ∧ ((onStrand s (fun t => { t with cv := { t.cv with limit := some 2 } })).strand s.curRef).cv.limit ≠ none ∧ (d.strand d.curRef).record = some 0
      ∧ (withSaved.sched.saved.find? (fun x => x.record == 0x02000000)).map (fun v => (recordReady withSaved v, v.conductor, roomAt (reservations withSaved 5) v.unit.scratchBase v.unit.scratchSize))
        = some (true, false, true)
      ∧ (withSaved.strand { core := 5, slot := 0 }).st = .empty ∧ ((owned s).core 0).tiles[11]?.map (fun x => (x.dirty, x.owner)) = some (false, some 0)
      ∧ ({ s with sched := { s.sched with records := [{ addr := 0x02000000, tileValid := 0, bankValid := 0 }] } }).saveRec 0x02000000
        = some { addr := 0x02000000, tileValid := 0, bankValid := 0 } ∧ 0x02000000 + 0xD0000 ≤ 2 ^ 39 ∧ s.objs = [] ∧ s.latent = [] ∧ s.stale = [] ∧ MemoryForm s := by unfold MemoryForm; decide +kernel

/-- PlacementSteps: watchdogs off, running and at their limit. -/
theorem witness_WatchdogSteps :
    let s := onStrand (unit []) (fun t => { t with wdog := 100 })
    (unit []).cur.wdog = 0 ∧ s.curRef.ok = true ∧ (s.strand s.curRef).st ≠ .empty ∧ (s.strand s.curRef).wdog ≠ 0 ∧ (s.strand s.curRef).wait = .none
      ∧ s.now < (s.strand s.curRef).wdCount + (s.strand s.curRef).wdog.toNat
      ∧ ({ s with gtime := 99 }).now < (s.strand s.curRef).wdCount + (s.strand s.curRef).wdog.toNat
      ∧ (s.strand s.curRef).wdCount + (s.strand s.curRef).wdog.toNat ≤ ({ s with gtime := 100 }).now ∧ s.cur.st = .running := by decide +kernel

/-- BankSteps: commands that wait for a lease, for a line of the host's and for an earlier command, one that starts, one with a bank that runs, one done with and without contributions; halves built and not. -/
theorem witness_BankSteps :
    let with_ := fun (l : List BankCmd) (b : Blu) => { unit [] with cmds := l, blus := [(0, b)] }
    let a := aCommand [] .accepted
    let z := aCommand [] .started
    let k : Contribution := { level := 0, n := 4, op := 0, bank := 0, j := 0, words := [5] }
    let half : Half := { Blu.reset.halfA with st := .building }
    (with_ [a] .reset).cmdOf 1 = some a ∧ a.places = [] ∧ closedTo (with_ [a] .reset) a = false ∧ (with_ [a] .reset).now < ({ a with due := 2048 }).due
      ∧ taking { with_ [{ a with take := [7] }] .reset with snoop := [7] } { a with take := [7] } = true ∧ taking (with_ [a] .reset) a = false
      ∧ banksBusy (with_ [{ z with grant := 0 }, a] .reset) a = true ∧ banksBusy (with_ [a] .reset) a = false ∧ a.due ≤ (with_ [a] .reset).now
      ∧ (∀ c ∈ ({ z with contribs := [k] }).contribs, c.n ≠ 3) ∧ (∃ b ∈ z.banks, ((with_ [z] { Blu.reset with st := .run }).bluAt b).st = .run)
      ∧ (∀ b ∈ z.banks, ((with_ [z] .reset).bluAt b).st ≠ .run) ∧ (∀ c ∈ z.contribs, c.words = [])
      ∧ (∃ n : Nat, (onStrand (with_ [z] .reset) (fun t => { t with bankSlots := t.bankSlots.setIfInBounds 0 { grant := some 1 } })).cur.bankSlots[n]? = some { grant := some 1 })
      ∧ ((with_ [] { Blu.reset with halfB := half }).bluAt 0).buildHalf.st = .building ∧ (State.reset.bluAt 8191).buildHalf.st ≠ .building := by
  refine ⟨?_, ?_, ?_, ?_, ?_, ?_, ?_, ?_, ?_, ?_, ?_, ?_, ?_, ⟨0, ?_⟩, ?_, ?_⟩ <;> decide +kernel

/-! #### The whole machine -/

/-- A part whose conductor or core 0 has a row's words at its pc, in page tables of their own. -/
noncomputable def fetching (w : Nat) : State := State.reset.withFetchWord 32 w

/-- The words and the state a fetch answers. -/
def fetchIs (x : State × Except (Nat × Word) (List (List Word32))) (s : State) (ws : List Word32) : Bool :=
  match x with
  | (s1, .ok [l]) => l == ws && s1.cur.pc == s.cur.pc && s1.cur.st == s.cur.st && decide (s1.curRef = s.curRef)
  | _ => false

/-- StepRunsInstruction: ADD s5, s5, s6 at the pc of a strand that runs. -/
theorem witness_StepRunsInstruction :
    let s := fetching 0x314A0000
    stepsNext s ∧ fetchIs (fetchConvoy s 4 s.cur.pc) s [0x314A0000] = true ∧ Check.agentRuns s.curRef.isConductor (majorOf 0x314A0000) = true
      ∧ baseTyped (viewOf (.add { hd := { stall := 0, c := false }, d := 5, a := 5, b := 6 })) = false := by unfold stepsNext; decide +kernel

/-- ConvoyEnds: a fetch that fails, a reserved major, a major of the other agent, VTYPE out of rule, an instruction alone that breaks its rule, a reader too close to its producer. -/
theorem witness_ConvoyTraps :
    let f := { fetching 0 with cur := { (fetching 0).cur with pc := 2 } }
    let c := fetching 0xD00
    let k := { c with curRef := { core := 0, slot := 0 } }
    let p := onStrand (unit []) (fun t => { t with schk := 1, prods := [{ reg := 4, left := 3 }] })
    stepsNext f ∧ (match fetchConvoy f 4 f.cur.pc with | (_, .error _) => true | _ => false) = true
      ∧ stepsNext (fetching 0x2C0) ∧ fetchIs (fetchConvoy (fetching 0x2C0) 4 (fetching 0x2C0).cur.pc) (fetching 0x2C0) [0x2C0] = true
      ∧ Check.agentRuns k.curRef.isConductor (majorOf 0xD00) = false ∧ Check.assigned (majorOf 0xD00) = true ∧ fetchIs (fetchConvoy k 4 k.cur.pc) k [0xD00] = true
      ∧ baseTyped (viewOf (.vand (r 2 4 6))) = true ∧ baseBad (unitOf 6 []).cur (viewOf (.vand (r 2 4 6))) = true
      ∧ alone (unitOf 6 []).cur = true ∧ illegalReason false (unitOf 6 []).cur (viewOf (.vand (r 2 4 6))) = some 8
      ∧ legal (.add (r 2 4 6)) p = true ∧ p.cur.schk.getLsbD 0 = true ∧ stallUnder p.cur.prods (scalarReads p.cur (viewOf (.add (r 2 4 6)))) ≠ 0 ∧ p.curRef.isConductor = false
      ∧ (Instr.vfclass (r 2 4 0)).wellFormed = true ∧ (Instr.accrd (r 2 4 6)).wellFormed = true ∧ (Instr.accwr (r 2 4 6)).wellFormed = true := by
  unfold stepsNext
  refine ⟨?_, ?_, ?_, ?_, ?_, ?_, ?_, ?_, ?_, ?_, ?_, ?_, ?_, ?_, ?_, ?_, ?_, ?_⟩ <;> decide +kernel

/-- ConvoyEnds: INTRAP clear with a handler, INTRAP set, and no handler. -/
theorem witness_TrapEntry :
    (unit []).cur.status.getLsbD 2 = false ∧ (unit []).cur.tvec ≠ 0 ∧ (unit []).curRef.ok = true ∧ (onStrand (unit []) (fun t => { t with status := 4 })).cur.status.getLsbD 2 = true
      ∧ (onStrand (unit []) (fun t => { t with tvec := 0 })).cur.tvec = 0 := by decide +kernel

/-- ConvoyEnds and DecodeEncode: well-formed instructions with a view, chainable and not, and a BLU word without one. -/
theorem witness_CompletionAdvances :
    (Instr.vand (r 2 4 6)).wellFormed = true ∧ (Instr.add (r 2 4 6)).wellFormed = true ∧ (Instr.bnop { gd, res := 0 }).wellFormed = true ∧ (Instr.bnop { gd, res := 0 }).view.isNone = true
      ∧ Check.classOf (viewOf (.vand (r 2 4 6))).major (viewOf (.vand (r 2 4 6))).fn = .chainable ∧ Check.classOf (viewOf (.add (r 2 4 6))).major (viewOf (.add (r 2 4 6))).fn ≠ .chainable
      ∧ (unit []).cur.cv.pops = [] ∧ (unit []).cur.cv.srBase = 0 ∧ (unit []).cur.cv.writes = [] := by decide +kernel

/-- StepKeepsMemoryForm: a step from a state whose memory is in its form answers a next state; so do an event that is due and time that passes. -/
theorem witness_StepKeepsMemoryForm :
    let next := fun (s : State) => match step s with | .next _ => true | _ => false
    MemoryForm (fetching 0x314A0000) ∧ next (fetching 0x314A0000) = true ∧ MemoryForm State.reset ∧ next State.reset = true
      ∧ next { State.reset with agenda := [(0, .jobPop)] } = true := by
  unfold MemoryForm
  refine ⟨?_, ?_, ?_, ?_, ?_⟩ <;> decide +kernel

/-! #### Words and terms out of rule -/

/-- R270: words refused, with the REASON of each: a reserved major, an FN its major does not assign, a reserved bit, an extended length and a literal where none is listed, PWLSET with a bank above 15. -/
theorem test_decode_refused :
    [[0x2C0], [0x0001E000], [0x31057018], [0x31040002, 0, 0], [0x31040001, 0, 0], [0x01203C58]].map (fun ws => match decodeWords ws with
        | .error (.illegal n) => n
        | _ => 0) = [1, 2, 3, 4, 5, 8] := by decide +kernel

/-- R371, R377 to R381: BLU words refused: a depth of 7, a class that is not assigned, a reserved bit. -/
theorem test_decodeBlu_refused : ([0xE0000000, 0x3F, 0x00000040].all fun w => match decodeBlu w with | .ok _ => false | .error _ => true) = true := by decide +kernel

/-- Extended words of a vector instruction on INT32. -/
def x32 (w1 : Ext1) (w2 : Ext2) : XLF := ⟨⟨r 2 4 6, w1, w2⟩, none⟩

/-- R262, R268, R269, R270: terms ill formed by a field: a reserved bit, STALL with C, SCOPE 6, RM 7, AR with STRENGTH, KN without a mask, a scalar register above 7 for a scalar operand,
    codebook fields without C, OPB 3, OPB 2 without a literal, an ordering no form has, an unlisted CSR, an odd CAS.Q register, a shape that no type has, registers
    that are no group, BLEND's op 12, PWLSET above 15. -/
theorem test_illFormed_fields :
    ([Instr.clz (r 2 4 1), .add { r 2 4 6 with hd := { stall := 1, c := true } }, .ldDX ⟨r 2 4 6, .zero, { Ext2.zero with scope := 6 }⟩, .vaddX (x32 (e1 2 2 2 0) { Ext2.zero with rm := 7 }),
      .ldDX ⟨r 2 4 6, .zero, { Ext2.zero with ar := true, strength := 2 }⟩, .vaddX (x32 { e1 2 2 2 0 with kn := true } .zero),
      .vaddX ⟨⟨r 2 8 6, e1 2 2 2 0, { Ext2.zero with qa := true }⟩, none⟩, .vaddX (x32 { e1 2 2 2 0 with cba := 1 } .zero), .vaddX (x32 (e1 2 2 2 0) (e2 0x300)),
      .vaddX (x32 (e1 2 2 2 0) (e2 0x200)), .ldDX ⟨r 2 4 6, .zero, { Ext2.zero with scope := 1 }⟩, .csrrd ⟨r 2 0 0, .zero, e2 0xFFF⟩, .casQX ⟨r 1 4 6, .zero, e2 0⟩,
      .vaddX (x32 { e1 2 2 2 0 with ca := true, sha := 3 } .zero), .vaddX ⟨⟨r 3 4 6, e1 2 2 2 1, .zero⟩, none⟩, .blendX ⟨r 2 4 6, .zero, e2 12⟩, .pwlset (r 16 8 0)].all
        (fun i => !i.wellFormed)) = true := by decide +kernel

/-- R262, R306, R334, R338, R355 to R365: terms ill formed by their types, one for each major with element types; a VCVT whose narrower operand starts at no multiple
    of its LMUL. -/
theorem test_illFormed_types :
    ([Instr.vcvtX ⟨r 4 9 0, e1 6 4 6 1, e2 0⟩, .vldX ⟨r 2 4 6, e1 2 6 0 0, e2 0⟩, .vldsX ⟨r 2 4 6, e1 2 6 0 0, e2 0⟩, .vldxX ⟨r 2 4 6, e1 2 6 0 0, e2 0⟩, .vamoaddX ⟨r 2 4 6, e1 6 2 0 0, e2 0⟩,
      .vaddX (x32 (e1 6 2 2 0) .zero), .vmulX (x32 (e1 6 6 6 0) .zero), .vfaddX (x32 (e1 2 2 2 0) .zero), .vfclassX (x32 (e1 6 6 6 0) .zero),
      .vredsumX ⟨r 2 4 6, e1 6 6 6 0, e2 0⟩, .opaccX ⟨r 2 4 6, e1 2 4 4 0, e2 0⟩, .opaccX ⟨r 12 4 6, e1 6 4 4 0, e2 0⟩, .accrdX ⟨r 2 4 6, e1 2 2 2 0, e2 0⟩,
      .drainX ⟨r 12 4 6, e1 2 2 2 0, e2 0⟩, .histoX ⟨r 2 4 6, e1 6 2 2 0, e2 0⟩, .scalepick ⟨r 2 4 6, e1 2 2 2 0, e2 0⟩].all (fun i => !i.wellFormed)) = true := by decide +kernel

/-- R371, R375 to R381: BLU terms ill formed: a depth of 7, GK at depth 0, reserved bits, a selector or level that is reserved, the excluded fields. -/
theorem test_illFormed_blu :
    let g := gd
    let w : LaneF := { gd := g, me := false, ms := 0, wd := 0, wa := 0, wb := 0, ib := false, imm9 := 0 }
    let o : OutF := { gd := g, op := 0, level := 0, joff := 0, ooff := 0 }
    let m : MoveF := { gd := g, sel := 0, r25 := false, w := 0, r20 := 0, koff := 0, ooff := 0 }
    let t : TbF := { gd := g, k := 0, g := 0, r22 := false, wa := 0, t := 0, ew := false, aw := false, rlow := 0 }
    let c : CvtF := { gd := g, me := false, ms := 0, wd := 0, wa := 0, r16 := 0, cv := 0, hi := false, r6 := 0 }
    ([Instr.bnop { gd := { g := 7, gk := false }, res := 0 }, .tswap { gd := { g := 0, gk := true }, res := 0 }, .accclr { gd := g, res := 1 }, .cbldb { gd := g, rhi := 1, wa := 0, rlo := 0 },
      .skipz { gd := g, rhi := 0, wa := 0, rlo := 1 }, .luacc { o with joff := 1 }, .luaccS { o with op := 1 }, .accput { o with level := 1 }, .rtree { o with level := 3 },
      .bldw { m with sel := 3 }, .bldw { m with r25 := true }, .bldw { m with ooff := 1 }, .bstw { m with sel := 1 }, .bldw { m with sel := 2, koff := 1 }, .badd { w with ib := true, wb := 1 },
      .bsel w, .bcmp { w with me := true }, .bcmp { w with wd := 6 }, .bcvt { c with cv := 3 }, .bcvt { c with r16 := 1 }, .mand { gd := g, r27 := true, md := 0, ma := 0, mb := 0, r6 := 0 },
      .mnot { gd := g, r27 := false, md := 0, ma := 0, mb := 1, r6 := 0 }, .tbuildR { t with r22 := true }, .tbuildT { t with rlow := 1 }].all (fun i => !i.wellFormed)) = true := by decide +kernel

/-- R3, R191: events ill formed: each names something that is not there. -/
theorem test_illFormed_events :
    let u : SlotRef := { core := 128, slot := 1 }
    let ok : SlotRef := { core := 143, slot := 0 }
    ([Instr.lomuxPortDown 16 0, .lomuxPortDown 0 4, .linkLevelRetry 4, .routeError u 0, .domainWrite 1 [], .domainWaitTimeout [], .layoutChange [none], .reconcileCount 256 0,
      .reconcileBlend 256 0, .reconcileRead 256 0, .homeRead 144 0, .homeWrite 144 0 [], .writeAck u, .homeAmo ok .add 0 3 0 0, .homeAmo u .add 0 4 0 0, .accordStore u 0 0,
      .accordBlend ok 0 12 false 0, .scratchpadPortAccess 128 0 4 none, .scratchpadPortAccess 0 0x1FFFFD 4 none, .scratchpadPortAccess 0 0 9 none, .scratchpadPortAccess 0 3 8 none,
      .feDeadline u, .stashLineFill 128 0, .stashLineFill 0 0x200000, .pageWalk 16 0 true .load 0, .pageWalk 0 65536 true .load 0, .streamPrefetch ok 8 1, .streamPrefetch u 0 1,
      .strandHalt u none, .writeOutComplete u, .contextRestore 0 u, .tileWriteback 128 0, .tileWriteback 0 12, .contractRelease 256, .budgetOverrun 256, .watchdogExpiry u, .tableBuildEnd 8192,
      .copySectorTranslated 128 0, .copySectorComplete 0 4, .collectiveArrival (.near ok) 3 0, .collectiveArrival (.near u) 0 0, .homeAmo none .add 0 16 0 0, .zeroLengthReadCompletion u, .illegalEncoding 0 0 0, .illegalEncoding 10 0 0,
      .illegalEncoding 1 4 0].all (fun i => !i.wellFormed)) = true := by decide +kernel

/-! #### Results worked out by hand from the rules -/

/-- The value of a register after an instruction, from a unit of given registers. -/
noncomputable def after (i : Instr) (regs : List (Nat × Word)) (d : Nat) : Option Word :=
  match exec i (unit regs) with
  | .next t => some (t.cur.reg d)
  | _ => none

/-- A vector register of VL 4 with equal elements of w bits. -/
def splat (w x : Nat) : VReg := BitVec.ofNat 2048 (packElems w (List.replicate (2048 / w) x))

/-- A unit of a VTYPE with v4 and v6 given. -/
def vecUnit (vtype : Word) (a b : VReg) : State := onStrand (unitOf vtype []) (fun t => { t with v := (t.v.setIfInBounds 4 a).setIfInBounds 6 b })

/-- ScalarArithmetic; R281: sums wrap, products have their high halves, shifts take six bits of their amount. -/
theorem test_alu_results :
    after (.add (r 2 4 6)) [(4, -1), (6, 2)] 2 = some 1 ∧ after (.mulh (r 2 4 6)) [(4, -1), (6, 5)] 2 = some (-1)
      ∧ after (.mulhu (r 2 4 6)) [(4, -1), (6, -1)] 2 = some (-2) ∧ after (.sra (r 2 4 6)) [(4, -8), (6, 65)] 2 = some (-4)
      ∧ after (.slt (r 2 4 6)) [(4, -1), (6, 1)] 2 = some 1 ∧ after (.sltu (r 2 4 6)) [(4, -1), (6, 1)] 2 = some 0 := by decide +kernel

/-- ScalarArithmetic; R282: the corners of division. -/
theorem test_division_corners :
    after (.div (r 2 4 6)) [(4, 5)] 2 = some 0x7FFFFFFFFFFFFFFF ∧ after (.div (r 2 4 6)) [(4, -5)] 2 = some 0x8000000000000000 ∧ after (.div (r 2 4 6)) [] 2 = some 0
      ∧ after (.div (r 2 4 6)) [(4, 0x8000000000000000), (6, -1)] 2 = some 0x7FFFFFFFFFFFFFFF ∧ after (.divu (r 2 4 6)) [(4, 5)] 2 = some (-1)
      ∧ after (.rem (r 2 4 6)) [(4, -7), (6, 2)] 2 = some (-1) ∧ after (.rem (r 2 4 6)) [(4, 9)] 2 = some 9 := by decide +kernel

/-- R284, R285: a field of four bits from bit 4, sign-extended and inserted; CSEL reads its destination first. -/
theorem test_fields :
    after (.extr (r 2 4 6)) [(4, 0xF0), (6, 0x8304)] 2 = some (-1) ∧ after (.extr (r 2 4 6)) [(4, 0xF0), (6, 0x0304)] 2 = some 15
      ∧ after (.insr (r 2 4 6)) [(2, 0xABC), (4, 5), (6, 0x0304)] 2 = some 0xA5C ∧ after (.csel (r 2 4 6)) [(2, 1), (4, 7), (6, 8)] 2 = some 7
      ∧ after (.csel (r 2 4 6)) [(4, 7), (6, 8)] 2 = some 8 := by decide +kernel

/-- R290, R291: a branch back by one word, one not taken, and JALR through its own destination. -/
theorem test_branches :
    nextWith (exec (.beq (br 4 6 (-1))) (unit [])) (fun t => t.cur.pc == 0x1FFFFFFC) = true ∧ nextWith (exec (.bne (br 4 6 (-1))) (unit [])) (fun t => t.cur.pc == 0x20000004) = true
      ∧ nextWith (exec (.jalr (im 4 4 1)) (unit [(4, 0x100)])) (fun t => t.cur.pc == 0x104 && t.cur.reg 4 == 0x20000004) = true := by decide +kernel

/-- R291, R93: a misaligned target and a misaligned load take MISALIGN at TVEC, with the address in TRAPVAL. -/
theorem test_misaligned :
    nextWith (exec (.jalr (im 2 4 0)) (unit [(4, 0x102)])) (fun t => t.cur.pc == 0x4000 && t.cur.trapcause == 3 && t.cur.trapval == 0x102 && t.cur.reg 2 == 0) = true
      ∧ nextWith (exec (.ldD (r 2 4 0)) (unit [(4, own 0x41)])) (fun t => t.cur.pc == 0x4000 && t.cur.trapcause == 3 && t.cur.trapval == own 0x41) = true := by decide +kernel

/-- R293: a byte loaded with and without its sign, and the lowest byte of a stored doubleword at its address. -/
theorem test_loads_extend :
    let s := withFields (unit [(4, own 0x40)]) [(0x40, 2, 0x0180)]
    (nextWith (exec (.ldB (r 2 4 0)) s) (fun t => t.cur.reg 2 == 0xFFFFFFFFFFFFFF80) && nextWith (exec (.lduB (r 2 4 0)) s) (fun t => t.cur.reg 2 == 0x80)
        && nextWith (exec (.ldH (r 2 4 0)) s) (fun t => t.cur.reg 2 == 0x180)) = true := by decide +kernel

/-- R323: an AMO answers what the word held and leaves the result. -/
theorem test_amo :
    nextWith (exec (.amoaddX ⟨r 2 4 6, .zero, e2 0⟩) (withFields (unit [(4, own 0x40), (6, -3)]) [(0x40, 8, 5)]))
      (fun t => t.cur.reg 2 == 5 && ownRecord t 0x40 8 == bytesOfNat 8 2) = true := by decide +kernel

/-- R304, R305, R307: VADD adds the elements below VL and leaves the tail. -/
theorem test_vadd :
    nextWith (exec (.vadd (r 2 4 6)) (vecUnit 2 (splat 32 0xFFFFFFFF) (splat 32 2)))
      (fun t => elemIn t.cur 2 1 32 3 == 1 && elemIn t.cur 2 1 32 4 == 0 && elemIn t.cur 4 1 32 0 == 0xFFFFFFFF) = true := by decide +kernel

/-- R307: VSADD on INT8 clamps and raises SAT. -/
theorem test_vsadd :
    nextWith (exec (.vsadd (r 2 4 6)) (vecUnit 0 (splat 8 0x7F) (splat 8 1))) (fun t => elemIn t.cur 2 1 8 0 == 0x7F && t.cur.fflags == 32) = true := by decide +kernel

/-- R309 and the formats of R231: 1.0 + 2^-24 ties to the even 1.0 and is inexact; 1.5 + 2.25 is exact. -/
theorem test_vfadd :
    nextWith (exec (.vfadd (r 2 4 6)) (vecUnit 6 (splat 32 0x3F800000) (splat 32 0x33800000))) (fun t => elemIn t.cur 2 1 32 0 == 0x3F800000 && t.cur.fflags == 1) = true
      ∧ nextWith (exec (.vfadd (r 2 4 6)) (vecUnit 6 (splat 32 0x3FC00000) (splat 32 0x40100000))) (fun t => elemIn t.cur 2 1 32 0 == 0x40700000 && t.cur.fflags == 0) = true := by decide +kernel

/-- R386: TRAP takes cause 18 at TVEC, and ERET goes back to TRAPPC with INTRAP clear. -/
theorem test_trap_and_eret :
    nextWith (exec (.trap (r 0 0 0)) (unit [])) (fun t => t.cur.pc == 0x4000 && t.cur.trapcause == 18 && t.cur.status.getLsbD 2) = true
      ∧ nextWith (exec (.eret (r 0 0 0)) (onStrand (unit []) (fun t => { t with status := 4, trappc := 0x80 }))) (fun t => t.cur.pc == 0x80 && t.cur.status == 0) = true := by decide +kernel

/-- The words a step takes at the pc run: ADD s5, s5, s6 leaves the pc past it, and time has passed by one. -/
theorem test_step : (match step (fetching 0x314A0000) with
    | .next t => t.cur.pc == (fetching 0x314A0000).cur.pc + 4 && t.gtime == (fetching 0x314A0000).gtime + 1
    | _ => false) = true := by decide +kernel

/-- R247, the fixed case: E5M2 57,344 to E4M3 is 0x7E with SAT and NX under SAT, NaN with OF and NX without. -/
theorem test_e5m2_to_e4m3 : convert .e5m2 .e4m3 false true 0 0 0x7B = (0x7E, Flags.sat ||| Flags.nx) ∧ (convert .e5m2 .e4m3 false false 0 0 0x7B).1 = 0x7F := by decide +kernel

/-- R56: SHA-384 of the three bytes of "abc", the first example of FIPS 180-4. -/
theorem test_sha384 : natOfBytes (sha384 [0x61, 0x62, 0x63]).reverse
    = 0xCB00753F45A35E8BB5A03D699AC65007272C32AB0EDED1631A8B605A43FF5BED8086072BA1E7CC2358BAECA134C825A7 := by decide +kernel

/-- R349: CWB over a dirty line leaves DRAM what the L2 held and the line clean. -/
theorem test_cwb :
    let s := { mapped (unit [(4, 0x10000), (6, 128)]) with l2 := [0x200], dirty := [0x200], stale := [(0x200, List.replicate 128 9)] }
    nextWith (exec (.cwb (r 0 4 6)) s) (fun t => t.dirty.isEmpty && t.stale.isEmpty && t.l2.contains 0x200) = true := by decide +kernel

/-! #### Forms that wait, trap or find the host in the way -/

/-- A bank of the executing context whose valid bits are given, every entry 1.0. -/
def withCurve (valid : BitVec 256) (s : State) : State :=
  { s with cores := [(0, { CoreSt.reset with banks := Vector.replicate 16 { entries := (0x3F800000 : BitVec 16384), valid, owner := some 0, dirty := false } })] }

/-- SUBST set for bank 0. -/
def subst (s : State) : State := onStrand s (fun t => { t with cbuse := 0x10000 })

/-- ConversionResults: VCVT from CI8 of codes whose entry is valid, and of codes whose entry is not, with SUBST and without; every one with VSTART at VL. -/
theorem witness_FromCi8 :
    let i := Instr.vcvtX ⟨r 2 4 0, e1 6 9 9 0, e2 0⟩
    let s := withCurve 1 (unit [])
    let z := onStrand s (fun t => { t with v := t.v.setIfInBounds 4 (BitVec.ofNat 2048 (0x0101)) })
    let v := typedView i s
    (∀ x ∈ [s, z, subst z], ready i x = true ∧ fetched (touchBank x 0) v false .ci8 = true ∧ ready i (atEnd x) = true ∧ vlOf (atEnd x).cur v ≤ (atEnd x).cur.vstart.toNat)
      ∧ Check.tA v = .ci8 ∧ Check.tD v ≠ .ci8 ∧ v.w1.ca = false ∧ s.cur.vstart.toNat < vlOf s.cur v
      ∧ curveValue s.cur ((touchBank s 0).bank 0) 0 0x3F800000 ∧ curveValue (subst z).cur ((touchBank z 0).bank 0) 1 0x7FC00000
      ∧ ((touchBank z 0).bank 0).valid.getLsbD 1 = false ∧ z.cur.cbuse.getLsbD 16 = false ∧ active z.cur v 0 = true
      ∧ (∀ j, j < 0 → active z.cur v j = true → curveValue z.cur ((touchBank z 0).bank 0) 1 0) := by
  unfold curveValue
  refine ⟨?_, ?_, ?_, ?_, ?_, ?_, ?_, ?_, ?_, ?_, fun j h => absurd h (by omega)⟩ <;> decide +kernel

/-- ConversionResults: VCVT to CI8 with every entry of the stride valid, and with the second one invalid, with SUBST and without. -/
theorem witness_ToCi8 :
    let i := Instr.vcvtX ⟨r 2 4 0, e1 9 6 6 0, e2 0⟩
    let s := withCurve (BitVec.allOnes 256) (unit [])
    let z := withCurve 1 (unit [])
    let v := typedView i s
    (∀ x ∈ [s, z, subst z], ready i x = true ∧ fetched (touchBank x 0) v false .fp32 = true)
      ∧ Check.tA v = .fp32 ∧ Check.tD v = .ci8 ∧ (∀ j, j < 16 → ((touchBank s 0).bank 0).valid.getLsbD (8 * j) = true) ∧ (subst z).cur.cbuse.getLsbD 16 = true
      ∧ z.cur.cbuse.getLsbD 16 = false ∧ active z.cur v 0 = true ∧ ((touchBank z 0).bank 0).valid.getLsbD 8 = false ∧ ((touchBank z 0).bank 0).valid.getLsbD 0 = true := by
  decide +kernel

/-- A unit whose scratchpad line at 0x100 maps the line of the object at 0x8000, its line filled, dirty or not. -/
def stashed (dirty : List Nat) : State :=
  let s := mapped (unit [(4, own 0x100), (6, 5), (7, own 0x180), (8, 128)])
  let t := onStrand s (fun t => { t with stash := [{ off := 0x100, obj := 5, lines := [0x100], filled := [0], dirty, bad := [] }] })
  { t with objs := [(5, { leaseObj with mode := .stashed 0 0 })] }

/-- StashResults: an object in LEASE and one of this slot, mapped and not; leases that have ended and one that runs. -/
theorem witness_StashMapping :
    let s := { mapped (unit [(4, own 0x100), (6, 5)]) with objs := [(5, leaseObj)] }
    let m := { s with objs := [(5, { leaseObj with mode := .stashed 0 0 })] }
    let l := fun (s : State) => { s with expiry := [(leaseKey (some 5) s.modId s.modId 0x100, 9)] }
    (∀ x ∈ [s, m, l s, l m, stashed []], ready (.stashmap (r 2 4 6)) x = true) ∧ stashStatus s (own 0x100).toNat 5 = 0 ∧ stashStatus (stashed []) (own 0x100).toNat 5 ≠ 0
      ∧ mapGet m.objs 5 = some { leaseObj with mode := .stashed m.curRef.core m.curRef.slot } ∧ m.cur.stash = [] ∧ (∃ x ∈ (stashed []).cur.stash, x.obj = 5)
      ∧ (∀ k, k < 128 → s.expiryOf (5 * 128 + k) ≤ s.now) ∧ (∀ k, k < 128 → m.expiryOf (5 * 128 + k) ≤ m.now) ∧ ¬ (l s).expiryOf (5 * 128) ≤ (l s).now
      ∧ 0x00FD000000000000 ≤ (own 0x100).toNat ∧ (own 0x100).toNat < 0x00FD000000200000 := by decide +kernel

/-- StashResults: mappings in form, with a dirty line whose home the host holds and with one that it does not; a range that meets the line and one that does not. -/
theorem witness_StashWriteBacks :
    let s := stashed [0]
    let h := { s with snoop := [0x100] }
    (∀ x ∈ [s, h, stashed []], ready (.stashunmap (r 2 4 0)) x = true ∧ ready (.stashwb (r 0 4 8)) x = true) ∧ stashForm s ∧ stashForm h ∧ stashForm (stashed [])
      ∧ (∃ m ∈ h.cur.stash, hostHolds h m (fun _ => True)) ∧ (∀ m ∈ s.cur.stash, ¬ hostHolds s m (fun _ => True))
      ∧ (∀ m ∈ s.cur.stash, (own 0x100).toNat = 0x00FD000000000000 + m.off ∧ m.off < 0x200000) ∧ s.cur.reg 7 = own 0x180 := by
  unfold stashForm MemoryForm hostHolds
  refine ⟨?_, ?_, ?_, ?_, ⟨_, List.mem_singleton.mpr rfl, 0, List.mem_singleton.mpr rfl, trivial, 0x100, List.mem_singleton.mpr rfl, rfl⟩, ?_, ?_, ?_⟩
  case refine_5 => rintro m - ⟨k, -, -, l, hl, -⟩; exact absurd hl List.not_mem_nil
  all_goals decide +kernel

/-- CollectiveResults, HostMemorySteps: the host holds no line of the rendezvous record; it holds one. -/
theorem witness_hostWait :
    let s := mapped (unit [])
    hostWait s (.device 0 0x10000) 640 = none ∧ (hostWait { s with snoop := [0x200] } (.device 0 0x10000) 640).isSome = true := by decide +kernel

/-- A conductor whose slots hold commands of its own: status and summary of each. -/
def holding (l : List (CmdSt × Word)) : State :=
  let s := onStrand (conductor []) (fun t => { t with bankSlots := (List.range l.length).foldl (fun v k => v.setIfInBounds k { grant := some (k + 1) }) t.bankSlots })
  { s with cmds := l.zipIdx.map (fun p => { aCommand [] p.1.1 with grant := p.2 + 1, summary := p.1.2 }) }

/-- CommandWaits: two ended commands, the second with a bank that stopped; one accepted and one that runs. -/
theorem witness_CommandSummaries :
    let s := holding [(.complete, 0x8000000000000000), (.complete, 0x8000000100000000)]
    let g := fun (s : State) (k : Nat) => ((s.cur.bankSlots[k]?).bind (·.grant)).bind s.cmdOf
    (∀ x ∈ [s, holding [(.accepted, 0)], holding [(.started, 0)]], ready (.bfence ⟨{ stall := 0, c := false }, 0, 0, 0⟩) x = true ∧ ready (.bstat (r 2 4 6)) x = true)
      ∧ (g s 0).map (fun c => (c.st, c.summary)) = some (.complete, 0x8000000000000000) ∧ (g s 1).map (fun c => (c.st, c.summary)) = some (.complete, 0x8000000100000000)
      ∧ (∀ k, k < 8 → 1 < k → (s.cur.bankSlots[k]?).bind (·.grant) = none)
      ∧ (g (holding [(.accepted, 0)]) 0).map (·.st) = some .accepted ∧ (g (holding [(.started, 0)]) 0).map (fun c => (c.st, decide (c.banks.length < 2 ^ 16))) = some (.started, true) := by
  decide +kernel

/-- RegisterAccess: every number of the table that a write changes, of the fixed ones, of the window registers and of the module's; the object table
    free and in use; a command of CTADMIT that is answered. -/
theorem witness_Registers :
    ([0x00A, 0x00B, 0x030, 0x03F, 0x800, 0x801, 0x802, 0x803, 0x810, 0x813, 0x814, 0x82F, 0xC00].all
        (fun n => ready (regRead n) (supervisor (unit [])) && ready (regWrite n) (supervisor (unit [])) && ready (regSwap n) (supervisor (unit [])))) = true
      ∧ (unit []).latent = [] ∧ (unit []).correctable = [] ∧ (unit []).objs = [] ∧ { unit [] with objs := [(5, leaseObj)] }.objs ≠ []
      ∧ (match ctCommand (unit []) 3 with | (_, .ok _) => true | _ => false) = true := by
  refine ⟨?_, ?_, ?_, ?_, ?_, ?_⟩ <;> decide +kernel

/-- TranslationControl: the host holds the line of the window register's descriptor. -/
theorem witness_NcwsetHeld :
    let s := { mapped (unit [(4, 0x10000), (6, 3)]) with snoop := [(descAddr (unit []) 3 + 0x80) / 128] }
    ready (.ncwset (r 0 4 6)) s = true ∧ (descAddr s 3 + 0x80) / 128 ∈ s.snoop ∧ descAddr s 3 + 256 ≤ s.ceil := by decide +kernel

/-- PackageSteps, RingAndMailboxSteps: a correctable line that is not poisoned; a fallback dump below the ceiling, written and not; a part in recovery mode;
    a chunk below an image's size. -/
theorem witness_DumpsAndImages :
    let s := onHost (unit []) (fun h => { h with dumpDev := 0x1000 })
    let f := onPkg s (fun p => { p with fatal := some 2, dumpAt := some 0x1000 })
    setHas { s with correctable := [1] }.poison 1 = false ∧ s.host.dumpDev.toNat + 8 ≤ s.ceil ∧ f.pkg.fatal = some 2 ∧ f.pkg.dumpAt = some 0x1000 ∧ 0x1000 + 0x62800 ≤ f.ceil
      ∧ (onPkg s (fun p => { p with fatal := some 2 })).pkg.dumpAt = none ∧ ¬ served (withBoot .reset 0x82) ∧ 0x1000 + 4095 < (onPkg s (fun p => { p with sizeA := 0x2000 })).pkg.sizeA := by
  unfold served; decide +kernel

/-- HostRegisterSteps: an event not acknowledged, vector 0 raised a cycle ago; a cell whose line the host holds. -/
theorem witness_HostWaits :
    let e := onHost (opened .reset) (fun h => { h with dseqPosted := 3, hostAck := 1, msixAt := some 0, silMod := 1 })
    let c := { slotCell 0x10000 { sibs := twoSibs, ctr := 2, frozen := false } with snoop := [0x200] }
    e.host.hostAck.toNat < e.host.dseqPosted.toNat ∧ e.pkg.fatal = none ∧ e.host.msixAt = some 0 ∧ e.now < 0 + 1000 * (e.host.silMod.toNat % 65536)
      ∧ 0x10000 / 128 ∈ c.snoop ∧ (c.accordCell 0x10000).isSome = true := by decide +kernel

/-- HostMemorySteps: a write that waits for a line to be taken back; zero-length reads of a unit and of a job. -/
theorem witness_HeldWrites :
    let w : HeldWrite := { pa := 0x8000, bytes := [7], use := .cached }
    let s := { inMode 1 with snoop := [0x100], snoopInv := [0x100], homeWrites := [w] }
    s.homeWrites.filter (fun w => w.pa / 128 == 0x8000 / 128) = [w] ∧ w.pa % 128 + w.bytes.length ≤ 128 ∧ 0x8000 / 128 ∈ s.snoop ∧ setHas s.snoopInv (0x8000 / 128) = true
      ∧ setHas s.poison (0x8000 / 128) = false ∧ s.objOfLine (0x8000 / 128) = none ∧ s.stale = [] ∧ MemoryForm s
      ∧ (inMode 2).lateSyncs = [] ∧ (withJob (fun j => { j with hostStores := true }) id).sched.jobs.any (·.hostStores) = true := by
  unfold MemoryForm; decide +kernel

/-- HomeSteps: a context whose table leads to a leaf of 36 offset bits at 0, with nothing cached; a line that the host holds. -/
theorem witness_PageWalk :
    let s := State.reset.withFetchWord 32 0x314A0000
    contextRoot s 0 = some 0x10000000 ∧ leafBelow s 0x20000000 36 0 0x1F 4 1 0x10000000 ∧ permitted 0x1F .load true = true
      ∧ s.objs = [] ∧ s.latent = [] ∧ s.tlb = [] ∧ s.micro = [] ∧ s.stale = [] ∧ (∀ w ∈ s.homeWrites, w.pa / 128 ≠ 0x100)
      ∧ 0x8000 / 128 ∈ { s with snoop := [0x100] }.snoop := by
  refine ⟨?_, ⟨?_, ?_, ?_, ?_⟩, ?_, ?_, ?_, ?_, ?_, ?_, ?_, ?_⟩
  case refine_5 =>
    rw [if_neg (by decide +kernel)]
    refine ⟨?_, ?_, ?_, ?_⟩
    case refine_4 => rw [if_pos (by decide +kernel)]; decide +kernel
    all_goals decide +kernel
  all_goals decide +kernel

/-- EngineSteps: an epoch of COLLGAT with one participant, whose DST and DONE lie in its scratchpad: not delivered yet, in error, and due. -/
theorem witness_CollectiveEnds :
    let s := unit []
    let a : Arrival := { rank := 0, unit := s.curRef, launch := 0, unitId := 0, ctx := 3, agent := 0, src := 0, dst := own 0x300, runs := [], doneVa := own 0x200, data := [1, 0, 0, 0] }
    let e : Epoch := { rend := 0x10000, kind := 1, npart := 1, bytes := 4, op := 0, et := 2, status := 0, number := 0, due := none, arrivals := [a] }
    a.seat s = some s.curRef ∧ e.npart ≤ e.arrivals.length ∧ s.syncs = [] ∧ MemoryForm s ∧ collResult e = [1, 0, 0, 0] ∧ a.dst ≠ 0
      ∧ unitBytes s s.curRef a.doneVa 8 8 0x200 ∧ unitBytes s s.curRef a.dst 4 1 0x300 ∧ { e with status := 5 }.status ≠ 0 ∧ (∃ d, { e with due := some 0 }.due = some d ∧ d ≤ s.now) := by
  unfold MemoryForm unitBytes
  refine ⟨?_, ?_, ?_, ?_, ?_, ?_, ?_, ?_, ?_, ⟨0, rfl, ?_⟩⟩ <;> decide +kernel

/-- JobSteps: an ended job whose writes are visible, are not yet, and wait for the host; its DONE word translated, to a line of the host's and to a plain one, and not
    translated; a contract whose release is due with a job to drive it. -/
theorem witness_JobWaits :
    let j := fun (f : Job → Job) => withJob (fun j => f { j with live := false, phase := 1, doneVa := 0x10000 }) id
    let a := schedAgent 3
    let m := { j id with tlb := [page a.who.cluster] }
    let got := fun (f : Job → Nat × Bool) (s : State) => (s.jobOf 1).map f
    let rel := fun (s : State) => { s with gtime := 10000, sched := { s.sched with contracts := [{ aContract none with bankbud := 8, stackMask := 3 }] } }
    got (fun j => (j.visible, j.hostStores)) m = some (0, false) ∧ (j (fun j => { j with visible := 9 })).now < 9
      ∧ (onHost (j (fun j => { j with hostStores := true })) (fun h => { h with mode := 2 })).host.mode = 2
      ∧ found (resolve m a .store none 0x10000 8 8) (fun s1 g => (hostWait s1 g.place 8).isNone && !unreachable s1 g.place && !windowBars s1 g && !farBarred s1 3 g.place 8
          && match writeSpan s1 g.place (bytesOfNat 8 9) { agent := 0, unit := none } g.use with | (_, none) => true | _ => false) = true
      ∧ found (resolve { m with snoop := [0x200] } a .store none 0x10000 8 8) (fun s1 g => (hostWait s1 g.place 8).isSome) = true
      ∧ (match resolve (j id) a .store none 0x10000 8 8 with | (_, .error _) => true | _ => false) = true
      ∧ 0 + 1 * 10000 ≤ (rel m).now ∧ ((rel m).contractOf 2).map (fun c => (c.running.isNone, decide (0 < c.bankbud))) = some (true, true)
      ∧ ((rel (withJob (fun j => { j with live := false, contract := some 2 }) id)).sched.jobs.find? (fun j => j.contract == some 2 && !j.live && !j.jobCancel && decide (j.phase < j.phases))).isSome = true
      ∧ (∀ x ∈ (rel m).sched.contracts, x.clusters = 1 → x.running = none)
      ∧ ({ n := 0, stopped := false, dispatched := true, deadline := 9000, used := 0, since := some 0, bankUsed := 0 } : Release).time 40 = (aContract none).budget := by
  refine ⟨?_, ?_, ?_, ?_, ?_, ?_, ?_, ?_, ?_, ?_, ?_⟩ <;> decide +kernel

/-- PlacementSteps: a waiting gang none of whose units is resident; news that changes an object whose cell was observed and news that changes none; a record of a
    dirty tile below the ceiling. -/
theorem witness_PlacementNews :
    let o : Obj := { leaseObj with mode := .accord }
    let s := { onStrand (withGang 1 0) (fun t => { t with obs := [{ cell := 2 ^ 50 + 2 ^ 40 + 0x8000, dots := [5] }] }) with
      pkg := { State.reset.pkg with domain := 0xF0002 }, peers := [(1, { ceil := 0, reservations := [], objs := [(5, o)] })], cells := [(2 ^ 50 + 2 ^ 40 + 0x8000, { sibs := [], ctr := 3, frozen := false })] }
    (∀ w ∈ (withGang 0 256).sched.gangs, wholeGang { withGang 0 256 with cur := Strand.reset } w = true) ∧ s.modId = 0 ∧ keysRise s.cells = true
      ∧ (s.peer 1).objs = [(5, o)] ∧ farGone s 1 (s.peer 1).objs [] (2 ^ 50 + 2 ^ 40 + 0x8000) = true ∧ farGone s 1 (s.peer 1).objs [(5, o)] (2 ^ 50 + 2 ^ 40 + 0x8000) = false
      ∧ (∃ e ∈ s.cur.obs, e.cell = 2 ^ 50 + 2 ^ 40 + 0x8000) ∧ 0x02000000 + 0xD0000 ≤ s.ceil ∧ s.snoop = [] := by
  refine ⟨?_, ?_, ?_, ?_, ?_, ?_, ⟨_, List.mem_singleton.mpr rfl, rfl⟩, ?_, ?_⟩ <;> decide +kernel

/-- BankSteps: a started command with a contribution of its one bank, the root, with and without a second bank whose contribution is missing; rows written under POISON. -/
theorem witness_BankRoots :
    let k : Contribution := { level := 0, n := 0, op := 0, bank := 0, j := 0, words := List.replicate 256 5 }
    let z := { aCommand [0] .started with contribs := [k], written := [(0, 0)] }
    let s := { unit [] with cmds := [z], rowClear := [0], blus := [(0, { Blu.reset with status := 0x400 })] }
    s.cmdOf 1 = some z ∧ MemoryForm s ∧ s.rowClear.Pairwise (· < ·) ∧ s.poison.Pairwise (· < ·) ∧ z.contribs.find? (fun k => k.n == 0) = some k
      ∧ groupOf z 0 0 0 = ([k], false) ∧ groupOf { z with banks := [0, 1] } 0 0 0 = ([k], true) ∧ k.words.length = 256 ∧ isRoot z 0 0 = true ∧ resultRow s z 0 0 = some 0
      ∧ isRoot { z with banks := [0, 1] } 0 1 = false ∧ (reduceGroup 0 [(0, [0x7FFFFFFF]), (1, [1])]).2 ≠ 0 ∧ s.launchOf z.handle = none ∧ (s.bluAt 0).status.getLsbD 10 = true
      ∧ (∀ p ∈ z.written, p.1 ∈ z.banks) := by
  unfold MemoryForm
  refine ⟨?_, ?_, ?_, ?_, ?_, ?_, ?_, ?_, ?_, ?_, ?_, ?_, ?_, ?_, ?_⟩ <;> decide +kernel

/-- A part whose strand is at a convoy of two members, words `a` and `b`. -/
noncomputable def fetchingTwo (a b : Word32) : State :=
  let s := fetching a.toNat
  { s with mem := putWords s.mem (fetchHome + 4) [b] }

/-- The words of a convoy fetched, in a state whose strand is as it was. -/
def fetchesTwo (s : State) (a b : Word32) : Bool :=
  match fetchConvoy s 4 s.cur.pc with
  | (s1, .ok l) => l == [[a], [b]] && s1.cur == s.cur && decide (s1.curRef = s.curRef)
  | _ => false

/-- ConvoyEnds: VID v2 and VID v4 together, whose members run to the end; a scalar instruction beside a vector one; a fourth member that does not end the convoy;
    members that run in the convoy and trap there. -/
theorem witness_ConvoyMembers :
    let a : Word32 := (encode (.vid { hd := { stall := 0, c := true }, d := 2, a := 0, b := 0 })).headD 0
    let b : Word32 := (encode (.vid (r 4 0 0))).headD 0
    let s := fetchingTwo a b
    let t := { s with cur := { s.cur with vtype := 2, vl := 4 } }
    stepsNext t ∧ fetchesTwo t a b = true ∧ (match checkConvoy t [[a], [b]] with | .ok l => l.length == 2 && !rowConvoy (l.filterMap Instr.view) | _ => false) = true
      ∧ (match fetchConvoy (fetchingTwo (0x314A0000 ||| 4) b) 4 fetchHome with | (_, .ok l) => l.length == 2 | _ => false) = true
      ∧ misfit (0x314A0000 ||| 4) = true ∧ misfit a = false
      ∧ (let m := onStrand (unit []) (fun t => { t with cv := { Convoy.idle with multi := true, limit := some 2 } })
        m.cur.cv.multi = true ∧ legal (.vadd (r 2 4 6)) m = true ∧ m.cur.vstart.toNat < vlOf m.cur (typedView (.vadd (r 2 4 6)) m)
          ∧ fetched m (typedView (.vadd (r 2 4 6)) m) false .int32 = true) := by
  unfold stepsNext
  refine ⟨?_, ?_, ?_, ?_, ?_, ?_, ?_⟩ <;> decide +kernel

/-- ConvoyEnds: four members, the last of which does not end the convoy; a member that reads a scalar register too soon; a member whose second index has no valid entry. -/
theorem witness_ConvoyStops :
    let a : Word32 := (encode (.vid { hd := { stall := 0, c := true }, d := 2, a := 0, b := 0 })).headD 0
    let s := fetching a.toNat
    let t := { s with mem := putWords s.mem (fetchHome + 4) [a, a, a] }
    let i := Instr.vaddX ⟨⟨r 2 4 6, { e1 2 10 2 0 with ca := true, cba := 3 }, e2 2⟩, none⟩
    let m := onStrand (withBank (unit [])) (fun t => { t with cv := { Convoy.idle with multi := true }, v := t.v.setIfInBounds 4 (BitVec.ofNat 2048 2) })
    stepsNext t ∧ (match fetchConvoy t 4 t.cur.pc with | (_, .ok l) => l == [[a], [a], [a], [a]] | _ => false) = true ∧ a.getLsbD 2 = true
      ∧ stallUnder [{ reg := 4, left := 3 }] (scalarReads (unit []).cur (viewOf (.vmvsv (r 2 4 0)))) ≠ 0
      ∧ nextWith (exec i m) (fun t => decide (t.cur.cv.trap.map (fun x => (x.1, x.2.2)) = some (8, 1))) = true := by
  unfold stepsNext
  refine ⟨?_, ?_, ?_, ?_, ?_⟩ <;> decide +kernel
/-! #### What cancels, ends, touches and places leave -/

/-- UnitControl: a dirty stash line whose home the host holds, and one that it does not: HALT waits at its PC for the first. -/
theorem witness_HaltWaits :
    let s := stashed [0]
    let h := { s with snoop := [0x100] }
    (∀ x ∈ [s, h], ready (.halt (r 0 0 0)) x = true ∧ writesPending x x.cur 3 = false ∧ storesQueued x x.curRef = false ∧ x.cur.waitCopies = [] ∧ ∀ n, n < 4 → x.copyAt x.curRef.core n = none)
      ∧ (∃ m ∈ h.cur.stash, hostHolds h m (fun _ => True)) ∧ (∀ m ∈ s.cur.stash, ∀ k ∈ m.dirty, k < m.lines.length)
      ∧ nextWith (exec (.halt (r 0 0 0)) h) (fun t => t.cur.asks == (0, 4) && t.cur.pc == h.cur.pc && t.snoopInv == [0x100]) = true := by
  refine ⟨?_, ⟨_, List.mem_singleton.mpr rfl, 0, List.mem_singleton.mpr rfl, trivial, 0x100, List.mem_singleton.mpr rfl, rfl⟩, ?_, ?_⟩ <;> decide +kernel

/-- TranslationControl: a command of context 3 that has pieces to fetch, against TLBINV of everything, of context 3 and of context 4; a window register at the capacity,
    and one whose line the host holds. -/
theorem witness_TranslationWaits :
    let c := { aCommand [] .accepted with places := [(.device 0 0x10000, 64, false)], ctx := 3 }
    let s := { supervisor (unit [(6, 0), (7, 0x30001), (8, 0x40001)]) with cmds := [c] }
    let n := mapped (unit [(4, 0x10000), (6, 3)])
    let z := { n with sched := { n.sched with ctxtab := BitVec.ofNat 64 n.ceil } }
    (∀ b ∈ [6, 7, 8], ready (.tlbinv (r 0 4 b)) s = true) ∧ (∃ c ∈ s.cmds, c.places ≠ []) ∧ c.ctx = ((s.cur.reg 7).extractLsb' 16 16).toNat ∧ c.ctx ≠ ((s.cur.reg 8).extractLsb' 16 16).toNat
      ∧ nextWith (exec (.tlbinv (r 0 4 7)) s) (fun t => t.cur.pc == s.cur.pc) = true ∧ nextWith (exec (.tlbinv (r 0 4 8)) s) (fun t => t.cur.pc == s.cur.pc + 4) = true
      ∧ ready (.ncwset (r 0 4 6)) z = true ∧ z.ceil < descAddr z 3 + 0x80 + 8
      ∧ nextWith (exec (.ncwset (r 0 4 6)) z) (fun t => t.cur.pc == 0x4000 && t.cur.trapcause == 7 && t.cur.trapval == 0) = true := by
  refine ⟨?_, ⟨_, List.mem_singleton.mpr rfl, by decide⟩, ?_, ?_, ?_, ?_, ?_, ?_, ?_⟩ <;> decide +kernel

/-- A unit of record 0x02000000 whose tile 3 and bank 3 another context owns, whose record is at 0x020D0000; the validity bits of its own record given. -/
def touching (dirty : Bool) (bits : Nat) : State :=
  let s := onStrand (unit []) (fun t => { t with record := some 0x02000000 })
  let x : Tile := { Tile.reset with owner := some 0x020D0000, dirty }
  let b : Bank := { Bank.reset with owner := some 0x020D0000, dirty }
  { s with cores := [(0, { CoreSt.reset with tiles := CoreSt.reset.tiles.setIfInBounds 3 x, banks := CoreSt.reset.banks.setIfInBounds 3 b })],
           sched := { s.sched with records := [{ addr := 0x02000000, tileValid := BitVec.ofNat 12 bits, bankValid := BitVec.ofNat 16 bits }, { addr := 0x020D0000, tileValid := 0, bankValid := 0 }] } }

/-- TileResults, CodebookBanks: tiles and banks owned, without an owner, and another's, clean and dirty; records that hold them and that do not. -/
theorem witness_LazyTouches :
    let s := touching false 8
    let d := touching true 0
    plainDevice s ∧ plainDevice d ∧ ((owned (unit [])).tile 3).owner = (owned (unit [])).cur.record ∧ (s.tile 3).owner ≠ s.cur.record ∧ (s.bank 3).owner ≠ s.cur.record
      ∧ (s.cur.record.bind s.saveRec).map (fun r => (r.tileValid.getLsbD 3, r.bankValid.getLsbD 3)) = some (true, true)
      ∧ (d.cur.record.bind d.saveRec).map (fun r => (r.tileValid.getLsbD 3, r.bankValid.getLsbD 3)) = some (false, false) ∧ (s.tile 3).dirty = false ∧ (d.tile 3).dirty = true
      ∧ (s.bank 5).owner = none ∧ ((d.bank 3).owner.bind d.saveRec).map (·.addr) = some 0x020D0000 ∧ 0x020D0000 + 0xD0000 ≤ d.ceil := by
  unfold plainDevice MemoryForm
  refine ⟨⟨?_, ?_, ?_, ?_, tidy_of_nil _ rfl⟩, ⟨?_, ?_, ?_, ?_, tidy_of_nil _ rfl⟩, ?_, ?_, ?_, ?_, ?_, ?_, ?_, ?_, ?_, ?_⟩ <;> decide +kernel

/-- R218: a touch of a tile that its own record does not hold finds it clean. -/
theorem test_touch :
    let t := touchTile (touching false 0) 3
    (t.tile 3).owner = some 0x02000000 ∧ (t.tile 3).dirty = false := by decide +kernel

/-- ConvoyEnds: of a convoy, a vector load whose elements 2 and on lie in a result row that is not full waits there, one that lies in it whole waits at VSTART, and one past
    the 56-bit space traps. -/
theorem witness_ConvoyWaits :
    let m := fun (a : Word) => onStrand { mapped (unit [(4, a)]) with rowClear := [65] } (fun t => { t with cv := { Convoy.idle with multi := true } })
    let stop := fun (a : Word) => match exec (.vld (r 2 4 0)) (m a) with | .next t => some (decide (t.cur.wait ≠ .none), t.cur.vstart.toNat, t.cur.cv.trap.map (fun x => (x.1, x.2.2))) | _ => none
    stop 0x103F8 = some (true, 2, none) ∧ stop 0x10400 = some (true, 0, none) ∧ stop (2 ^ 56) = some (false, 0, some (7, 0)) := by decide +kernel

/-- FencesAndSyncWords: FENCE.X at SYSTEM scope in the PCIe fallback, with acknowledgments to come and without. -/
theorem witness_FenceReads :
    let i := Instr.fenceX ⟨r 0 0 0, .zero, { e2 15 with scope := 5 }⟩
    let s := onHost (unit []) (fun h => { h with mode := 2 })
    let a := onStrand s (fun t => { t with latestAck := 9 })
    ready i s = true ∧ ready i a = true ∧ (e2 15).imm16.toNat % 16 / 4 ≠ 0 ∧ s.cur.storeErrs = [] ∧ acksPending a a.cur 5 = true ∧ acksPending s s.cur 5 = false ∧ readPending s 5 = true
      ∧ nextWith (exec i s) (fun t => t.cur.zeroRead == .sent && t.cur.pc == s.cur.pc) = true := by decide +kernel

/-- CancelAndHeart: a unit cancelled once, by trap and by termination, one in a wait and one whose answer has come; a launch cancelled, one with a unit resident, one of one unit not placed. -/
theorem witness_UnitCancels :
    let s := withJob id id
    let w := withQueue [] [(5, { core := 1, slot := 0 })]
    let u : SlotRef := { core := 1, slot := 0 }
    let g := { withGang 0 0 with cur := Strand.reset }
    u.ok = true ∧ (s.strand s.curRef).cancel = .none ∧ s.portQueue = [] ∧ s.popQueue = [] ∧ (w.strand u).st = .waiting ∧ (w.strand u).wait.settled = false ∧ w.portQueue = []
      ∧ (onStrand s (fun t => { t with wait := .portDone 4 })).cur.wait.settled = true ∧ (onStrand s (fun t => { t with cancel := .trap })).cur.cancel ≠ .none
      ∧ nextWith (exec (.pqpopX ⟨r 2 0 0, .zero, e2 5⟩) (withQueue [] [])) (fun t => t.cur.st == .waiting) = true
      ∧ residents s 7 = [s.curRef] ∧ residents g 7 = [] ∧ (s.launchOf 7).map (fun l => (l.cancelled, l.finished, l.units)) = some (false, 0, 2) ∧ (∀ w ∈ s.sched.gangs, w.handle ≠ 7) := by
  refine ⟨?_, ?_, ?_, ?_, ?_, ?_, ?_, ?_, ?_, ?_, ?_, ?_, ?_, ?_⟩ <;> decide +kernel

/-- R78: a waiting PQPOP abandoned by a cancel leaves its queue, marked to trap; a launch of one unit that has not been placed is gone with its node CANCELLED. -/
theorem test_cancels :
    let w := cancelUnitAt (withQueue [] [(5, { core := 1, slot := 0 })]) { core := 1, slot := 0 } false
    let n : NodeRun := { pending := 0, fired := false, st := .launched }
    let g := withJob (fun j => { j with nodes := [{ lpb := 0, npred := 0, succs := [] }], runs := [n] }) (fun l => { l with gangs := 1, node := some 0 })
    let t := cancelLaunch { g with cur := Strand.reset, sched := { g.sched with gangs := [{ handle := 7, gang := 0, fails := 0, due := 0, back := [], gone := [] }] } } 7 false
    (w.popQueue, (w.strand { core := 1, slot := 0 }).st, (w.strand { core := 1, slot := 0 }).cancel) = ([], .running, .trap)
      ∧ (t.sched.launches, t.sched.gangs) = ([], []) ∧ (t.jobOf 1).map (fun j => (j.runs.map (·.st), j.live, j.anyCancelled)) = some ([.cancelled], false, true) := by decide +kernel

/-- CancelAndHeart: jobs live, between phases, ended and held; of one tag, one that has ended; a unit saved, marked and not, one not placed beside another, and none; a cancel due at a boundary. -/
theorem witness_JobCancels :
    let s := withJob id id
    let j := fun (live : Bool) (p : Nat) => withJob (fun j => { j with live, phase := p, phases := 2 }) id
    let h := { s with sched := { s.sched with heldJobs := s.sched.jobs, jobs := [], launches := [] } }
    let f : State := { s with sched := { s.sched with launches := [] } }
    let v := fun (c : CancelSt) => ({ withSaved with sched := { withSaved.sched with launches := s.sched.launches, saved := withSaved.sched.saved.map (fun (v : Saved) => { v with unit := { v.unit with launch := 7, cancel := c } }) } } : State)
    let g := { withGang 0 0 with cur := Strand.reset }
    (s.jobOf 1).isSome = true ∧ (h.jobOf 1).isNone = true ∧ (h.sched.heldJobs.find? (fun j => j.id == 1)).isSome = true ∧ (h.jobOf 2).isNone = true ∧ (∀ j ∈ h.sched.heldJobs, j.id ≠ 2)
      ∧ f.sched.launches = [] ∧ (aJob.live = true ∧ aJob.devPending = 0 ∧ aJob.phases ≤ aJob.phase + 1 ∧ aJob.notifyPhase = false ∧ aJob.contract = none)
      ∧ ((j false 2).jobOf 1).map Job.ended = some true ∧ ((j false 1).jobOf 1).map Job.ended = some false
      ∧ (∀ c ∈ [CancelSt.none, .trap], ((v c).sched.saved.find? (fun v => v.unit.launch.toNat % 2 ^ 32 == 7 && v.unit.strandId.toNat % 2 ^ 20 == 0)).map (fun v => decide (v.unit.cancel = c)) = some true)
      ∧ (g.sched.gangs.map (fun w => (w.handle, w.back, w.gone)) = [(7, [], [])] ∧ (0 : Nat) / 2 = 0 ∧ ((g.launchOf 7).map (fun l => ({ l with width := 2 } : Launch).perGang)) = some 2)
      ∧ (let c := onStrand s (fun t => { t with cancel := .trap }); c.pkg.fatal = none ∧ c.agenda = [] ∧ c.cur.st = .running ∧ c.cur.cv.limit = none ∧ c.cur.wait.settled = false) := by
  refine ⟨?_, ?_, ?_, ?_, ?_, ?_, ?_, ?_, ?_, ?_, ?_, ?_, ?_, ?_, ?_, ?_⟩ <;> decide +kernel

/-- UnitControl: a launch with more units to end, one whose trigger waits for this unit alone, and one whose last unit this is. -/
theorem witness_UnitEnds :
    let s := withJob id id
    let n : NodeRun := { pending := 0, fired := false, st := .launched }
    let jobs := fun (j : Job) => { j with nodes := [{ lpb := 0, npred := 0, succs := [] }], runs := [n] }
    let t := withJob jobs (fun l => { l with node := some 0, triggered := [1] })
    let l := withJob jobs (fun l => { l with node := some 0, finished := 1, doneUnits := [1] })
    s.curRef.ok = true ∧ (s.launchOf 7).map (fun l => decide (l.finished + 1 < l.units ∧ l.node = none)) = some true ∧ (s.cur.strandId.toNat % 2 ^ 20, s.cur.launch.toNat % 2 ^ 32) = (0, 7)
      ∧ (t.launchOf 7).map (fun l => (l.node, l.fired, l.triggered, l.units)) = some (some 0, false, [1], 2) ∧ (l.launchOf 7).map (fun l => (l.finished, l.units, l.triggered)) = some (1, 2, [])
      ∧ (∀ c ∈ l.cmds, c.handle = 7 → c.st = .complete) ∧ (l.jobOf 1).isSome = true := by
  refine ⟨?_, ?_, ?_, ?_, ?_, ?_, ?_⟩ <;> decide +kernel

/-- R60, R66, R386: the unit that the trigger waited for ends DONE: the node's successor is launched or, its block being misaligned, CANCELLED; the slot is empty, and the launch counts one. -/
theorem test_unit_end :
    let n := fun (p : Nat) (x : NodeSt) => ({ pending := p, fired := false, st := x } : NodeRun)
    let s := withJob (fun j => { j with nodes := [{ lpb := 0, npred := 0, succs := [1] }, { lpb := 1, npred := 1, succs := [] }], runs := [n 0 .launched, n 1 .waiting] })
      (fun l => { l with node := some 0, triggered := [1] })
    let t := endUnit s s.curRef true true
    (t.strand s.curRef).st = .empty ∧ (t.launchOf 7).map (fun l => (l.finished, l.fired)) = some (1, true)
      ∧ (t.jobOf 1).map (fun j => j.runs.map (fun r => (r.pending, r.fired, r.st))) = some [(0, true, .launched), (0, false, .cancelled)] := by decide +kernel

/-- JobSteps: nodes waiting with counts, after a dead predecessor, and under a cancel; a phase done and not; a job with phases to come, of a contract and of none. -/
theorem witness_PhaseSteps :
    let n := fun (p : Nat) (f : Bool) (x : NodeSt) => ({ pending := p, fired := f, st := x } : NodeRun)
    let nodes : List GraphNode := [{ lpb := 1, npred := 0, succs := [1, 1] }, { lpb := 1, npred := 2, succs := [] }]
    let j := fun (a b : NodeRun) => (withJob (fun j => { j with nodes, runs := [a, b], phases := 2 }) id).jobOf 1
    let f := fun (a b : NodeRun) => (j a b).map (fun x => (fireNode x 0).runs.map (fun r => (r.pending, r.fired)))
    f (n 0 false .launched) (n 2 false .waiting) = some [(0, true), (0, false)] ∧ f (n 0 true .launched) (n 0 false .waiting) = some [(0, true), (0, false)]
      ∧ (∀ x, j (n 0 false .cancelled) (n 2 false .waiting) = some x → deadNode x 1) ∧ (∀ x, j (n 0 false .done) (n 0 false .done) = some x → phaseDone x)
      ∧ (match takeLaunch (withJob id id) (schedAgent 3) aJob (some 0) 1 0xFFFF with | (_, .refused 1) => true | _ => false) = true
      ∧ (withEntry 0).contractOf 2 = some (aContract none) := by
  refine ⟨?_, ?_, ?_, ?_, ?_, ?_⟩
  · decide +kernel
  · decide +kernel
  · intro x hx; cases hx; exact ⟨0, _, _, by decide, rfl, rfl, rfl, rfl, by decide⟩
  · intro x hx; cases hx; unfold phaseDone; decide +kernel
  · decide +kernel
  · decide +kernel

/-- JobSteps: an entry with a job that has no contract. -/
theorem witness_BestEffortPop :
    let s := withBytes (withEntry 0x10000) 0x10014 [0xFF, 0xFF]
    (match popped s with | some (.ok none) => true | _ => false) = true ∧ (s.sched.queues[1]?).getD [] ≠ [] ∧ (s.sched.queues[0]?).getD [] = [] := by decide +kernel

/-- A launch parameter block of one gang of `w` units, at 0x20000, in the context of a job that the scheduler reads for. -/
def withBlock (w gangs scratch : Nat) : State :=
  let s := withJob id id
  let s := { s with tlb := [page (schedAgent 3).who.cluster], cur := Strand.reset }
  withBytes (withBytes s 0x20000 (bytesOfNat 8 0x4000)) 0x20010 (bytesOfNat 16 (gangs + w * 2 ^ 32 + scratch * 2 ^ 64 + 0xFFFF * 2 ^ 112))

/-- LaunchResults: blocks in rule and out, of no gang and of one; another layout; one misaligned; one that cannot be read. -/
theorem witness_LaunchSteps :
    let take := fun (s : State) (a : Word) => (takeLaunch s (schedAgent 3) aJob none a 0).2
    let l := withBlock 1 1 0x1000
    take l 0x20000 = .placed 1 ∧ take (withBlock 1 0 0) 0x20000 = .empty 1 ∧ take (withBlock 9 1 0) 0x20000 = .refused 1 ∧ take (withBlock 1 1 0x800) 0x20000 = .refused 1
      ∧ take { l with pkg := { l.pkg with layoutGen := 5 } } 0x20000 = .refused 2 ∧ take l 0x20001 = .refused 1 ∧ take { l with tlb := [] } 0x20000 = .refused 1
      ∧ (l.launchOf l.sched.nextHandle).isNone = true := by decide +kernel

/-- LaunchResults: TRIGGER of the last unit that has not triggered, with its job and without. -/
theorem witness_LastTrigger :
    let n : NodeRun := { pending := 0, fired := false, st := .launched }
    let s := withJob (fun j => { j with nodes := [{ lpb := 0, npred := 0, succs := [] }], runs := [n] }) (fun l => { l with node := some 0, triggered := [1] })
    ready (.trigger (r 0 0 0)) s = true ∧ (s.launchOfUnit s.cur).map (fun l => (l.node, l.fired, l.triggered, l.units)) = some (some 0, false, [1], 2) ∧ (s.jobOf 1).isSome = true
      ∧ nextWith (exec (.trigger (r 0 0 0)) s) (fun t => (t.launchOf 7).map (·.fired) == some true && (t.jobOf 1).map (fun j => j.runs.map (·.fired)) == some [true]) = true := by decide +kernel

/-- PlacementSteps: a gang of one seat, empty slots, records and none, and the order of the clusters after one placement; the lowest base beside a reservation. -/
theorem witness_GangOrder :
    let s := { withGang 0 256 with cur := Strand.reset }
    let l := aLaunch
    let w : GangWait := { handle := 7, gang := 0, fails := 0, due := 0, back := [], gone := [] }
    let after := { s with sched := { s.sched with lastCluster := s.sched.lastCluster.setIfInBounds 0 (some 7) } }
    let got := fun (s : State) (d : Nat) => (tryDie s l w d).map (fun t => t.sched.lastCluster.toList)
    ((seatsOf s l w).1.map (·.pos), (seatsOf s l w).2.isNone) = ([0], true) ∧ l.contract = none ∧ (freeRecords s).head? = some 0x02000000 ∧ freeRecords (withGang 0 0) = []
      ∧ got s 0 = some [some 0, none] ∧ got s 1 = some [none, some 8] ∧ got after 0 = some [some 0, none]
      ∧ got { s with sched := { s.sched with lastCluster := s.sched.lastCluster.setIfInBounds 0 (some 2) } } 0 = some [some 3, none] ∧ got (withGang 0 0) 0 = none
      ∧ (placeIn s l [{ pos := 0, saved := none }] none 3).map (fun p => p.map (fun x => (x.2.1.core, x.2.2))) = some [(24, 0)]
      ∧ (seatOn (withGang 0 256) l 0 { pos := 0, saved := none }).isNone = true ∧ (seatOn (withGang 0 256) { l with contract := some 2, scratch := 0x1000 } 0 { pos := 0, saved := none }).map (·.2) = some 0
      ∧ (s.jobOf l.job).isSome = true ∧ victims s l { core := 24, slot := 0 } 0 l.scratch = [] := by
  refine ⟨?_, ?_, ?_, ?_, ?_, ?_, ?_, ?_, ?_, ?_, ?_, ?_, ?_, ?_⟩ <;> decide +kernel

/-- A descriptor in rule with some bytes of it replaced: two banks of channel 0 named, one word, every object none. -/
def descWith (l : List (Nat × Byte)) : List Byte :=
  let r := List.replicate 256 (0 : Byte)
  let base : List (Nat × Byte) := [(0, 1), (8, 1), (10, 3), (0x18, 1)] ++ (List.range 20).map (fun k => (0x2C + k, 0xFF))
  (base ++ l).foldl (fun r p => r.set p.1 p.2) r

/-- CommandIssue; R371: what is judged of descriptors and bodies that break one check each, from the second to the tenth and none: a reserved byte, no bank, a broadcast without
    bytes; an OP that is not assigned; a table of 16,384 entries of four tokens; an object there is not; a result row without its object; a channel out of use, and fenced;
    a row past the bank; LUACC 4,000 times. -/
theorem test_statuses :
    let s := conductor []
    let st := fun (s : State) (l : List (Nat × Byte)) (body : List Word32) => (judge s (descWith l) (cmdOfDesc (descWith l) body)).1
    st s [] [0] = 0 ∧ st s [(9, 1)] [0] = 2 ∧ st s [(10, 0)] [0] = 2 ∧ st s [(0x20, 64)] [0] = 2 ∧ st s [] [63] = 3
      ∧ st s [] [1 + 1 * 2 ^ 26 + 6 * 2 ^ 23 + 3 * 2 ^ 17] = 4 ∧ st s [(0x2C, 5), (0x2D, 0), (0x2E, 0), (0x2F, 0)] [0] = 5 ∧ st s [] [8] = 6
      ∧ st (onPkg s (fun p => { p with chActive := 0 })) [] [0] = 7 ∧ st (onPkg s (fun p => { p with chFenced := 1 })) [] [0] = 8
      ∧ st s [(0x42, 0x30)] [5] = 9 ∧ st s [(0x41, 0x10)] [5] = 0 ∧ st s [(0x50, 200)] [5] = 10 := by decide +kernel

end Sys2Proof.Tests
end

section
/-! PROOFS. What the word operations of the scalar instructions compute (R281 to R285): each function that a meaning names, in the terms of the rule. -/

namespace Sys2Proof.Scalar

open Sys2Proof Sys2Proof.Machine Sys2Proof.Claims

/-! ### Shifts, comparisons, extensions (R281, R283) -/

/-- R281: the shift amount is the field b[5:0]. -/
theorem shiftOf_eq (b : Word) : shiftOf b = (b.extractLsb' 0 6).toNat := by
  simp [shiftOf]

/-- A rotation by less than the width is two shifts. -/
theorem rotRight_shiftOf (a b : Word) :
    rotRight a (shiftOf b) = a >>> (b.extractLsb' 0 6).toNat ||| a <<< (64 - (b.extractLsb' 0 6).toNat) := by
  rw [shiftOf_eq, rotRight, BitVec.rotateRight_def, Nat.mod_eq_of_lt (b.extractLsb' 0 6).isLt]

theorem boolWord_slt (a b : Word) : boolWord (a.slt b) = if a.toInt < b.toInt then 1 else 0 := by
  simp [boolWord, BitVec.slt_iff_toInt_lt]

theorem boolWord_ult (a b : Word) : boolWord (a.ult b) = if a.toNat < b.toNat then 1 else 0 := by
  simp [boolWord, BitVec.ult]

theorem ite_slt (a b x y : Word) : (if a.slt b = true then x else y) = if a.toInt < b.toInt then x else y := by
  simp [BitVec.slt_iff_toInt_lt]

theorem ite_ult (a b x y : Word) : (if a.ult b = true then x else y) = if a.toNat < b.toNat then x else y := by
  simp [BitVec.ult]

theorem mul_eq_ofNat (a b : Word) : a * b = BitVec.ofNat 64 (a.toNat * b.toNat) :=
  BitVec.eq_of_toNat_eq (BitVec.toNat_mul a b)

/-- The sign extension of R10 is the signed value of the low bits. -/
theorem sextNat_eq_toInt (n x : Nat) : sextNat n x = (BitVec.ofNat n x).toInt := by
  simp [sextNat, BitVec.toInt_eq_toNat_cond]

theorem sextWord_eq (n : Nat) (a : Word) : sextWord n a = (a.setWidth n).signExtend 64 := by
  rw [sextWord, sextNat_eq_toInt, BitVec.signExtend, BitVec.ofNat_toNat]

theorem zextWord_eq (n : Nat) (a : Word) : zextWord n a = (a.setWidth n).setWidth 64 := by
  apply BitVec.eq_of_toNat_eq
  simp [zextWord]

/-! ### Division (R282) -/

theorem eq_intMin_iff (a : Word) : a = BitVec.intMin 64 ↔ a.toInt = -2 ^ 63 := by
  rw [← BitVec.toInt_inj, show (BitVec.intMin 64).toInt = -2 ^ 63 by decide]

theorem eq_allOnes_iff (b : Word) : b = BitVec.allOnes 64 ↔ b.toInt = -1 := by
  rw [← BitVec.toInt_inj, show (BitVec.allOnes 64).toInt = -1 by decide]

/-- R282: the signed quotient of the rule, with its saturating corners. -/
theorem divSigned_eq (a b : Word) : divSigned a b = BitVec.ofInt 64 (signedQuotient a b) := by
  simp only [divSigned, signedQuotient, eq_intMin_iff, eq_allOnes_iff]
  split_ifs with hb ha hneg hcorner
  · rfl
  · rfl
  · rfl
  · rfl
  · have h : a ≠ BitVec.intMin 64 ∨ b ≠ -1 := by
      rw [Ne, Ne, eq_intMin_iff, show (-1 : Word) = BitVec.allOnes 64 from rfl, eq_allOnes_iff]
      exact not_and_or.mp hcorner
    rw [← BitVec.toInt_sdiv_of_ne_or_ne a b h, BitVec.ofInt_toInt]

/-- R282: the signed remainder of the rule; the remainder of the one quotient that saturates is 0. -/
theorem remSigned_eq (a b : Word) :
    remSigned a b = if b = 0 then a else if a.toInt = -2 ^ 63 ∧ b.toInt = -1 then 0 else BitVec.ofInt 64 (a.toInt.tmod b.toInt) := by
  have hmod : a.srem b = BitVec.ofInt 64 (a.toInt.tmod b.toInt) := by
    rw [← BitVec.toInt_srem, BitVec.ofInt_toInt]
  unfold remSigned
  split_ifs with hb hcorner
  · rfl
  · obtain ⟨ha, hb⟩ := hcorner
    rw [hmod, ha, hb]; rfl
  · exact hmod

theorem divUnsigned_eq (a b : Word) :
    divUnsigned a b = if b = 0 then (if a = 0 then 0 else BitVec.allOnes 64) else BitVec.ofNat 64 (a.toNat / b.toNat) := by
  rw [divUnsigned, BitVec.udiv_def]

theorem remUnsigned_eq (a b : Word) : remUnsigned a b = if b = 0 then a else BitVec.ofNat 64 (a.toNat % b.toNat) := by
  rw [remUnsigned, BitVec.umod_def]

/-! ### Counting and moving bits (R281) -/

theorem bitLen_le {n k : Nat} (h : n < 2 ^ k) : bitLen n ≤ k := by
  unfold bitLen
  split
  · omega
  · next hn => exact (Nat.log2_lt hn).mpr h

theorem lt_two_pow_bitLen (n : Nat) : n < 2 ^ bitLen n := by
  unfold bitLen
  split
  · omega
  · exact Nat.lt_log2_self

/-- The highest significant bit of a number is set. -/
theorem testBit_bitLen {n : Nat} (h : 0 < bitLen n) : n.testBit (bitLen n - 1) = true := by
  have hn : n ≠ 0 := by rintro rfl; simp [bitLen] at h
  simpa [bitLen, hn] using Nat.testBit_log2 hn

/-- R281: CLZ counts the zeros above the highest bit set. -/
theorem clz64_spec (a : Word) :
    (clz64 a).toNat ≤ 64 ∧ a.toNat < 2 ^ (64 - (clz64 a).toNat)
      ∧ ((clz64 a).toNat < 64 → a.getLsbD (63 - (clz64 a).toNat) = true) := by
  have hlen : bitLen a.toNat ≤ 64 := bitLen_le a.isLt
  have hval : (clz64 a).toNat = 64 - bitLen a.toNat := by
    rw [clz64, BitVec.toNat_ofNat]; omega
  rw [hval]
  refine ⟨by omega, ?_, fun h => ?_⟩
  · rw [show 64 - (64 - bitLen a.toNat) = bitLen a.toNat by omega]
    exact lt_two_pow_bitLen _
  · rw [show 63 - (64 - bitLen a.toNat) = bitLen a.toNat - 1 by omega]
    exact testBit_bitLen (by omega)

/-- The search from i up over k bits stops at the first bit set, or at i + k. -/
theorem lowestSet_spec (x k i : Nat) :
    lowestSet x k i ≤ i + k ∧ (∀ j, i ≤ j → j < lowestSet x k i → x.testBit j = false)
      ∧ (lowestSet x k i < i + k → x.testBit (lowestSet x k i) = true) := by
  induction k generalizing i with
  | zero => simp only [lowestSet]; exact ⟨by omega, fun j _ _ => by omega, by omega⟩
  | succ k ih =>
    simp only [lowestSet]
    split
    · next hi => exact ⟨by omega, fun j _ _ => by omega, fun _ => hi⟩
    · next hi =>
      obtain ⟨hle, hzero, hone⟩ := ih (i + 1)
      refine ⟨by omega, fun j hij hj => ?_, fun h => hone (by omega)⟩
      rcases Nat.eq_or_lt_of_le hij with rfl | hlt
      · simpa using hi
      · exact hzero j hlt hj

/-- R281: CTZ counts the zeros below the lowest bit set. -/
theorem ctz64_spec (a : Word) :
    (ctz64 a).toNat ≤ 64 ∧ (∀ j, j < (ctz64 a).toNat → a.getLsbD j = false)
      ∧ ((ctz64 a).toNat < 64 → a.getLsbD (ctz64 a).toNat = true) := by
  obtain ⟨hle, hzero, hone⟩ := lowestSet_spec a.toNat 64 0
  have hval : (ctz64 a).toNat = lowestSet a.toNat 64 0 := by
    rw [ctz64, BitVec.toNat_ofNat]; omega
  rw [hval]
  exact ⟨by omega, fun j hj => hzero j (Nat.zero_le j) hj, fun h => hone (by omega)⟩

theorem popCount_eq (x k : Nat) : popCount x k = ((List.range k).filter x.testBit).length := by
  induction k with
  | zero => rfl
  | succ k ih =>
    rw [popCount, ih, List.range_succ, List.filter_append, List.length_append]
    cases hk : x.testBit k <;> simp [hk, Nat.add_comm]

/-- R281: POPC counts the bits set. -/
theorem popCount_spec (a : Word) : (BitVec.ofNat 64 (popCount a.toNat 64)).toNat = ((List.range 64).filter a.getLsbD).length := by
  have hle : ((List.range 64).filter a.getLsbD).length ≤ 64 := by
    simpa using List.length_filter_le a.getLsbD (List.range 64)
  rw [BitVec.toNat_ofNat, popCount_eq]
  exact Nat.mod_eq_of_lt (by change ((List.range 64).filter a.getLsbD).length < _; omega)

/-- After k bits, the reversal holds nothing below bit 64 - k. -/
theorem dvd_revBits (x : Nat) {k : Nat} (hk : k ≤ 64) : 2 ^ (64 - k) ∣ revBits x k := by
  induction k with
  | zero => simp [revBits]
  | succ k ih =>
    rw [revBits, show 64 - (k + 1) = 63 - k by omega]
    refine Nat.dvd_add ?_ ((Nat.pow_dvd_pow 2 (by omega)).trans (ih (by omega)))
    split
    · exact dvd_rfl
    · exact dvd_zero _

/-- After k bits, the top k bits of the reversal are those k bits, the lowest highest. -/
theorem testBit_revBits (x : Nat) {k : Nat} (hk : k ≤ 64) (j : Nat) (hj : j < 64) :
    (revBits x k).testBit j = (decide (64 - k ≤ j) && x.testBit (63 - j)) := by
  induction k with
  | zero => simp [revBits]; omega
  | succ k ih =>
    obtain ⟨q, hq⟩ := dvd_revBits x (show k ≤ 64 by omega)
    have hbit : (if x.testBit k then 2 ^ (63 - k) else 0) < 2 ^ (64 - k) := by
      split
      · exact Nat.pow_lt_pow_right (by omega) (by omega)
      · positivity
    have ih := ih (by omega)
    rw [hq, Nat.testBit_two_pow_mul] at ih
    rw [revBits, hq, Nat.add_comm, Nat.testBit_two_pow_mul_add _ hbit]
    split
    · next hlow =>
      rcases Nat.lt_or_ge j (63 - k) with hlt | hge
      · have hbelow : ¬ 64 - (k + 1) ≤ j := by omega
        rw [decide_eq_false hbelow, Bool.false_and]
        split <;> simp [Nat.testBit_two_pow_of_ne hlt.ne']
      · obtain rfl : j = 63 - k := by omega
        cases hx : x.testBit k <;> simp [show 63 - (63 - k) = k by omega, hx]
    · next hhigh =>
      have htop : 64 - k ≤ j ∧ 64 - (k + 1) ≤ j := by omega
      simpa only [htop.1, htop.2, decide_true, Bool.true_and] using ih

/-- R281: BREV puts bit 63 - j at bit j. -/
theorem brev_spec (a : Word) (j : Nat) (hj : j < 64) :
    (BitVec.ofNat 64 (revBits a.toNat 64)).getLsbD j = a.getLsbD (63 - j) := by
  rw [BitVec.getLsbD_ofNat, testBit_revBits _ le_rfl j hj]
  simp [hj, BitVec.testBit_toNat]

/-! ### Bytes reversed (R281) -/

/-- Bit i of a little-endian number is bit i % 8 of its byte i / 8. -/
theorem testBit_natOfBytes (l : List Byte) (i : Nat) : (natOfBytes l).testBit i = ((l[i / 8]?).getD 0).getLsbD (i % 8) := by
  induction l generalizing i with
  | nil => simp [natOfBytes]
  | cons b bs ih =>
    rw [natOfBytes, Nat.add_comm, show (256 : Nat) = 2 ^ 8 from rfl, Nat.testBit_two_pow_mul_add _ b.isLt]
    split
    · next h => simp [Nat.div_eq_of_lt h, Nat.mod_eq_of_lt h, BitVec.testBit_toNat]
    · next h =>
      have hdiv : i / 8 = (i - 8) / 8 + 1 := by omega
      rw [ih, hdiv, List.getElem?_cons_succ, show (i - 8) % 8 = i % 8 by omega]

theorem length_bytesOfNat (n x : Nat) : (bytesOfNat n x).length = n := by
  induction n generalizing x with
  | zero => rfl
  | succ n ih => simp [bytesOfNat, ih]

theorem getElem?_bytesOfNat {n k : Nat} (h : k < n) (x : Nat) : (bytesOfNat n x)[k]? = some (BitVec.ofNat 8 (x / 2 ^ (8 * k))) := by
  induction n generalizing k x with
  | zero => omega
  | succ n ih =>
    cases k with
    | zero => simp [bytesOfNat]
    | succ k =>
      rw [bytesOfNat, List.getElem?_cons_succ, ih (by omega), Nat.div_div_eq_div_mul, Nat.mul_succ, Nat.pow_add', show 256 = 2 ^ 8 from rfl]

/-- R281: BSWAP puts byte 7 - j at byte j. -/
theorem revBytes_spec (a : Word) (j : Nat) (hj : j < 8) : (revBytes a).extractLsb' (8 * j) 8 = a.extractLsb' (8 * (7 - j)) 8 := by
  apply BitVec.eq_of_getLsbD_eq
  intro i hi
  have hbyte : (bytesOfNat 8 a.toNat).reverse[j]? = some (BitVec.ofNat 8 (a.toNat / 2 ^ (8 * (7 - j)))) := by
    rw [List.getElem?_reverse (by rwa [length_bytesOfNat]), length_bytesOfNat]
    exact getElem?_bytesOfNat (by omega) _
  rw [BitVec.getLsbD_extractLsb', BitVec.getLsbD_extractLsb', revBytes, BitVec.getLsbD_ofNat, testBit_natOfBytes,
    show (8 * j + i) / 8 = j by omega, show (8 * j + i) % 8 = i by omega, hbyte, Option.getD_some, BitVec.getLsbD_ofNat,
    Nat.testBit_div_two_pow, BitVec.testBit_toNat, Nat.add_comm i]
  simp [hi, show 8 * j + i < 64 by omega]

/-! ### Carry-less products (R281) -/

/-- Bit j of the carry-less product of the n low bits of b with a. -/
theorem testBit_clmulNat (n a b j : Nat) :
    (clmulNat n a b).testBit j = (List.range n).foldl (fun acc i => acc ^^ (b.testBit i && decide (i ≤ j) && a.testBit (j - i))) false := by
  induction n with
  | zero => simp [clmulNat]
  | succ n ih =>
    rw [clmulNat, Nat.testBit_xor, ih, List.range_succ, List.foldl_append, Bool.xor_comm]
    cases hb : b.testBit n <;> simp [hb, Nat.testBit_mul_two_pow]

theorem testBit_clmul128 (a b : Word) (j : Nat) : (clmul128 a b).testBit j = clmulBit a b j :=
  testBit_clmulNat 64 a.toNat b.toNat j

theorem clmul_spec (a b : Word) (j : Nat) (hj : j < 64) : (BitVec.ofNat 64 (clmul128 a b)).getLsbD j = clmulBit a b j := by
  rw [BitVec.getLsbD_ofNat, testBit_clmul128, decide_eq_true hj, Bool.true_and]

theorem clmulh_spec (a b : Word) (j : Nat) (hj : j < 64) :
    (BitVec.ofNat 64 (clmul128 a b / 2 ^ 64)).getLsbD j = clmulBit a b (64 + j) := by
  rw [BitVec.getLsbD_ofNat, Nat.testBit_div_two_pow, testBit_clmul128, decide_eq_true hj, Bool.true_and, Nat.add_comm]

/-! ### Fields (R284) -/

theorem natBits_eq (b : Word) (hi lo : Nat) : natBits b.toNat hi lo = (b.extractLsb' lo (hi + 1 - lo)).toNat := by
  simp [natBits, Nat.shiftRight_eq_div_pow]

/-- R284: EXTR takes len bits of a from bit lo up, and extends them by the sign when b[15] is set. -/
theorem extract_spec (a b : Word) (j : Nat) (hj : j < 64) :
    (extract a b).getLsbD j = (if j < (b.extractLsb' 8 6).toNat + 1 then a.getLsbD ((b.extractLsb' 0 6).toNat + j)
      else b.getLsbD 15 && a.getLsbD ((b.extractLsb' 0 6).toNat + ((b.extractLsb' 8 6).toNat + 1) - 1)) := by
  simp only [extract, natBits_eq]
  generalize (b.extractLsb' 0 6).toNat = lo
  generalize (b.extractLsb' 8 6).toNat = m
  have hfield (i : Nat) : (a.toNat / 2 ^ lo % 2 ^ (m + 1)).testBit i = (decide (i < m + 1) && a.getLsbD (lo + i)) := by
    rw [Nat.testBit_mod_two_pow, Nat.testBit_div_two_pow, BitVec.testBit_toNat, Nat.add_comm i]
  split
  · next hsign =>
    rw [sextNat_eq_toInt, ← BitVec.signExtend, BitVec.getLsbD_signExtend, BitVec.msb_eq_getLsbD_last, hsign]
    simp only [decide_eq_true hj, Bool.true_and, BitVec.getLsbD_ofNat, hfield]
    split
    · next hin => simp [hin]
    · simp [← Nat.add_assoc]
  · next hzero =>
    rw [BitVec.getLsbD_ofNat, hfield, decide_eq_true hj, Bool.true_and, eq_false_of_ne_true hzero]
    split
    · next hin => simp [hin]
    · next hout => simp [hout]

/-- R284: INSR puts len low bits of a into d from bit lo up. -/
theorem insertField_spec (d a b : Word) (j : Nat) (hj : j < 64) :
    (insertField d a b).getLsbD j = (if (b.extractLsb' 0 6).toNat ≤ j ∧ j < (b.extractLsb' 0 6).toNat + ((b.extractLsb' 8 6).toNat + 1)
      then a.getLsbD (j - (b.extractLsb' 0 6).toNat) else d.getLsbD j) := by
  simp only [insertField, maskedWrite, natBits_eq]
  generalize (b.extractLsb' 0 6).toNat = lo
  generalize (b.extractLsb' 8 6).toNat = m
  simp only [BitVec.getLsbD_or, BitVec.getLsbD_and, BitVec.getLsbD_not, BitVec.getLsbD_ofNat, Nat.testBit_mul_two_pow,
    Nat.testBit_two_pow_sub_one, BitVec.testBit_toNat, decide_eq_true hj, Bool.true_and]
  by_cases hlo : lo ≤ j <;> by_cases hhi : j < lo + (m + 1)
  · have : j - lo < m + 1 := by omega
    simp [*]
  · have : ¬ j - lo < m + 1 := by omega
    simp [*]
  · simp [*]
  · simp [*]

end Sys2Proof.Scalar
end

section
/-! PROOFS. From a ready instruction to the value it writes: the register-only scalar instructions (R281 to R285). -/

namespace Sys2Proof.Scalar

open Sys2Proof Sys2Proof.Machine Sys2Proof.Claims

/-- A ready instruction is alone in its convoy. -/
theorem alone_of_ready {i : Instr} {s : State} (h : ready i s = true) : alone s.cur = true := by
  simp only [ready, Bool.and_eq_true] at h
  exact h.1.1

/-- A ready instruction of a major without element types ends as its effect does. -/
theorem exec_of_ready {i : Instr} {v : View} {s : State} {op : View → State → Eff} (hv : i.view = some v)
    (ht : Check.isTyped v.major = false) (he : exec i s = guarded (some v) s op) (h : ready i s = true) :
    exec i s = finish v s (op v s) := by
  have hb : baseTyped v = false := by simp [baseTyped, ht]
  rw [he, guarded_of_ready hv h, effective, hb, Bool.false_and, if_neg Bool.false_ne_true]

/-- An R-form instruction, when ready, writes s[D] with a function of s[A] and s[B] and completes. -/
def Computes (c : RF → Instr) (f : Word → Word → Word) : Prop :=
  ∀ (r : RF) (s : State), ready (c r) s = true →
    exec (c r) s = .next (completed (c r) s (s.setReg r.d.toNat (f (s.cur.reg r.a.toNat) (s.cur.reg r.b.toNat))))

/-- An R-form instruction that only computes a register, when ready, writes s[D] and completes. -/
theorem exec_of_regOp {c : RF → Instr} (m n : Nat) (f : Strand → View → Word) {r : RF} {s : State} (h : ready (c r) s = true)
    (hv : ∀ r, (c r).view = some (r.view m n) := by intros; rfl)
    (he : ∀ r s, exec (c r) s = guarded (some (r.view m n)) s (regOp f) := by intros; rfl) (ht : Check.isTyped m = false := by rfl) :
    exec (c r) s = .next (completed (c r) s (s.setReg r.d.toNat (f s.cur (r.view m n)))) := by
  have hb : baseTyped (r.view m n) = false := by simp [baseTyped, RF.view, ht]
  rw [he, guarded_regOp (hv r) h hb]
  rfl

/-- An instruction of major `m` and FN `n` whose meaning is `binary g` computes every function that agrees with `g`. -/
theorem computes_of_binary {c : RF → Instr} (m n : Nat) {g f : Word → Word → Word} (hg : ∀ a b, g a b = f a b)
    (hv : ∀ r, (c r).view = some (r.view m n) := by intros; rfl)
    (he : ∀ r s, exec (c r) s = guarded (some (r.view m n)) s (binary g) := by intros; rfl) (ht : Check.isTyped m = false := by rfl) :
    Computes c f := by
  intro r s h
  rw [exec_of_regOp m n _ h hv he ht]
  exact congrArg (fun x => Host.Outcome.next (completed (c r) s (s.setReg r.d.toNat x))) (hg _ _)

theorem computes_of_unary {c : RF → Instr} (m n : Nat) {g : Word → Word} {f : Word → Word → Word} (hg : ∀ a b, g a = f a b)
    (hv : ∀ r, (c r).view = some (r.view m n) := by intros; rfl)
    (he : ∀ r s, exec (c r) s = guarded (some (r.view m n)) s (unary g) := by intros; rfl) (ht : Check.isTyped m = false := by rfl) :
    Computes c f :=
  computes_of_binary m n (g := fun a _ => g a) hg hv he ht

/-- R281, R283: every row of the table is the meaning of its instruction. -/
theorem computes_of_mem_aluTable : ∀ p ∈ aluTable, Computes p.1 p.2 := by
  simp only [aluTable, List.forall_mem_cons]
  refine ⟨?add, ?sub, ?and, ?or, ?xor, ?andn, ?sll, ?srl, ?sra, ?ror, ?slt, ?sltu, ?min, ?max, ?minu, ?maxu, ?mul, ?mulh, ?mulhu,
    ?sextB, ?sextH, ?sextW, ?zextB, ?zextH, ?zextW, List.forall_mem_nil _⟩
  case add => exact computes_of_binary 0 0 (fun _ _ => rfl)
  case sub => exact computes_of_binary 0 1 (fun _ _ => rfl)
  case and => exact computes_of_binary 0 2 (fun _ _ => rfl)
  case or => exact computes_of_binary 0 3 (fun _ _ => rfl)
  case xor => exact computes_of_binary 0 4 (fun _ _ => rfl)
  case andn => exact computes_of_binary 0 5 (fun _ _ => rfl)
  case sll => exact computes_of_binary 0 6 (fun a b => congrArg (a <<< ·) (shiftOf_eq b))
  case srl => exact computes_of_binary 0 7 (fun a b => congrArg (a >>> ·) (shiftOf_eq b))
  case sra => exact computes_of_binary 0 8 (fun a b => congrArg a.sshiftRight (shiftOf_eq b))
  case ror => exact computes_of_binary 0 9 rotRight_shiftOf
  case slt => exact computes_of_binary 0 10 boolWord_slt
  case sltu => exact computes_of_binary 0 11 boolWord_ult
  case min => exact computes_of_binary 0 12 (fun a b => ite_slt b a b a)
  case max => exact computes_of_binary 0 13 (fun a b => ite_slt a b b a)
  case minu => exact computes_of_binary 0 14 (fun a b => ite_ult b a b a)
  case maxu => exact computes_of_binary 0 15 (fun a b => ite_ult a b b a)
  case mul => exact computes_of_binary 0 16 mul_eq_ofNat
  case mulh => exact computes_of_binary 0 17 (fun _ _ => rfl)
  case mulhu => exact computes_of_binary 0 18 (fun _ _ => rfl)
  case sextB => exact computes_of_unary 1 0 (fun a _ => sextWord_eq 8 a)
  case sextH => exact computes_of_unary 1 1 (fun a _ => sextWord_eq 16 a)
  case sextW => exact computes_of_unary 1 2 (fun a _ => sextWord_eq 32 a)
  case zextB => exact computes_of_unary 1 3 (fun a _ => zextWord_eq 8 a)
  case zextH => exact computes_of_unary 1 4 (fun a _ => zextWord_eq 16 a)
  case zextW => exact computes_of_unary 1 5 (fun a _ => zextWord_eq 32 a)

theorem aluResults : AluResults := computes_of_mem_aluTable

/-- R282: the four divisions. -/
theorem divisionResults : DivisionResults := by
  intro r s a b
  have hdiv : Computes .div _ := computes_of_binary 0 19 divSigned_eq
  have hrem : Computes .rem _ := computes_of_binary 0 21 remSigned_eq
  have hdivu : Computes .divu _ := computes_of_binary 0 20 divUnsigned_eq
  have hremu : Computes .remu _ := computes_of_binary 0 22 remUnsigned_eq
  exact ⟨hdiv r s, hrem r s, hdivu r s, hremu r s⟩

/-- An R-form instruction, when ready, completes with a value of s[D] that a relation allows for s[A] and s[B]. -/
def ComputesSome (c : RF → Instr) (rel : Word → Word → Word → Prop) : Prop :=
  ∀ (r : RF) (s : State), ready (c r) s = true →
    ∃ x, rel (s.cur.reg r.a.toNat) (s.cur.reg r.b.toNat) x ∧ exec (c r) s = .next (completed (c r) s (s.setReg r.d.toNat x))

theorem Computes.some {c : RF → Instr} {f : Word → Word → Word} (hc : Computes c f) {rel : Word → Word → Word → Prop}
    (hf : ∀ a b, rel a b (f a b)) : ComputesSome c rel :=
  fun r s h => ⟨_, hf _ _, hc r s h⟩

/-- R281: every row of the table holds of the value that its instruction computes. -/
theorem computesSome_of_mem_bitTable : ∀ p ∈ bitTable, ComputesSome p.1 p.2 := by
  simp only [bitTable, List.forall_mem_cons]
  refine ⟨?clz, ?ctz, ?popc, ?brev, ?bswap, ?clmul, ?clmulh, List.forall_mem_nil _⟩
  case clz => exact (computes_of_unary 0 23 fun _ _ => rfl).some (fun a _ => clz64_spec a)
  case ctz => exact (computes_of_unary 0 24 fun _ _ => rfl).some (fun a _ => ctz64_spec a)
  case popc => exact (computes_of_unary 0 25 fun _ _ => rfl).some (fun a _ => popCount_spec a)
  case brev => exact (computes_of_unary 0 26 fun _ _ => rfl).some (fun a _ => brev_spec a)
  case bswap => exact (computes_of_unary 0 27 fun _ _ => rfl).some (fun a _ => revBytes_spec a)
  case clmul => exact (computes_of_binary 0 28 (fun _ _ => rfl)).some clmul_spec
  case clmulh => exact (computes_of_binary 0 29 (fun _ _ => rfl)).some clmulh_spec

/-- R284, R285: EXTR, INSR and CSEL. -/
theorem fieldResults : FieldResults := by
  intro r s a b d lo len
  refine ⟨fun h => ⟨extract a b, extract_spec a b, ?extr⟩, fun h => ⟨insertField d a b, insertField_spec d a b, ?insr⟩, fun h => ?csel⟩
  case extr => exact exec_of_regOp 1 6 (fun t v => extract (t.reg v.a) (t.reg v.b)) h
  case insr => exact exec_of_regOp 1 7 (fun t v => insertField (t.reg v.d) (t.reg v.a) (t.reg v.b)) h
  case csel => exact exec_of_regOp 1 8 (fun t v => if t.reg v.d ≠ 0 then t.reg v.a else t.reg v.b) h

/-- Settles O1: each row of the tables of R281 to R285 is the meaning of its instruction. -/
theorem scalarArithmetic : Obligations.ScalarArithmetic :=
  ⟨aluResults, divisionResults, computesSome_of_mem_bitTable, fieldResults⟩

end Sys2Proof.Scalar
end

section
/-! PROOFS. Where branches and jumps go (R290, R291). -/

namespace Sys2Proof.Scalar

open Sys2Proof Sys2Proof.Machine Sys2Proof.Claims

/-- Offsets count words of four bytes. -/
theorem shiftLeft_two (x : Word) : x <<< 2 = x * 4 := by
  rw [BitVec.shiftLeft_eq_mul_twoPow]; rfl

theorem not_slt_iff (a b : Word) : (!a.slt b) = true ↔ b.toInt ≤ a.toInt := by simp [BitVec.slt]

theorem not_ult_iff (a b : Word) : (!a.ult b) = true ↔ b.toNat ≤ a.toNat := by simp [BitVec.ult]

/-- R291: the mask that JALR applies tests t[1:0]. -/
theorem and_three_eq_zero_iff (t : Word) : t &&& 3 = 0 ↔ t.extractLsb' 0 2 = 0 := by
  rw [← BitVec.toNat_inj, ← BitVec.toNat_inj, BitVec.toNat_and, BitVec.extractLsb'_toNat, show (3 : Word).toNat = 2 ^ 2 - 1 from rfl,
    Nat.and_two_pow_sub_one_eq_mod, Nat.shiftRight_zero]
  rfl

/-- R290: a B-form instruction, when ready, goes to its target when a relation holds of s[A] and s[B], else on. -/
def Branches (c : BF → Instr) (rel : Word → Word → Prop) : Prop :=
  ∀ (w : BF) (s : State), ready (c w) s = true →
    (rel (s.cur.reg w.a.toNat) (s.cur.reg w.b.toNat) →
      exec (c w) s = .next (jumped (c w) s s (s.cur.pc + w.off.signExtend 64 * 4)))
    ∧ (¬ rel (s.cur.reg w.a.toNat) (s.cur.reg w.b.toNat) → exec (c w) s = .next (completed (c w) s s))

theorem branch_view (test : Word → Word → Bool) (w : BF) (m : Nat) (s : State) :
    branch test (w.view m) s =
      if test (s.cur.reg w.a.toNat) (s.cur.reg w.b.toNat) then .jump s (s.cur.pc + w.off.signExtend 64 * 4) else .ok s := by
  rw [← shiftLeft_two]; rfl

/-- An instruction of major `m` whose meaning is `branch test` branches on every relation that the test decides. -/
theorem branches_of_branch {c : BF → Instr} (m : Nat) {test : Word → Word → Bool} {rel : Word → Word → Prop}
    (hrel : ∀ a b, test a b = true ↔ rel a b) (hv : ∀ w, (c w).view = some (w.view m) := by intros; rfl)
    (he : ∀ w s, exec (c w) s = guarded (some (w.view m)) s (branch test) := by intros; rfl) (ht : Check.isTyped m = false := by rfl) :
    Branches c rel := by
  intro w s h
  have ha := alone_of_ready h
  have hview : viewOf (c w) = w.view m := by rw [viewOf, hv w, Option.getD_some]
  rw [exec_of_ready (hv w) ht (he w s) h, branch_view, ← hrel, jumped, completed, hview]
  refine ⟨fun htaken => ?_, fun hnot => ?_⟩
  · rw [if_pos htaken, finish_jump ha]
  · rw [if_neg hnot, finish_ok ha]; rfl

/-- R290: every row of the table is the relation of its branch. -/
theorem branches_of_mem_branchRel : ∀ p ∈ branchRel, Branches p.1 p.2 := by
  simp only [branchRel, List.forall_mem_cons]
  refine ⟨?beq, ?bne, ?blt, ?bge, ?bltu, ?bgeu, List.forall_mem_nil _⟩
  case beq => exact branches_of_branch 12 (fun _ _ => beq_iff_eq)
  case bne => exact branches_of_branch 13 (fun _ _ => bne_iff_ne)
  case blt => exact branches_of_branch 14 (fun _ _ => BitVec.slt_iff_toInt_lt)
  case bge => exact branches_of_branch 15 not_slt_iff
  case bltu => exact branches_of_branch 16 (fun _ _ => BitVec.ult_iff_lt)
  case bgeu => exact branches_of_branch 17 not_ult_iff

/-- R291: JAL that is ready jumps. -/
theorem exec_jal (j : JF) (s : State) (h : ready (.jal j) s = true) :
    exec (.jal j) s = .next (jumped (.jal j) s (s.setReg j.d.toNat (s.cur.pc + 4)) (s.cur.pc + j.off.signExtend 64 * 4)) := by
  rw [exec_of_ready (v := j.view 18) (op := jumpLink) rfl rfl rfl h, jumpLink, finish_jump (alone_of_ready h), shiftLeft_two]
  rfl

/-- R291: JALR that is ready jumps, or traps at a target that is no multiple of 4. -/
theorem exec_jalr (i : IF) (s : State) (h : ready (.jalr i) s = true) :
    let t := s.cur.reg i.a.toNat + i.imm.signExtend 64 * 4
    (t.extractLsb' 0 2 = 0 → exec (.jalr i) s = .next (jumped (.jalr i) s (s.setReg i.d.toNat (s.cur.pc + 4)) t))
    ∧ (t.extractLsb' 0 2 ≠ 0 → exec (.jalr i) s = .next (trapped s s 3 t)) := by
  intro t
  have ha := alone_of_ready h
  have ht : s.cur.reg (i.view 19).a + (i.view 19).imm.signExtend 64 <<< 2 = t := by rw [shiftLeft_two]; rfl
  rw [exec_of_ready (v := i.view 19) (op := jumpReg) rfl rfl rfl h, jumpReg, ht]
  simp only [ne_eq, ← and_three_eq_zero_iff]
  refine ⟨fun haligned => ?_, fun hmisaligned => ?_⟩
  · rw [if_neg (not_not_intro haligned), finish_jump ha]; rfl
  · rw [if_pos hmisaligned, finish_trap ha]; rfl

/-- Settles O3: the branches by their table, the jumps each by its own lemma. -/
theorem controlTransfers : Obligations.ControlTransfers :=
  ⟨branches_of_mem_branchRel, exec_jal, exec_jalr⟩

end Sys2Proof.Scalar
end

section
/-! PROOFS. The scalar registers (R279): reading and writing them, and instructions whose destination is s0. -/

namespace Sys2Proof.Scalar

open Sys2Proof Sys2Proof.Machine Sys2Proof.Claims

/-! ### Register reads and writes -/

@[simp] theorem reg_zero (t : Strand) : t.reg 0 = 0 := rfl

@[simp] theorem setReg_zero (t : Strand) (x : Word) : t.setReg 0 x = t := rfl

@[simp] theorem state_setReg_zero (s : State) (x : Word) : s.setReg 0 x = s := rfl

theorem reg_setReg_same (t : Strand) {i : Nat} (x : Word) (hi : i < 32) (h0 : i ≠ 0) : (t.setReg i x).reg i = x := by
  simp [Strand.reg, Strand.setReg, h0, hi]

theorem reg_setReg_other (t : Strand) {i j : Nat} (x : Word) (h : j ≠ i) : (t.setReg i x).reg j = t.reg j := by
  unfold Strand.setReg
  split
  · rfl
  · simp [Strand.reg, Ne.symm h]

theorem registerWrite : RegisterWrite :=
  fun t _ _ x hi h0 => ⟨reg_setReg_same t x hi h0, reg_setReg_other t x⟩

/-! ### Loads (R293, R294) -/

/-- R294: a load whose checks fail traps. -/
theorem loadThen_of_error {s s1 : State} {ea : Word} {n : Nat} {o : Ord} {c : Nat} (k : State → Nat → Eff)
    (h : resolve s s.me .load none ea n n = (s1, .error c)) : loadThen s ea n o k = .trap s1 c ea none := by
  simp only [loadThen, h]

/-- R294: a load that is answered goes on with its value. -/
theorem loadThen_of_val {s s1 s2 : State} {ea : Word} {n x : Nat} {o : Ord} {g : Target} (k : State → Nat → Eff)
    (h : resolve s s.me .load none ea n n = (s1, .ok g)) (hl : loadAt s1 s1.me g n o = (s2, .val x)) : loadThen s ea n o k = k s2 x := by
  simp only [loadThen, h, hl]

/-- R293: LD.D in its base length has no displacement. -/
theorem memAddr_base (t : Strand) (r : RF) (m n : Nat) : memAddr t (r.view m n) = t.reg r.a.toNat + t.reg r.b.toNat :=
  BitVec.add_zero _

/-- R293: LD.D that is ready ends as its load does. -/
theorem exec_ldD (r : RF) (s : State) (h : ready (.ldD r) s = true) :
    exec (.ldD r) s = finish (r.view 20 3) s
      (loadThen s (s.cur.reg r.a.toNat + s.cur.reg r.b.toNat) 8 (ordOf (viewOf (.ldD r)))
        (fun s x => .ok (s.setReg r.d.toNat (BitVec.ofInt 64 (sextNat (8 * 8) x))))) := by
  rw [exec_of_ready (v := r.view 20 3) (op := memLoad 8 true) rfl rfl rfl h, memLoad, memAddr_base]
  rfl

/-- R293: LD.D whose checks fail traps, whatever its destination. -/
theorem exec_ldD_of_error {r : RF} {s s1 : State} {c : Nat} (h : ready (.ldD r) s = true)
    (hr : resolve s s.me .load none (s.cur.reg r.a.toNat + s.cur.reg r.b.toNat) 8 8 = (s1, .error c)) :
    exec (.ldD r) s = .next (trapped s s1 c (s.cur.reg r.a.toNat + s.cur.reg r.b.toNat)) := by
  rw [exec_ldD r s h, loadThen_of_error _ hr, finish_trap (alone_of_ready h), trapped]

/-- R293: LD.D that is answered writes the doubleword to s[D]. -/
theorem exec_ldD_of_val {r : RF} {s s1 s2 : State} {g : Target} {x : Nat} (h : ready (.ldD r) s = true)
    (hr : resolve s s.me .load none (s.cur.reg r.a.toNat + s.cur.reg r.b.toNat) 8 8 = (s1, .ok g))
    (hl : loadAt s1 s1.me g 8 (ordOf (viewOf (.ldD r))) = (s2, .val x)) :
    exec (.ldD r) s = .next (completed (.ldD r) s (s2.setReg r.d.toNat (BitVec.ofInt 64 (sextNat (8 * 8) x)))) := by
  rw [exec_ldD r s h, loadThen_of_val _ hr hl, finish_ok (alone_of_ready h)]
  rfl

/-! ### Full/empty loads that wait (R326, R327) -/

/-- R326: the port reaches an own-scratchpad word that a load names. -/
theorem portThen_own {s : State} {ea : Word} {n o : Nat} (h : ownBytes s ea n n o) (hn : n ∣ 0x00FD000000000000) (k : State → Place → Eff) :
    portThen s .load ea n none k = k s (.scratch s.modId s.curRef.core o) := by
  have hresolve := resolve_own (k := .load) h hn
  obtain ⟨haddr, hmod, -, -, -, hlt, hstash⟩ := h
  have halign : ea.toNat % n = 0 := by
    rw [haddr, ← Nat.mod_add_mod, Nat.mod_eq_zero_of_dvd hn, Nat.zero_add, hmod]
  have hwindow : inScratchWindows ea = true := by simp [inScratchWindows, haddr]; omega
  have hfill : stashFill s s.curRef.core o = s := by simp [stashFill, stashOwner_none hstash]
  have hclean : poisoned s (.scratch s.modId s.curRef.core o) = false := by simp [poisoned, landing, stashBad, stashOwner_none hstash]
  simp [portThen, halign, hwindow, hresolve, releaseThen, unreachable_own, farBarred_own, hfill, hclean]

/-- R326, R327: what a load with no deadline leaves in its slice's queue. -/
def loadWaiter (u : SlotRef) (loc : Nat) (toEmpty : Bool) (va : Word) (scope : Nat) : PortWait :=
  { loc, who := u, store := none, toEmpty, deadline := none, va, scope }

/-- R327: a load of an empty word with no deadline joins its slice's queue. -/
theorem feLoad_of_empty {s : State} {loc : Nat} (h : wordFull s loc = false) (u : SlotRef) (toEmpty : Bool) (va : Word) (scope : Nat) :
    feLoad s u loc toEmpty none va scope = ({ s with portQueue := s.portQueue ++ [loadWaiter u loc toEmpty va scope] }, .wait) := by
  rw [feLoad, h]; rfl

/-- R326, R327: LD.F or LD.FE with B = 0, of an empty word of the own scratchpad, waits at the port. -/
theorem feLoadOp_of_empty {s : State} {v : View} {o : Nat} (toEmpty : Bool) (hw : s.cur.wait = .none) (hb : v.b = 0)
    (ho : ownBytes s (feAddr s.cur v) 4 4 o) (he : wordFull s (ownLoc s o) = false) :
    feLoadOp toEmpty v s = .wait { s with portQueue := s.portQueue ++ [loadWaiter s.curRef (ownLoc s o) toEmpty (feAddr s.cur v) v.w2.scope.toNat] }
      (.port (ownLoc s o)) := by
  have hfe := feLoad_of_empty he s.curRef toEmpty (feAddr s.cur v) v.w2.scope.toNat
  simp only [ownLoc] at hfe ⊢
  simp only [feLoadOp, hw, hb, if_true, portThen_own ho (by decide), hfe]

/-- Replacing another slot's strand leaves the executing one. -/
theorem setStrand_cur_of_ne {s : State} {u : SlotRef} (h : u ≠ s.curRef) (t : Strand) : (s.setStrand u t).cur = s.cur := by
  rw [State.setStrand, if_neg h]

theorem setStrand_curRef (s : State) (t : Strand) : s.setStrand s.curRef t = { s with cur := t } := if_pos rfl

/-- The two slots of a core are different. -/
theorem otherSlot_ne (u : SlotRef) : ({ u with slot := 1 - u.slot } : SlotRef) ≠ u := by
  intro h
  have hslot : 1 - u.slot = u.slot := congrArg SlotRef.slot h
  omega

/-- R191, R214: what runs in place of the executing strand is of another slot. -/
theorem runOther_cur (s : State) : (runOther s s.curRef).cur = s.cur := by
  simp only [runOther]
  split
  · rfl
  · split
    · exact setStrand_cur_of_ne (otherSlot_ne s.curRef) _
    · rfl

/-- R214: a strand that sleeps waits where it is. -/
theorem sleep_cur (s : State) (w : Wait) : (sleep s s.curRef w).cur = { s.cur with st := .waiting, wait := w } := by
  rw [sleep, setStrand_curRef, strand_curRef]
  exact runOther_cur { s with cur := { s.cur with st := .waiting, wait := w } }

/-- R214: an effect that waits for something other than the memory system puts its strand to sleep where it is. -/
theorem finish_wait_sleeps {v : View} {s t : State} {w : Wait} (ha : alone s.cur = true) (hw : w ≠ .hardware) :
    ∃ u : State, finish v s (.wait t w) = .next u ∧ u.cur.st = .waiting ∧ u.cur.pc = t.cur.pc := by
  refine ⟨sleep (t.asking v) (t.asking v).curRef w, ?_, ?_, ?_⟩
  · simp [finish, multi_of_alone ha, hw, State.asking]
  · rw [sleep_cur]
  · rw [sleep_cur]; rfl

/-- R326, R327: LD.F of an empty word of the own scratchpad puts its strand to sleep at the instruction. -/
theorem exec_ldF_of_empty {r : RF} {s : State} {o : Nat} (hb : r.b = 0) (h : ready (.ldF r) s = true) (hw : s.cur.wait = .none)
    (ho : ownBytes s (s.cur.reg r.a.toNat) 4 4 o) (he : wordFull s (ownLoc s o) = false) :
    ∃ t : State, exec (.ldF r) s = .next t ∧ t.cur.st = .waiting ∧ t.cur.pc = s.cur.pc := by
  have haddr : feAddr s.cur (r.view 24 0) = s.cur.reg r.a.toNat := BitVec.add_zero _
  have hop := feLoadOp_of_empty false hw (v := r.view 24 0) (congrArg BitVec.toNat hb) (haddr.symm ▸ ho) he
  rw [exec_of_ready (v := r.view 24 0) (op := feLoadOp false) rfl rfl rfl h, hop]
  exact finish_wait_sleeps (alone_of_ready h) Wait.noConfusion

/-! ### s0 as a destination -/

/-- R279: an instruction of the table whose destination is s0 writes no register and goes on. -/
theorem exec_alu_of_s0 : ∀ p ∈ aluTable, ∀ (r : RF) (s : State), r.d = 0 → ready (p.1 r) s = true →
    exec (p.1 r) s = .next (completed (p.1 r) s s) := by
  intro p hp r s hd h
  rw [computes_of_mem_aluTable p hp r s h, hd]
  rfl

/-- R279: a JAL to s0 jumps. -/
theorem exec_jal_of_s0 (j : JF) (s : State) (hd : j.d = 0) (h : ready (.jal j) s = true) :
    exec (.jal j) s = .next (jumped (.jal j) s s (s.cur.pc + j.off.signExtend 64 * 4)) := by
  rw [exec_jal j s h, hd]
  rfl

/-- R279: a load to s0 that is answered writes no register. -/
theorem exec_ldD_of_s0 {r : RF} {s s1 s2 : State} {g : Target} {x : Nat} (hd : r.d = 0) (h : ready (.ldD r) s = true)
    (hr : resolve s s.me .load none (s.cur.reg r.a.toNat + s.cur.reg r.b.toNat) 8 8 = (s1, .ok g))
    (hl : loadAt s1 s1.me g 8 (ordOf (viewOf (.ldD r))) = (s2, .val x)) :
    exec (.ldD r) s = .next (completed (.ldD r) s s2) := by
  rw [exec_ldD_of_val h hr hl, hd]
  rfl

theorem registerZero : RegisterZero :=
  ⟨fun t x => ⟨reg_zero t, setReg_zero t x⟩, exec_alu_of_s0, exec_jal_of_s0,
   fun _ _ _ hd h => ⟨fun _ hr => exec_ldD_of_error h hr, fun _ _ _ hr hl => exec_ldD_of_s0 hd h hr hl⟩,
   fun _ _ _ _ hb h hw ho he => exec_ldF_of_empty hb h hw ho he⟩

/-- Settles O5: s0 discards what is written to it and leaves every other effect; another register reads back. -/
theorem scalarRegisters : Obligations.ScalarRegisters := ⟨registerZero, registerWrite⟩

end Sys2Proof.Scalar
end
